-- ==== Sys2Proof/Word.lean ====
section
/-! DEFINITION. The word types of the DN440's ports: bytes of the Stage Port and of the EEPROM, 16-bit words of the
Share Line and of the configuration image, the 4-bit Share Line address and the seven strap pins. -/

namespace Sys2Proof

/-- A byte of a Stage Port record (section 9.9) or of the EEPROM (Table 10-1). -/
abbrev Byte := BitVec 8

/-- A payload word of a Share Line frame (R143) or a word of the configuration image (section 10.2). -/
abbrev Word := BitVec 16

/-- A Share Line address, 0 to 15 (section 1, Table 1-1). -/
abbrev Address := BitVec 4

/-- The seven strap pins, STRAP0 the least significant bit (R176). -/
abbrev Straps := BitVec 7

end Sys2Proof
end

