-- ==== Sys2Proof/Syntax.lean ====
section
/-! DEFINITION. The commands of the DN440: one constructor per row of spec/opcode_table.json, with what the event brings
from outside as its operands. -/

namespace Sys2Proof

/-- What stands on ULINK_SENSE when the node's own converter samples it (R163): an open input, or a level in millivolts. -/
inductive Sense where
  | openInput
  | millivolts (mv : Nat)
  deriving DecidableEq, Repr

/-- How the steps of a CONFIG_WRITE went (R173): both words stored, a read not acknowledged, the write of the word
itself not acknowledged, or the write of word 63 not acknowledged. -/
inductive WriteOutcome where
  | stored
  | readFailed
  | wordFailed
  | checkFailed
  deriving DecidableEq, Repr

/-- The commands. A frame brings its source address and payload words; a service request brings its source, its target
and the argument words after word 0; a command at which the straps may be sampled brings the pins' levels. -/
inductive Instr where
  /-- POWER_ON (R175), with the strap pins' levels. -/
  | powerOn (pins : Straps)
  /-- BROWN_OUT (R175), with the strap pins' levels. -/
  | brownOut (pins : Straps)
  /-- BOOT_LOAD_COMPLETE (R170): whether every read of the image was acknowledged, and for each slot every read of it. -/
  | bootLoadComplete (imageAck : Bool) (slotAcks : BitVec 8)
  /-- DEMAND_ARRIVAL (R40): a good DEMAND frame, whatever its source and length (R39). -/
  | demandArrival (src : Address) (words : List Word)
  /-- STATE_ARRIVAL (R29): a good STATE frame, whatever its source (R27). -/
  | stateArrival (src : Address) (words : List Word)
  /-- BAD_FRAME (R144): a malformed or bad frame. -/
  | badFrame
  /-- WINDOW_TIMER_EXPIRY (R147). -/
  | windowTimerExpiry
  /-- IDENTIFY (R183). -/
  | identify (src target : Address) (args : List Word)
  /-- READ_STATUS (R183). -/
  | readStatus (src target : Address) (args : List Word)
  /-- CLEAR (R132). -/
  | clear (src target : Address) (args : List Word)
  /-- FORCE_FAULT (R133). -/
  | forceFault (src target : Address) (args : List Word)
  /-- RELEASE_FAULT (R133). -/
  | releaseFault (src target : Address) (args : List Word)
  /-- FORCE_WARN (R133). -/
  | forceWarn (src target : Address) (args : List Word)
  /-- RELEASE_WARN (R133). -/
  | releaseWarn (src target : Address) (args : List Word)
  /-- READ_WEAR (R127). -/
  | readWear (src target : Address) (args : List Word)
  /-- WEAR_RESET (R125). -/
  | wearReset (src target : Address) (args : List Word)
  /-- CONFIG_READ (R173). -/
  | configRead (src target : Address) (args : List Word)
  /-- CONFIG_WRITE (R173). -/
  | configWrite (src target : Address) (args : List Word)
  /-- RESTART (R184). -/
  | restart (src target : Address) (args : List Word)
  /-- REBOOT (R184). -/
  | reboot (src target : Address) (args : List Word)
  /-- ATTEMPT_START (R149). -/
  | attemptStart
  /-- ARBITRATION_LOST (R152). -/
  | arbitrationLost
  /-- ATTEMPT_ABANDONED (R153). -/
  | attemptAbandoned
  /-- ATTEMPT_COMPLETE (R153), with the strap pins' levels for a REBOOT it may bring about. -/
  | attemptComplete (pins : Straps)
  /-- SILENCE_TIMER_EXPIRY (R154). -/
  | silenceTimerExpiry
  /-- STATE_PERIOD_EXPIRY (R150). -/
  | statePeriodExpiry
  /-- AGE_TIMER_STALE (R33), of the entry with this address. -/
  | ageTimerStale (address : Address)
  /-- AGE_TIMER_LOST (R33), of the entry with this address. -/
  | ageTimerLost (address : Address)
  /-- DEMAND_TIMER_EXPIRY (R41). -/
  | demandTimerExpiry
  /-- EXCHANGE_START (R157), with what stands on ULINK_SENSE. -/
  | exchangeStart (sense : Sense)
  /-- EXCHANGE_COMPLETION (R157), with the bytes shifted in. -/
  | exchangeCompletion (record : List Byte)
  /-- SETTLE_TIMER_EXPIRY (R161). -/
  | settleTimerExpiry
  /-- PARTNER_RESET_RELEASE (R165). -/
  | partnerResetRelease
  /-- FINAL_EXCHANGE_END (R165). -/
  | finalExchangeEnd
  /-- RAMP_TIMER_EXPIRY (R67). -/
  | rampTimerExpiry
  /-- SLIP_HOLD_TIMER_EXPIRY (R62). -/
  | slipHoldTimerExpiry
  /-- TICK (R87). -/
  | tick
  /-- CRANK_TIMER_EXPIRY (R96). -/
  | crankTimerExpiry
  /-- WARM_TIMER_EXPIRY (R97). -/
  | warmTimerExpiry
  /-- RUN_TIMER_EXPIRY (R97). -/
  | runTimerExpiry
  /-- COOLDOWN_TIMER_EXPIRY (R101). -/
  | cooldownTimerExpiry
  /-- MINUTE_TIMER_EXPIRY (R116). -/
  | minuteTimerExpiry
  /-- RECHECK_TIMER_EXPIRY (R169), with a storage upset of the running copy found by it: a word number and the bits
  that have flipped (log entry 21). -/
  | recheckTimerExpiry (upset : Option (BitVec 6 × Word))
  /-- FLUSH_TIMER_EXPIRY (R171). -/
  | flushTimerExpiry
  /-- PAGE_STORED (R172), with the strap pins' levels for a REBOOT it may bring about. -/
  | pageStored (pins : Straps)
  /-- PAGE_TIMEOUT (R172), with the strap pins' levels for a REBOOT it may bring about. -/
  | pageTimeout (pins : Straps)
  /-- CONFIG_READ_COMPLETE (R173): whether the read was acknowledged. -/
  | configReadComplete (ack : Bool) (pins : Straps)
  /-- CONFIG_WRITE_COMPLETE (R173). -/
  | configWriteComplete (outcome : WriteOutcome) (pins : Straps)
  /-- STRAP_CHECK_EXPIRY (R179), with the strap pins' levels. -/
  | strapCheckExpiry (pins : Straps)
  /-- SYNC_TIMER_EXPIRY (R178). -/
  | syncTimerExpiry
  /-- SHUTDOWN_HOLD_EXPIRY (R180). -/
  | shutdownHoldExpiry
  /-- REPLY_LIMIT_EXPIRY (R184), with the strap pins' levels for a REBOOT it may bring about. -/
  | replyLimitExpiry (pins : Straps)
  /-- UNSUPPORTED_REQUEST (R182), with its request code. -/
  | unsupportedRequest (src target : Address) (code : BitVec 8) (args : List Word)
  /-- SVC_REPLY_ARRIVAL (R146). -/
  | svcReplyArrival (src : Address) (words : List Word)
  /-- RECEIVER_IDLE (R142). -/
  | receiverIdle
  deriving DecidableEq, Repr

end Sys2Proof
end

