-- ==== Sys2Proof/WellFormed.lean ====
section
/-! DEFINITION. Which commands can occur: the checks on their operands that the frame and record layouts impose. A
meaning is total on the others too (log entry 27). -/

namespace Sys2Proof

/-- A payload that a frame's length field can carry (R143, R144). -/
def payloadFits (words : List Word) : Bool := words.length ≤ 6

/-- A STATE payload whose header role and length agree (R144). -/
def statePayloadGood (words : List Word) : Bool :=
  match (words.getD 0 0).extractLsb' 14 2 with
  | 1#2 => words.length == 6
  | 2#2 => words.length == 5
  | 3#2 => words.length == 4
  | _ => false

/-- Argument words that fit behind word 0 of a service request (R143, Table 8.8-4). -/
def argumentsFit (args : List Word) : Bool := args.length ≤ 5

/-- A request code that names one of the thirteen requests (Table 8.8-5). -/
def codeSupported (code : BitVec 8) : Bool := 1 ≤ code.toNat && code.toNat ≤ 13

/-- The checks of a command's operands. -/
def WellFormed : Instr → Bool
  | .demandArrival _ words => payloadFits words
  | .stateArrival _ words => statePayloadGood words
  | .svcReplyArrival _ words => payloadFits words && !words.isEmpty
  | .identify _ _ args | .readStatus _ _ args | .clear _ _ args | .forceFault _ _ args | .releaseFault _ _ args
  | .forceWarn _ _ args | .releaseWarn _ _ args | .readWear _ _ args | .wearReset _ _ args | .configRead _ _ args
  | .configWrite _ _ args | .restart _ _ args | .reboot _ _ args => argumentsFit args
  | .unsupportedRequest _ _ code args => argumentsFit args && !codeSupported code
  | .exchangeCompletion record => record.length == 16
  | .powerOn _ | .brownOut _ | .bootLoadComplete _ _ | .badFrame | .windowTimerExpiry | .attemptStart
  | .arbitrationLost | .attemptAbandoned | .attemptComplete _ | .silenceTimerExpiry | .statePeriodExpiry
  | .ageTimerStale _ | .ageTimerLost _ | .demandTimerExpiry | .exchangeStart _ | .settleTimerExpiry
  | .partnerResetRelease | .finalExchangeEnd | .rampTimerExpiry | .slipHoldTimerExpiry | .tick | .crankTimerExpiry
  | .warmTimerExpiry | .runTimerExpiry | .cooldownTimerExpiry | .minuteTimerExpiry | .recheckTimerExpiry _
  | .flushTimerExpiry | .pageStored _ | .pageTimeout _ | .configReadComplete _ _ | .configWriteComplete _ _
  | .strapCheckExpiry _ | .syncTimerExpiry | .shutdownHoldExpiry | .replyLimitExpiry _ | .receiverIdle => true

end Sys2Proof
end

