-- ==== Sys2Proof/Config.lean ====
section
/-! DEFINITION. The free values: what the manual leaves open and the machine goes on with. None has a body, so no proof
can rest on a value of one. Each is applied to the state's counter of free values, or to the operands it depends on. -/

namespace Sys2Proof.Config

/-- A byte of an EEPROM page or word whose write did not end (R172, R173, R174): the manual says that the slot's check
is bad, or nothing, and gives no byte (log entries 7 and 8). -/
opaque tornByte : Nat → Byte

/-- The slip kind bit of READ_STATUS while the slip machine is in GRIP, where it has no kind (Table 8.8-5, log entry 12). -/
opaque gripKindBit : Nat → Bool

/-- The scheduler clock after 2^32 − 1, the end of its range (Table 5.1-1, log entry 23). -/
opaque clockPastEnd : Nat → BitVec 32

/-- A quotient whose divisor is a configuration value that a corrupted running copy makes 0 (log entry 22). -/
opaque quotientByZero : Nat → Nat

end Sys2Proof.Config
end

