-- ==== Sys2Proof/Machine/State.lean ====
section
/-! DEFINITION. The state of the DN440, block by block as Table 2-1 of the scope lists them, the outcomes' reason types
and the state right after reset. Plain data throughout. -/

namespace Sys2Proof.Machine

/-! ### Timers -/

/-- A timer (section 4.4): running or stopped, with the milliseconds elapsed since its start. -/
structure Timer where
  running : Bool
  elapsed : Nat
  deriving DecidableEq, Repr

/-- A stopped timer at 0 (log entry 45). -/
def Timer.stopped : Timer := ⟨false, 0⟩

/-- A timer started from 0. -/
def Timer.started : Timer := ⟨true, 0⟩

/-- A timer whose expiry is remembered after it: the SYNC timer (R178) and the settle timer (R161). -/
inductive OneShot where
  | stopped
  | running (elapsed : Nat)
  | expired
  deriving DecidableEq, Repr

/-! ### Names (section 4.5) -/

/-- The roles (Table 1-2). -/
inductive Role where
  | axle
  | pack
  | genset
  deriving DecidableEq, Repr

/-- The operating states, in the order of their codes (Table 8.8-2). -/
inductive OpState where
  | boot
  | sync
  | active
  | withdrawn
  | standby
  | mute
  deriving DecidableEq, Repr

/-- The reset kinds, in the order of their cause codes (Table 11.1-1). -/
inductive ResetKind where
  | powerOn
  | brownOut
  | reboot
  | restart
  | wake
  deriving DecidableEq, Repr

/-- The engine states, in the order of their codes (Table 8.8-2). -/
inductive EngineState where
  | off
  | cranking
  | warming
  | running
  | cooldown
  | faulted
  deriving DecidableEq, Repr

/-- A peer's reported operating state; two codes name none (R28). -/
inductive Reported where
  | known (op : OpState)
  | unassigned
  deriving DecidableEq, Repr

/-- The freshness of an entry (R33). -/
inductive Freshness where
  | fresh
  | stale
  | lost
  deriving DecidableEq, Repr

/-- The kinds of slip (R61). -/
inductive SlipKind where
  | braking
  | traction
  deriving DecidableEq, Repr

/-- The slip machine's state; a kind in SLIP and RECOVER alone (R60). -/
inductive SlipState where
  | grip
  | slip (kind : SlipKind)
  | recover (kind : SlipKind)
  deriving DecidableEq, Repr

/-- The drive ramp's modes (R65). -/
inductive RampMode where
  | none
  | down
  | up
  deriving DecidableEq, Repr

/-- The engine commands (R91). -/
inductive EngineCommand where
  | stop
  | crank
  | run
  deriving DecidableEq, Repr

/-- What the engine controller reports (Table 9.9-2). -/
inductive EngineReport where
  | stopped
  | cranking
  | running
  deriving DecidableEq, Repr

/-- The states of a wear item (R120). -/
inductive WearState where
  | ok
  | near
  | due
  deriving DecidableEq, Repr

/-- The 24 statuses, in the order of their indices (Table 7.1-1). -/
inductive Status where
  | clash
  | strap
  | cfgDefault
  | cfgCorrupt
  | memFault
  | wearBlank
  | stageLost
  | partnerFault
  | plausU
  | plausSpeed
  | speedFault
  | demandLost
  | linkQuiet
  | linkNoisy
  | tableFull
  | shortBrake
  | derate
  | stageHot
  | wearNear
  | wearDue
  | startFail
  | stall
  | forcedFault
  | forcedWarn
  deriving DecidableEq, Repr

/-- A set of statuses: bit i is the status of index i, as the masks and the reply to READ_STATUS number them. -/
abbrev StatusSet := BitVec 24

/-- The result codes of a reply (Table 8.8-4). -/
inductive ReplyResult where
  | done
  | refusedMoving
  | badItem
  | busy
  | memFail
  | unsupported
  deriving DecidableEq, Repr

/-- A request for a reset that has been accepted (R184): RESTART, REBOOT before its reply has gone, REBOOT waiting on
its flush. -/
inductive PendingReset where
  | none
  | restart
  | reboot
  | rebootFlush
  deriving DecidableEq, Repr

/-! ### Blocks -/

/-- The Node Sequencer (chapter 11). -/
structure Sequencer where
  /-- Operating state. -/
  op : OpState
  /-- Strap sample (R176). -/
  sample : Straps
  /-- Reset-cause record (R175). -/
  cause : ResetKind
  /-- SYNC timer, 100 ms (R178). -/
  sync : OneShot
  /-- Strap check timer, 100 ms period (R179). -/
  strapCheck : Timer
  /-- Whether the last strap check found a difference (R179). -/
  strapDiffers : Bool
  /-- Shutdown hold timer, 2 s (R180). -/
  hold : Timer
  /-- Whether the shutdown hold is met (R180). -/
  holdMet : Bool
  /-- Reply limit, 100 ms (R184). -/
  limit : Timer
  /-- Pending RESTART or REBOOT (R184). -/
  pendingReset : PendingReset
  deriving DecidableEq, Repr

/-- The levels on the strap pins and the discrete lines (Table 8.9-1). -/
structure PinLevels where
  straps : Straps
  ready : Bool
  traction : Bool
  partnerReset : Bool
  deriving DecidableEq, Repr

/-- The Status Unit (chapter 7). -/
structure StatusUnit where
  /-- The status set (R128). -/
  set : StatusSet
  /-- Force fault flag (R133). -/
  forceFault : Bool
  /-- Force warn flag (R133). -/
  forceWarn : Bool
  /-- The F value held for the prompt comparison (R138). -/
  fValue : Bool
  deriving DecidableEq, Repr

/-- The role part of a peer entry (Table 2.1-1). -/
inductive RolePart where
  | axle (pAct : Int) (pd pr fb q : Nat)
  | pack (po pa soc : Nat)
  | genset (po pa : Nat) (engine : EngineState)
  deriving DecidableEq, Repr

/-- A peer entry (R25). -/
structure PeerEntry where
  address : Address
  part : RolePart
  reported : Reported
  freshness : Freshness
  ageTimer : Timer
  deriving DecidableEq, Repr

/-- The demand record (R38); its age is the demand timer. -/
structure DemandRecord where
  present : Bool
  d : Int
  v : Nat
  aux : Nat
  parked : Bool
  quiet : Bool
  shutdown : Bool
  hold : Bool
  deriving DecidableEq, Repr

/-- The Peer Table (chapter 2). -/
structure PeerTable where
  entries : List PeerEntry
  demand : DemandRecord
  demandTimer : Timer
  deriving DecidableEq, Repr

/-- The Share Engine's share record (R2). -/
structure ShareRecord where
  d : Nat
  r : Nat
  f : Nat
  clamp : Bool
  shortBrake : Bool
  deriving DecidableEq, Repr

/-- The own capability record in the AXLE role (R46). -/
structure AxleRecord where
  pd : Nat
  pr : Nat
  fb : Nat
  q : Nat
  slip : Bool
  pAct : Int
  deriving DecidableEq, Repr

/-- The Blend Unit (R45). -/
structure BlendUnit where
  gd : Nat
  gr : Nat
  dE : Nat
  rE : Nat
  fE : Nat
  clampBinds : Bool
  torque : Int
  pressure : Nat
  ramp : RampMode
  limitM : Nat
  slip : SlipState
  limitL : Nat
  slipHold : Timer
  rampTimer : Timer
  own : AxleRecord
  deriving DecidableEq, Repr

/-- The own capability record in the PACK role (R78); Po and Pa are the advertised limits of R76. -/
structure PackRecord where
  po : Nat
  pa : Nat
  soc : Nat
  pAct : Int
  deriving DecidableEq, Repr

/-- The Pack Limits Unit (R70). U_ref is read from the running copy. -/
structure PackUnit where
  pd0 : Nat
  poF : Nat
  pa0 : Nat
  pa1 : Nat
  pa2 : Nat
  paF : Nat
  iDis : Nat
  iChg : Nat
  own : PackRecord
  deriving DecidableEq, Repr

/-- The Genset Scheduler (R86). The own capability record (R107) is `engine`, `ownPo`, `ownPa` and `ownPAct`. -/
structure Genset where
  engine : EngineState
  clock : Nat
  netLoad : List Int
  nBar : Int
  socMin : Nat
  primary : Bool
  starts : List Nat
  failures : Nat
  off : Timer
  /-- Required dwell of the off timer, in s. -/
  dwell : Nat
  crank : Timer
  warm : Timer
  run : Timer
  runMet : Bool
  cooldown : Timer
  pSet : Nat
  command : EngineCommand
  adoption : Bool
  tick : Timer
  ownPo : Nat
  ownPa : Nat
  ownPAct : Int
  deriving DecidableEq, Repr

/-- A wear item (R110); its thresholds are read from the running copy. -/
structure WearItem where
  acc : Nat
  residue : Nat
  state : WearState
  deriving DecidableEq, Repr

/-- The Wear Accounting Unit (chapter 6). -/
structure Wear where
  items : List WearItem
  armA4 : Bool
  armS3 : Bool
  hot : Bool
  minute : Timer
  runSeconds : Nat
  q : Nat
  dw : Nat
  deriving DecidableEq, Repr

/-- The receiver's line state (R142); stopped in BOOT (R155). -/
inductive LineState where
  | stopped
  | waitIdle (count : Nat)
  | idle
  | receive
  deriving DecidableEq, Repr

/-- The conditions of the STATE place (Table 8.3-1). -/
inductive PlaceCondition where
  | empty
  | queued
  | inFlight
  deriving DecidableEq, Repr

/-- Place 0 of the transmit queue (R148). -/
structure StatePlace where
  condition : PlaceCondition
  /-- Urgency 1 or 2. -/
  urgency : Nat
  followOn : Bool
  carried : StatusSet
  deriving DecidableEq, Repr

/-- The conditions of a reply place that is not empty (Table 8.3-1). -/
inductive ReplyCondition where
  | reserved
  | queued
  | inFlight
  deriving DecidableEq, Repr

/-- A reply place, 1 to 3, that is not empty (R148). -/
structure ReplyPlace where
  place : Nat
  condition : ReplyCondition
  code : BitVec 8
  result : ReplyResult
  data : List Word
  deriving DecidableEq, Repr

/-- A frame (R143): the length is the number of payload words, the end bits are recessive. -/
structure Frame where
  urgency : BitVec 3
  source : Address
  kind : BitVec 3
  words : List Word
  check : Word
  deriving DecidableEq, Repr

/-- The Share Line Interface (chapter 8). -/
structure LineUnit where
  line : LineState
  state : StatePlace
  /-- The reply places that are not empty, in order of reservation. -/
  replies : List ReplyPlace
  /-- The frame in flight. -/
  sending : Option Frame
  period : Timer
  failures : Nat
  silent : Bool
  silence : Timer
  rxErrors : Nat
  window : Timer
  deriving DecidableEq, Repr

/-- A setpoint record (Table 9.9-1). -/
inductive Setpoint where
  | torque (t : Int)
  | pressure (p : Nat)
  | converter (uRef iDis iChg : Nat)
  | generator (p : Nat)
  | engine (command : EngineCommand)
  deriving DecidableEq, Repr

/-- The held measurement record of partner 0 (R160). -/
structure Partner0 where
  nibble : BitVec 4
  uLink : Nat
  n : Int
  pAct : Int
  ts : Int
  fault : Bool
  deriving DecidableEq, Repr

/-- The fields of a measurement record of partner 1, by role (Table 9.9-2). -/
inductive Partner1Data where
  | modulator (pFb wLeft wRight : Nat) (fault : Bool)
  | monitor (uPack soc : Nat) (tPack : Int) (iChgMax iDisMax : Nat) (iPack : Int) (fault : Bool)
  | controller (engine : EngineReport) (coolant : Int)
  deriving DecidableEq, Repr

/-- The held measurement record of partner 1 (R160). -/
structure Partner1 where
  nibble : BitVec 4
  data : Partner1Data
  deriving DecidableEq, Repr

/-- The own link-voltage reading (R163). -/
inductive OwnReading where
  | none
  | outOfRange
  | volts (u : Nat)
  deriving DecidableEq, Repr

/-- The two partners (R156). -/
inductive Partner where
  | p0
  | p1
  deriving DecidableEq, Repr

/-- An exchange in flight (R157): its partner, the bytes shifted out, and the sample of the own link voltage. -/
structure Exchange where
  partner : Partner
  out : List Byte
  sample : OwnReading
  deriving DecidableEq, Repr

/-- The final exchanges at STANDBY entry (R165): none begun, waiting for an exchange in flight at entry to end, the one
with partner 0, the one with partner 1, both ended. -/
inductive FinalPhase where
  | none
  | awaiting
  | partner0
  | partner1
  | ended
  deriving DecidableEq, Repr

/-- The Stage Port (Table 9-1). -/
structure StagePort where
  slot0 : Option Setpoint
  slot1 : Option Setpoint
  seq0 : BitVec 4
  seq1 : BitVec 4
  held0 : Option Partner0
  held1 : Option Partner1
  fail0 : Nat
  fail1 : Nat
  heldSpeed : Option Int
  rejections : Nat
  own : OwnReading
  exchange : Timer
  settle : OneShot
  turn : Partner
  inFlight : Option Exchange
  final : FinalPhase
  /-- The 10 ms of PARTNER_RESET after RESTART (R165). -/
  release : Timer
  deriving DecidableEq, Repr

/-- The EEPROM's contents: the bytes that differ from what an unlisted address reads as, at strictly rising addresses. -/
abbrev Memory := List Host.Cell

/-- The parties that wait on a flush (R167); a WEAR_RESET with its reply place and its item. -/
inductive Party where
  | wearReset (place item : Nat)
  | standby
  | reboot
  deriving DecidableEq, Repr

/-- What a flush writes (R127): the accumulators in item order and the residues of A1, A2 and S1. -/
structure Snapshot where
  accs : List Nat
  resA1 : Nat
  resA2 : Nat
  resS1 : Nat
  deriving DecidableEq, Repr

/-- A flush in flight (R172): which attempt (1 or 2) into which slot with which sequence number, which page (1 or 2)
stands to be acknowledged, and who waits. -/
structure FlushJob where
  snapshot : Snapshot
  attempt : Nat
  slot : Nat
  seq : Nat
  page : Nat
  parties : List Party
  deriving DecidableEq, Repr

/-- The operation in flight on the EEPROM (R167); a service request with its reply place, none where a RESTART has
emptied it (R174). -/
inductive Operation where
  | none
  | bootLoad
  | flush (job : FlushJob)
  | configRead (place : Option Nat) (word : Nat)
  | configWrite (place : Option Nat) (word : Nat) (mask value : Word)
  deriving DecidableEq, Repr

/-- The Memory Port (chapter 10) and the node's EEPROM. -/
structure MemoryPort where
  /-- Running copy of the configuration image (R168). -/
  copy : List Word
  /-- Whether the running copy is the built-in defaults (Table 7.2-1). -/
  copyDefault : Bool
  /-- Whether the last recheck found a mismatch (R169). -/
  recheckBad : Bool
  ringSlot : Nat
  ringSeq : Nat
  op : Operation
  /-- The pending flush, with the parties that wait on it (R167). -/
  pendingFlush : Option (List Party)
  flush : Timer
  recheck : Timer
  /-- Acknowledge polling, 20 ms: of the page in flight (R172), or of a CONFIG_WRITE's writes (R173, log entry 49). -/
  poll : Timer
  eeprom : Memory
  /-- The model's own: slots left with a bad check by a write that did not end (R172, R174, log entry 7). -/
  torn : BitVec 8
  deriving DecidableEq, Repr

/-- The state of the node. -/
structure State where
  nsq : Sequencer
  pins : PinLevels
  stu : StatusUnit
  ptb : PeerTable
  she : ShareRecord
  blu : BlendUnit
  plu : PackUnit
  gsc : Genset
  wau : Wear
  sli : LineUnit
  stp : StagePort
  mpt : MemoryPort
  /-- The model's own: how many free values have been used. -/
  free : Nat
  /-- The commands that are waiting, first in first out. -/
  pending : List Instr
  deriving DecidableEq, Repr

/-- Why a step can stop: the manual gives no event at which the part stops, so there is no fault. -/
inductive Fault : Type
  deriving DecidableEq, Repr

/-- Why a command can be refused: none is. -/
inductive Refusal where
  /-- A command without a meaning, rejected by name (safe). No arm of exec raises it. -/
  | notModelled (mnemonic : String)
  deriving DecidableEq, Repr

/-! ### Reset values, block by block -/

/-- Share record after every reset kind (Table 1.1-1). -/
def ShareRecord.initial : ShareRecord := ⟨0, 0, 0, false, false⟩

/-- Demand record after every reset kind (Table 2.5-1). -/
def DemandRecord.initial : DemandRecord := ⟨false, 0, 0, 0, false, false, false, false⟩

/-- Peer Table after every reset kind (R37, R38). -/
def PeerTable.initial : PeerTable := ⟨[], DemandRecord.initial, Timer.stopped⟩

/-- Blend Unit after every reset kind (Table 3.1-1), with the pad weight of the Wear Accounting Unit (R69), which is
log entry 6's in BOOT before the load. -/
def BlendUnit.initial (q : Nat) : BlendUnit where
  gd := 100
  gr := 100
  dE := 0
  rE := 0
  fE := 0
  clampBinds := false
  torque := 0
  pressure := 0
  ramp := .none
  limitM := 0
  slip := .grip
  limitL := 0
  slipHold := Timer.stopped
  rampTimer := Timer.stopped
  own := ⟨0, 0, 0, q, false, 0⟩

/-- Pack Limits Unit after every reset kind (R85). -/
def PackUnit.initial : PackUnit := ⟨0, 0, 0, 0, 0, 0, 0, 0, ⟨0, 0, 0, 0⟩⟩

/-- Genset Scheduler after every reset kind (R109). -/
def Genset.initial : Genset where
  engine := .off
  clock := 0
  netLoad := []
  nBar := 0
  socMin := 0
  primary := true
  starts := []
  failures := 0
  off := Timer.stopped
  dwell := 20
  crank := Timer.stopped
  warm := Timer.stopped
  run := Timer.stopped
  runMet := false
  cooldown := Timer.stopped
  pSet := 0
  command := .stop
  adoption := true
  tick := Timer.stopped
  ownPo := 0
  ownPa := 0
  ownPAct := 0

/-- A wear table of `n` items at 0, with q and d_w at 100, before the boot load (log entry 6; in MUTE as R126 states). -/
def Wear.blank (n : Nat) : Wear where
  items := List.replicate n ⟨0, 0, .ok⟩
  armA4 := false
  armS3 := false
  hot := false
  minute := Timer.stopped
  runSeconds := 0
  q := 100
  dw := 100

/-- Status Unit with an empty set (R141). -/
def StatusUnit.initial : StatusUnit := ⟨0, false, false, false⟩

/-- Share Line Interface after every reset kind, the receiver stopped (R155). The urgency of the empty STATE place, which R155
does not give, is the periodic 2 (DESIGN CHOICE, log entry 44). -/
def LineUnit.initial : LineUnit where
  line := .stopped
  state := ⟨.empty, 2, false, 0⟩
  replies := []
  sending := none
  period := Timer.stopped
  failures := 0
  silent := false
  silence := Timer.stopped
  rxErrors := 0
  window := Timer.stopped

/-- Stage Port after every reset kind (Table 9-1). -/
def StagePort.initial : StagePort where
  slot0 := none
  slot1 := none
  seq0 := 0
  seq1 := 0
  held0 := none
  held1 := none
  fail0 := 0
  fail1 := 0
  heldSpeed := none
  rejections := 0
  own := .none
  exchange := Timer.stopped
  settle := .stopped
  turn := .p0
  inFlight := none
  final := .none
  release := Timer.stopped

/-- Memory Port in BOOT, before the boot load has ended, with the EEPROM's contents (R174, log entry 6). -/
def MemoryPort.initial (op : Operation) (eeprom : Memory) (torn : BitVec 8) : MemoryPort where
  copy := List.replicate 64 0
  copyDefault := false
  recheckBad := false
  ringSlot := 7
  ringSeq := 0
  op := op
  pendingFlush := none
  flush := Timer.stopped
  recheck := Timer.stopped
  poll := Timer.stopped
  eeprom := eeprom
  torn := torn

/-- Node Sequencer after a reset into `op` (R175). -/
def Sequencer.initial (op : OpState) (sample : Straps) (cause : ResetKind) : Sequencer where
  op := op
  sample := sample
  cause := cause
  sync := .stopped
  strapCheck := Timer.stopped
  strapDiffers := false
  hold := Timer.stopped
  holdMet := false
  limit := Timer.stopped
  pendingReset := .none

/-- The strap pins at State.reset: role code 1 (AXLE), address 1 (DESIGN CHOICE, log entry 5). -/
def resetStraps : Straps := 0b0001001

/-- The node right after POWER_ON, in BOOT with the boot load in flight (R175, R177), on a blank EEPROM. The pad weight q,
in the own capability record and in the Wear Accounting Unit, is 100 until the load (DESIGN CHOICE, log entry 6). -/
def State.reset : State where
  nsq := Sequencer.initial .boot resetStraps .powerOn
  pins := ⟨resetStraps, false, false, true⟩
  stu := StatusUnit.initial
  ptb := PeerTable.initial
  she := ShareRecord.initial
  blu := BlendUnit.initial 100
  plu := PackUnit.initial
  gsc := Genset.initial
  wau := Wear.blank 4
  sli := LineUnit.initial
  stp := StagePort.initial
  mpt := MemoryPort.initial .bootLoad [] 0
  free := 0
  pending := []

/-! ### Updates of one block

Every meaning changes the state through these; Laws/State.lean holds one lemma per block and update. -/

def State.setNsq (s : State) (b : Sequencer) : State := { s with nsq := b }
def State.setPins (s : State) (b : PinLevels) : State := { s with pins := b }
def State.setStu (s : State) (b : StatusUnit) : State := { s with stu := b }
def State.setPtb (s : State) (b : PeerTable) : State := { s with ptb := b }
def State.setShe (s : State) (b : ShareRecord) : State := { s with she := b }
def State.setBlu (s : State) (b : BlendUnit) : State := { s with blu := b }
def State.setPlu (s : State) (b : PackUnit) : State := { s with plu := b }
def State.setGsc (s : State) (b : Genset) : State := { s with gsc := b }
def State.setWau (s : State) (b : Wear) : State := { s with wau := b }
def State.setSli (s : State) (b : LineUnit) : State := { s with sli := b }
def State.setStp (s : State) (b : StagePort) : State := { s with stp := b }
def State.setMpt (s : State) (b : MemoryPort) : State := { s with mpt := b }
def State.setFree (s : State) (b : Nat) : State := { s with free := b }
def State.setPending (s : State) (b : List Instr) : State := { s with pending := b }

/-- The outcome of a command. -/
abbrev Outcome := Host.Outcome State Fault Refusal

end Sys2Proof.Machine
end

