-- ==== Sys2Proof/Machine/Operands.lean ====
section
/-! DEFINITION. Reading what a command brings: fields of payload words and of measurement records, brought into range as
R28, R40 and R160 say, and the codes of Tables 8.8-1 to 8.8-5 and 9.9-1, 9.9-2 in both directions. -/

namespace Sys2Proof.Machine

/-! ### Ranges (section 4.3) -/

/-- A quantity clamped to the range `lo` to `hi`. -/
def clampInt (lo hi x : Int) : Int := if x < lo then lo else if hi < x then hi else x

/-- An unsigned quantity limited to `hi`. -/
def clampNat (hi x : Nat) : Nat := if hi < x then hi else x

/-- A flag as a number, 0 or 1. -/
def bitOf (b : Bool) : Nat := if b then 1 else 0

/-! ### Identity (R176) -/

/-- The role a code names, in the strap sample, a STATE header or a slot. -/
def roleOfCode : Nat → Option Role
  | 1 => some .axle
  | 2 => some .pack
  | 3 => some .genset
  | _ => none

/-- The role codes (R176, Table 8.8-2, Table 10.3-1). -/
def Role.code : Role → Nat
  | .axle => 1
  | .pack => 2
  | .genset => 3

/-- The role code of a strap sample, STRAP0 to STRAP2. -/
def strapCode (p : Straps) : Nat := (p.extractLsb' 0 3).toNat

/-- The address field of a strap sample, STRAP3 to STRAP6. -/
def strapAddress (p : Straps) : Address := p.extractLsb' 3 4

/-- The role of a strap sample; none where the sample is invalid (R176). -/
def strapRole (p : Straps) : Option Role :=
  if strapAddress p = 0 ∨ strapAddress p = 15 then none else roleOfCode (strapCode p)

/-- The node's role; none in MUTE. -/
def State.role (s : State) : Option Role := strapRole s.nsq.sample

/-- The node's own address: the address field of its strap sample, whatever its value (R146). -/
def State.ownAddress (s : State) : Address := strapAddress s.nsq.sample

/-- The operating states in which the blocks act and frames are handed inward (R26, R45, R145). -/
def OpState.serves : OpState → Bool
  | .sync | .active | .withdrawn => true
  | .boot | .standby | .mute => false

/-- Whether the node's operating state is SYNC, ACTIVE or WITHDRAWN. -/
def State.serves (s : State) : Bool := s.nsq.op.serves

/-! ### Codes -/

/-- The operating state codes (Table 8.8-2). -/
def OpState.code : OpState → Nat
  | .boot => 0
  | .sync => 1
  | .active => 2
  | .withdrawn => 3
  | .standby => 4
  | .mute => 5

/-- The operating state a header code names; 6 and 7 name none (R28). -/
def reportedOfCode : Nat → Reported
  | 0 => .known .boot
  | 1 => .known .sync
  | 2 => .known .active
  | 3 => .known .withdrawn
  | 4 => .known .standby
  | 5 => .known .mute
  | _ => .unassigned

/-- The engine state codes (Table 8.8-2). -/
def EngineState.code : EngineState → Nat
  | .off => 0
  | .cranking => 1
  | .warming => 2
  | .running => 3
  | .cooldown => 4
  | .faulted => 5

/-- The engine state a header code names; 6 and 7 are taken as FAULTED (R28). -/
def engineOfCode : Nat → EngineState
  | 0 => .off
  | 1 => .cranking
  | 2 => .warming
  | 3 => .running
  | 4 => .cooldown
  | _ => .faulted

/-- The reset cause codes (Table 11.1-1). -/
def ResetKind.code : ResetKind → Nat
  | .powerOn => 0
  | .brownOut => 1
  | .reboot => 2
  | .restart => 3
  | .wake => 4

/-- The engine command codes (Table 9.9-1). -/
def EngineCommand.code : EngineCommand → Nat
  | .stop => 0
  | .crank => 1
  | .run => 2

/-- The result codes (Table 8.8-4). -/
def ReplyResult.code : ReplyResult → Nat
  | .done => 0
  | .refusedMoving => 1
  | .badItem => 2
  | .busy => 3
  | .memFail => 4
  | .unsupported => 5

/-- The wear state codes (Table 8.8-5). -/
def WearState.code : WearState → Nat
  | .ok => 0
  | .near => 1
  | .due => 2

/-- The slip state codes (Table 8.8-5). -/
def SlipState.code : SlipState → Nat
  | .grip => 0
  | .slip _ => 1
  | .recover _ => 2

/-- The kind of a slip state, none in GRIP (R60). -/
def SlipState.kind : SlipState → Option SlipKind
  | .grip => none
  | .slip k => some k
  | .recover k => some k

/-- The SLIP flag: set in SLIP and RECOVER (R48). -/
def SlipState.flag : SlipState → Bool
  | .grip => false
  | .slip _ | .recover _ => true

/-! ### Payload words (R143, section 8.8) -/

/-- Payload word `i`, or argument word, read as 0 where the length does not carry it (R145). -/
def wordAt (words : List Word) (i : Nat) : Word := words.getD i 0

/-- The demand record a DEMAND payload gives (R40, Table 8.8-1). -/
def demandOfPayload (words : List Word) : DemandRecord where
  present := true
  d := clampInt (-1000) 600 (wordAt words 0).toInt
  v := clampNat 1200 (wordAt words 1).toNat
  aux := (clampInt 0 150 (wordAt words 2).toInt).toNat
  parked := (wordAt words 3).getLsbD 0
  quiet := (wordAt words 3).getLsbD 1
  shutdown := (wordAt words 3).getLsbD 2
  hold := (wordAt words 3).getLsbD 3

/-- The role part a STATE payload of a good frame gives (R28, Tables 8.8-2 and 8.8-3). -/
def rolePartOfPayload (words : List Word) : RolePart :=
  let header := wordAt words 0
  let kw (i : Nat) : Nat := clampNat 1000 (wordAt words i).toNat
  match roleOfCode (header.extractLsb' 14 2).toNat with
  | some .pack => .pack (kw 1) (kw 2) (kw 3)
  | some .genset => .genset (kw 1) (kw 2) (engineOfCode (header.extractLsb' 6 3).toNat)
  | some .axle | none =>
    .axle (clampInt (-1000) 1000 (wordAt words 5).toInt) (kw 1) (kw 2) (kw 3) (clampNat 100 (wordAt words 4).toNat)

/-- The operating state a STATE payload reports (R28, Table 8.8-2). -/
def reportedOfPayload (words : List Word) : Reported :=
  reportedOfCode ((wordAt words 0).extractLsb' 11 3).toNat

/-- The entry a STATE frame writes: every field overwritten, FRESH, its age timer from 0 (R29 to R31). -/
def entryOfPayload (src : Address) (words : List Word) : PeerEntry where
  address := src
  part := rolePartOfPayload words
  reported := reportedOfPayload words
  freshness := .fresh
  ageTimer := Timer.started

/-! ### Measurement records (R159, R160, section 9.9) -/

/-- Byte `i` of a record. -/
def byteAt (record : List Byte) (i : Nat) : Byte := record.getD i 0

/-- The two-byte field at byte `i`, most significant byte first. -/
def pairAt (record : List Byte) (i : Nat) : Word := byteAt record i ++ byteAt record (i + 1)

/-- The exclusive-or of a record's bytes (R159). -/
def xorBytes (record : List Byte) : Byte := record.foldl (· ^^^ ·) 0

/-- The sequence nibble of a record, bits 7 to 4 of byte 0. -/
def nibbleOf (record : List Byte) : BitVec 4 := (byteAt record 0).extractLsb' 4 4

/-- Whether a record fails, given the nibble of the held record of its partner (R159). -/
def recordFails (held : Option (BitVec 4)) (record : List Byte) : Bool :=
  xorBytes record != 0 || !(byteAt record 0).getLsbD 0 || held == some (nibbleOf record)

/-- A temperature byte, signed and clamped (R160, Table 4-1). -/
def temperature (b : Byte) : Int := clampInt (-40) 150 b.toInt

/-- Partner 0's record as held, before the speed test of R164 (Table 9.9-2). -/
def partner0OfRecord (record : List Byte) : Partner0 where
  nibble := nibbleOf record
  uLink := clampNat 1000 (pairAt record 1).toNat
  n := clampInt (-12000) 12000 (pairAt record 5).toInt
  pAct := clampInt (-1000) 1000 (pairAt record 7).toInt
  ts := temperature (byteAt record 9)
  fault := byteAt record 10 != 0

/-- The engine controller's state code; 3 or above is taken as stopped (R160). -/
def engineReportOfCode : Nat → EngineReport
  | 1 => .cranking
  | 2 => .running
  | _ => .stopped

/-- Partner 1's record as held, by role (Table 9.9-2); the currents are read as signed (R160, log entry 25). -/
def partner1OfRecord (role : Role) (record : List Byte) : Partner1 where
  nibble := nibbleOf record
  data :=
    match role with
    | .axle =>
      .modulator (clampNat 1000 (pairAt record 1).toNat) (clampNat 1200 (pairAt record 3).toNat)
        (clampNat 1200 (pairAt record 5).toNat) (byteAt record 7 != 0)
    | .pack =>
      .monitor (clampNat 1000 (pairAt record 1).toNat) (clampNat 1000 (pairAt record 3).toNat)
        (temperature (byteAt record 5)) (clampInt 0 2000 (pairAt record 7).toInt).toNat
        (clampInt 0 2000 (pairAt record 9).toInt).toNat (clampInt (-20000) 20000 (pairAt record 11).toInt)
        (byteAt record 13 != 0)
    | .genset => .controller (engineReportOfCode (byteAt record 1).toNat) (temperature (byteAt record 5))

/-- The own reading that a level on ULINK_SENSE gives (R163): 0 to 2.5 V for 0 to 1000 V, 1000 V up to 2.6 V, out of
range above and for an open input. The level in mV is rounded toward zero (section 4.3, log entry 26). -/
def readingOfSense : Sense → OwnReading
  | .openInput => .outOfRange
  | .millivolts mv => if 2600 < mv then .outOfRange else .volts (clampNat 1000 (mv * 1000 / 2500))

/-! ### Setpoint records (R158, Table 9.9-1) -/

/-- The two bytes of a word, most significant first. -/
def bytesOfWord (w : Word) : List Byte := [w.extractLsb' 8 8, w.extractLsb' 0 8]

/-- Bytes 2 to 7 of the record that a slot's content is sent as. -/
def setpointBytes : Setpoint → List Byte
  | .torque t => bytesOfWord (BitVec.ofInt 16 t) ++ [0, 0, 0, 0]
  | .pressure p => bytesOfWord (BitVec.ofNat 16 p) ++ [0, 0, 0, 0]
  | .converter uRef iDis iChg =>
    bytesOfWord (BitVec.ofNat 16 uRef) ++ bytesOfWord (BitVec.ofNat 16 iDis) ++ bytesOfWord (BitVec.ofNat 16 iChg)
  | .generator p => bytesOfWord (BitVec.ofNat 16 p) ++ [0, 0, 0, 0]
  | .engine c => [BitVec.ofNat 8 c.code, 0, 0, 0, 0, 0]

/-- Bytes 0 to 14 of the record shifted out for a slot: an empty slot sends the empty record, its valid bit clear and
every setpoint byte 0 (R158). -/
def recordBody (nibble : BitVec 4) : Option Setpoint → List Byte
  | none => [nibble ++ 0#4] ++ List.replicate 14 0
  | some p => [nibble ++ 1#4, 0] ++ setpointBytes p ++ List.replicate 7 0

/-- The 16 bytes shifted out, with byte 15 the exclusive-or of bytes 0 to 14 (section 9.9). -/
def recordOfSlot (nibble : BitVec 4) (slot : Option Setpoint) : List Byte :=
  recordBody nibble slot ++ [xorBytes (recordBody nibble slot)]

end Sys2Proof.Machine
end

