-- ==== Sys2Proof/Machine/Image.lean ====
section
/-! DEFINITION. The configuration image (section 10.2): its words' meanings as the blocks read them from the running copy,
its acceptance (R168), the built-in defaults, and the check word (R169). -/

namespace Sys2Proof.Machine

/-- Word `n` of an image. -/
def imageWord (c : List Word) (n : Nat) : Word := c.getD n 0

/-- Word `n` of an image as a number. -/
def cfg (c : List Word) (n : Nat) : Nat := (imageWord c n).toNat

/-- The value of words `n` and `n + 1`, the more significant half in the lower-numbered word (section 10.2). -/
def cfg32 (c : List Word) (n : Nat) : Nat := (imageWord c n ++ imageWord c (n + 1)).toNat

/-- REPORT_EN, bit 0 of word 1. -/
def reportEn (c : List Word) : Bool := (imageWord c 1).getLsbD 0

/-- The F mask over the 24 statuses; bits 22 and 23 are disregarded and bits 24 to 31 name no status (R134). -/
def fMask (c : List Word) : StatusSet := (imageWord c 2 ++ imageWord c 3).setWidth 24 &&& 0x3FFFFF#24

/-- The W mask over the 24 statuses (R134). -/
def wMask (c : List Word) : StatusSet := (imageWord c 4 ++ imageWord c 5).setWidth 24 &&& 0x3FFFFF#24

def pdRated (c : List Word) : Nat := cfg c 6
def prRated (c : List Word) : Nat := cfg c 7
def tMax (c : List Word) : Nat := cfg c 8
def fbCfg (c : List Word) : Nat := cfg c 9
def brakeGain (c : List Word) : Nat := cfg c 10
def pMax (c : List Word) : Nat := cfg c 11
def pHold (c : List Word) : Nat := cfg c 12
def vLo (c : List Word) : Nat := cfg c 13
def vHi (c : List Word) : Nat := cfg c 14
def uDm (c : List Word) : Nat := cfg c 15
def uDk (c : List Word) : Nat := cfg c 16
def uRk (c : List Word) : Nat := cfg c 17
def uRm (c : List Word) : Nat := cfg c 18
def socMax (c : List Word) : Nat := cfg c 19
def socTaper (c : List Word) : Nat := cfg c 20
def uRef (c : List Word) : Nat := cfg c 21
def poRated (c : List Word) : Nat := cfg c 22
def paAbsorb (c : List Word) : Nat := cfg c 23
def socStart (c : List Word) : Nat := cfg c 24
def pStart (c : List Word) : Nat := cfg c 25
def socHi (c : List Word) : Nat := cfg c 26
def socFloor (c : List Word) : Nat := cfg c 27
def socStop (c : List Word) : Nat := cfg c 28
def pStop (c : List Word) : Nat := cfg c 29
def gainK (c : List Word) : Nat := cfg c 30
def socTarget (c : List Word) : Nat := cfg c 31

/-- Near threshold of wear item `i` (1 to 4). -/
def nearOf (c : List Word) (i : Nat) : Nat := cfg32 c (32 + 4 * (i - 1))

/-- Due threshold of wear item `i` (1 to 4). -/
def dueOf (c : List Word) (i : Nat) : Nat := cfg32 c (34 + 4 * (i - 1))

/-- The number of wear items of a role (R110). -/
def itemCount : Role → Nat
  | .axle => 4
  | .pack => 3
  | .genset => 3

/-- The exclusive-or of an image's words. -/
def xorWords (c : List Word) : Word := c.foldl (· ^^^ ·) 0

/-- Whether an image passes its check word (section 10.2, R169). -/
def checkHolds (c : List Word) : Bool := xorWords c == 0xA55A#16

/-- Words 0 to 62 of the built-in defaults (Table 10.2-1); word 0 holds the strap role, or none in MUTE (R168). -/
def defaultBody (role : Option Role) : List Word :=
  [BitVec.ofNat 16 ((role.map Role.code).getD 0 * 16384), 1, 0x0050, 0x04CD, 0x00AE, 0xFB32, 0, 0, 2500, 0, 125, 900, 300,
   40, 120, 540, 600, 750, 800, 950, 850, 700, 0, 0, 350, 120, 600, 200, 700, 40, 4, 550]
    ++ List.replicate 16 0xFFFF ++ List.replicate 15 0

/-- The built-in defaults, with a check word formed so that the copy passes its recheck (R168). -/
def defaultImage (role : Option Role) : List Word := defaultBody role ++ [0xA55A#16 ^^^ xorWords (defaultBody role)]

/-- Whether word `n` lies in `lo` to `hi`. -/
def inRange (c : List Word) (n lo hi : Nat) : Bool := decide (lo ≤ cfg c n) && decide (cfg c n ≤ hi)

/-- Whether words `a` and `b` lie in 0 to `hi` and the first is below the second. -/
def pairBelow (c : List Word) (a b hi : Nat) : Bool := inRange c a 0 hi && inRange c b 0 hi && decide (cfg c a < cfg c b)

/-- Whether the values of words 6 to 31 lie in their accepted ranges (Table 10.2-1); tested in every role (R168). -/
def rangesAccepted (c : List Word) : Bool :=
  inRange c 6 0 1000 && inRange c 7 0 1000 && inRange c 8 100 5000 && inRange c 9 0 1000 && inRange c 10 20 400
    && inRange c 11 100 1000 && inRange c 12 0 (pMax c) && pairBelow c 13 14 1200 && pairBelow c 15 16 1000
    && pairBelow c 17 18 1000 && pairBelow c 20 19 1000 && inRange c 21 0 1000 && inRange c 22 0 1000
    && inRange c 23 0 1000 && inRange c 24 0 1000 && inRange c 25 0 1000 && inRange c 26 0 1000 && inRange c 27 0 1000
    && inRange c 28 0 1000 && inRange c 29 0 1000 && inRange c 30 0 20 && inRange c 31 0 1000

/-- Whether the thresholds of the role's items are accepted: near ≤ due and due ≥ 1 (R110, Table 10.2-1). -/
def thresholdsAccepted (role : Role) (c : List Word) : Bool :=
  (List.range (itemCount role)).all fun i =>
    decide (nearOf c (i + 1) ≤ dueOf c (i + 1)) && decide (1 ≤ dueOf c (i + 1))

/-- Whether an image read whole is accepted in a role (R168). -/
def imageAccepted (role : Role) (c : List Word) : Bool :=
  checkHolds c && decide (imageWord c 0 = BitVec.ofNat 16 (role.code * 16384)) && rangesAccepted c
    && thresholdsAccepted role c

/-- A quotient by a configuration value: rounded toward zero, and free where a corrupted copy makes the divisor 0
(log entry 22). -/
def quotient (a b : Nat) : Nat := if b = 0 then Config.quotientByZero a else a / b

end Sys2Proof.Machine
end

