-- ==== Sys2Proof/Machine/Memory.lean ====
section
/-! DEFINITION. The EEPROM: reading and writing its bytes, its canonical form, the words of the image and the slots of the
wear ring (Tables 10-1 and 10.3-1), and the Share Line check that both the slots and the frames use (R143). -/

namespace Sys2Proof.Machine

/-! ### Bytes -/

/-- What a byte that nothing has written reads as: a blank EEPROM is all ones (section 10.2, log entry 4). -/
def blankByte : Byte := 0xFF

/-- The EEPROM's size, 8 KiB (Table 10-1). -/
def eepromSize : Nat := 8192

/-- The byte at an address. -/
def Memory.read : Memory → Nat → Byte
  | [], _ => blankByte
  | (b, v) :: m, a => if b = a then v else Memory.read m a

/-- The memory without the byte at an address. -/
def Memory.erase : Memory → Nat → Memory
  | [], _ => []
  | (b, v) :: m, a => if b = a then m else (b, v) :: Memory.erase m a

/-- The memory with a byte put at an address it does not list, in its place among rising addresses. -/
def Memory.insert : Memory → Nat → Byte → Memory
  | [], a, w => [(a, w)]
  | (b, v) :: m, a, w => if a < b then (a, w) :: (b, v) :: m else (b, v) :: Memory.insert m a w

/-- The memory with a byte written: a byte equal to what an unlisted address reads as is not listed. -/
def Memory.write (m : Memory) (a : Nat) (w : Byte) : Memory :=
  if w = blankByte then Memory.erase m a else Memory.insert (Memory.erase m a) a w

/-- The memory with bytes written from an address upward. -/
def Memory.writeAll : Memory → Nat → List Byte → Memory
  | m, _, [] => m
  | m, a, w :: ws => Memory.writeAll (Memory.write m a w) (a + 1) ws

/-- Strictly rising addresses above `lo`, none listed at its blank value. -/
def Memory.risingFrom : Nat → Memory → Bool
  | _, [] => true
  | lo, (a, w) :: m => decide (lo ≤ a) && decide (w ≠ blankByte) && Memory.risingFrom (a + 1) m

/-- The canonical form: strictly rising addresses, and no entry equal to what an unlisted address reads as. -/
def Memory.wf (m : Memory) : Bool := Memory.risingFrom 0 m

/-- The bytes from an address upward. -/
def Memory.readAll (m : Memory) (a n : Nat) : List Byte := (List.range n).map fun i => Memory.read m (a + i)

/-! ### The image (Table 10-1) -/

/-- Word `n` of the EEPROM image, at bytes 2n and 2n + 1, more significant byte first. -/
def eepromWord (m : Memory) (n : Nat) : Word := Memory.read m (2 * n) ++ Memory.read m (2 * n + 1)

/-- The EEPROM with word `n` of its image written. -/
def writeEepromWord (m : Memory) (n : Nat) (w : Word) : Memory := Memory.writeAll m (2 * n) (bytesOfWord w)

/-- The image as read from the EEPROM, words 0 to 63. -/
def eepromImage (m : Memory) : List Word := (List.range 64).map (eepromWord m)

/-! ### The check (R143) -/

/-- One bit into the check register: generator x^16 + x^12 + x^5 + 1. -/
def checkBit (reg : Word) (b : Bool) : Word :=
  if reg.msb != b then (reg <<< 1) ^^^ 0x1021#16 else reg <<< 1

/-- A run of bits, in the order sent, into the check register. -/
def checkBits (reg : Word) (bits : List Bool) : Word := bits.foldl checkBit reg

/-- The bits of a field of `w` bits, most significant first. -/
def bitsOf {w : Nat} (x : BitVec w) : List Bool := (List.range w).map fun i => x.getMsbD i

/-- The check over bits: the register's final value from all ones (R143). -/
def checkOf (bits : List Bool) : Word := checkBits 0xFFFF#16 bits

/-! ### Wear ring slots (Table 10.3-1) -/

/-- The four bytes of a 32-bit value, most significant first (log entry 9). -/
def bytesOf32 (n : Nat) : List Byte :=
  let x : BitVec 32 := BitVec.ofNat 32 n
  [x.extractLsb' 24 8, x.extractLsb' 16 8, x.extractLsb' 8 8, x.extractLsb' 0 8]

/-- The 32-bit value at byte `i` of a slot. -/
def value32 (slot : List Byte) (i : Nat) : Nat :=
  (byteAt slot i ++ byteAt slot (i + 1) ++ byteAt slot (i + 2) ++ byteAt slot (i + 3)).toNat

/-- Bytes 0 to 61 of the slot that a snapshot is written as (Table 10.3-1); absent items are written as 0. -/
def slotBody (role : Role) (seq : Nat) (p : Snapshot) : List Byte :=
  bytesOf32 seq ++ [BitVec.ofNat 8 role.code, 0, 0, 0] ++ bytesOf32 (p.accs.getD 0 0) ++ bytesOf32 (p.accs.getD 1 0)
    ++ bytesOf32 (p.accs.getD 2 0) ++ bytesOf32 (p.accs.getD 3 0) ++ bytesOf32 p.resA1 ++ bytesOf32 p.resA2
    ++ bytesOf32 p.resS1 ++ List.replicate 26 0

/-- The check of a slot: the Share Line check over bytes 0 to 61, each byte most significant bit first (the bit order is the
model's choice, log entry 42). -/
def slotCheck (body : List Byte) : Word := checkOf (body.flatMap bitsOf)

/-- The 64 bytes of a slot. -/
def slotBytes (role : Role) (seq : Nat) (p : Snapshot) : List Byte :=
  slotBody role seq p ++ bytesOfWord (slotCheck (slotBody role seq p))

/-- The address of slot `k` (Table 10-1). -/
def slotAddress (k : Nat) : Nat := 256 + 64 * k

/-- Slot `k` as read from the EEPROM. -/
def readSlot (m : Memory) (k : Nat) : List Byte := Memory.readAll m (slotAddress k) 64

/-- Whether a slot's bytes are valid for a role (R170): the role code is the role's and the check passes. -/
def slotValid (role : Role) (slot : List Byte) : Bool :=
  decide ((byteAt slot 4).toNat = role.code) && decide (slotCheck (slot.take 62) = pairAt slot 62)

/-- The sequence number of a slot. -/
def slotSeq (slot : List Byte) : Nat := value32 slot 0

/-- The accumulators and residues a slot holds. -/
def slotSnapshot (role : Role) (slot : List Byte) : Snapshot where
  accs := (List.range (itemCount role)).map fun i => value32 slot (8 + 4 * i)
  resA1 := value32 slot 24
  resA2 := value32 slot 28
  resS1 := value32 slot 32

/-- A page of a slot, 1 or 2 (section 10, 32-byte pages). -/
def pageOf (slot : List Byte) (page : Nat) : List Byte := if page = 1 then slot.take 32 else slot.drop 32

/-- The address of a page of slot `k`. -/
def pageAddress (k page : Nat) : Nat := if page = 1 then slotAddress k else slotAddress k + 32

/-- The slots that are valid at a load (R170): acknowledged, not left with a bad check, valid for the role; with their
sequence numbers, in slot order. -/
def validSlots (m : Memory) (torn acks : BitVec 8) (role : Role) : List (Nat × Nat) :=
  (List.range 8).filterMap fun k =>
    if acks.getLsbD k && !torn.getLsbD k && slotValid role (readSlot m k) then some (k, slotSeq (readSlot m k)) else none

/-- The slot with the greatest sequence number, the lower-numbered of two that carry the same (R170). -/
def newestSlot : List (Nat × Nat) → Option (Nat × Nat)
  | [] => none
  | p :: ps =>
    match newestSlot ps with
    | none => some p
    | some q => if p.2 < q.2 then some q else some p

/-- `n` free bytes, from the counter of free values `k` on (log entry 7). -/
def tornBytes (k n : Nat) : List Byte := (List.range n).map fun i => Config.tornByte (k + i)

end Sys2Proof.Machine
end

