-- ==== Sys2Proof/Machine/Flags.lean ====
section
/-! DEFINITION. The status set: setting and clearing statuses by kind, the masks, the standing conditions, the withdrawing
set and the F and W bits (chapter 7), and the live conditions that the role blocks report. -/

namespace Sys2Proof.Machine

/-- The index of a status (Table 7.1-1). -/
def Status.index : Status → Nat
  | .clash => 0
  | .strap => 1
  | .cfgDefault => 2
  | .cfgCorrupt => 3
  | .memFault => 4
  | .wearBlank => 5
  | .stageLost => 6
  | .partnerFault => 7
  | .plausU => 8
  | .plausSpeed => 9
  | .speedFault => 10
  | .demandLost => 11
  | .linkQuiet => 12
  | .linkNoisy => 13
  | .tableFull => 14
  | .shortBrake => 15
  | .derate => 16
  | .stageHot => 17
  | .wearNear => 18
  | .wearDue => 19
  | .startFail => 20
  | .stall => 21
  | .forcedFault => 22
  | .forcedWarn => 23

/-- Whether a status is in a set. -/
def statusIn (σ : StatusSet) (x : Status) : Bool := σ.getLsbD x.index

/-- A set with a status set or clear. -/
def statusPut (σ : StatusSet) (x : Status) (b : Bool) : StatusSet :=
  if b then σ ||| (1#24 <<< x.index) else σ &&& ~~~(1#24 <<< x.index)

/-- Whether a status is set (a carried one apart). -/
def State.status (s : State) (x : Status) : Bool := statusIn s.stu.set x

/-- The state with a status set or clear: a cause of a latched or captured status, or a live report (R129 to R131). -/
def State.putStatus (s : State) (x : Status) (b : Bool) : State :=
  s.setStu { s.stu with set := statusPut s.stu.set x b }

/-- The latched statuses (Table 7.1-1). -/
def latchedSet : StatusSet := 0x38045F#24

/-- The captured statuses: WEAR_BLANK, PLAUS_U, PLAUS_SPEED, LINK_NOISY (Table 7.1-1). -/
def capturedSet : StatusSet := 0x002320#24

/-- The withdrawing set: CLASH, CFG_DEFAULT, CFG_CORRUPT, STAGE_LOST, PARTNER_FAULT, SPEED_FAULT (R136). -/
def withdrawingSet : StatusSet := 0x0004CD#24

/-- The statuses that RESTART and WAKE keep: CFG_DEFAULT, CFG_CORRUPT, MEM_FAULT (R141). -/
def keptSet : StatusSet := 0x00001C#24

/-- Whether a withdrawing status is set. -/
def State.withdraws (s : State) : Bool := s.stu.set &&& withdrawingSet != 0

/-- Whether DEMAND_LOST is live. -/
def State.demandLost (s : State) : Bool := s.status .demandLost

/-- Whether some item of a wear table is in DUE (Table 7.2-1). -/
def anyDue (items : List WearItem) : Bool := items.any fun i => i.state == .due

/-- Whether some item of a wear table is in NEAR or in DUE (R121). -/
def anyNear (items : List WearItem) : Bool := items.any fun i => i.state != .ok

/-- The latched statuses whose standing condition holds (Table 7.2-1). -/
def State.standing (s : State) : StatusSet :=
  statusPut (statusPut (statusPut (statusPut (statusPut 0
    .strap s.nsq.strapDiffers)
    .cfgDefault s.mpt.copyDefault)
    .cfgCorrupt s.mpt.recheckBad)
    .stageLost (decide (5 ≤ s.stp.fail0) || decide (5 ≤ s.stp.fail1)))
    .wearDue (anyDue s.wau.items)

/-- What a CLEAR makes of the status set: every latched status cleared, and each set again whose standing condition holds
(R132). -/
def State.clearedSet (s : State) : StatusSet := s.stu.set &&& ~~~latchedSet ||| s.standing

/-- The statuses that count as set for the F and W bits: those in the set and those carried by the STATE place (R135). -/
def State.counted (s : State) : StatusSet := s.stu.set ||| s.sli.state.carried

/-- The F bit (R135). -/
def State.fBit (s : State) : Bool :=
  s.nsq.op != .active || s.counted &&& fMask s.mpt.copy != 0 || s.status .forcedFault

/-- The W bit (R135). -/
def State.wBit (s : State) : Bool :=
  reportEn s.mpt.copy && (s.counted &&& wMask s.mpt.copy != 0 || s.status .forcedWarn)

/-- Whether PARTNER_FAULT's condition holds on the held records (R162). -/
def partnerFaultHolds (role : Option Role) (h0 : Option Partner0) (h1 : Option Partner1) : Bool :=
  (match h0 with
    | some h => h.fault
    | none => false)
  || (match role, h1 with
    | some .pack, some ⟨_, .monitor _ _ _ _ _ _ fault⟩ => fault
    | _, _ => false)

/-- Whether the held partner 0 record shows a stage above 70 °C (R47, R77, R99). -/
def stageHotHolds (h0 : Option Partner0) : Bool :=
  match h0 with
  | some h => decide (70 < h.ts)
  | none => false

end Sys2Proof.Machine
end

