-- ==== Sys2Proof/Machine/Share.lean ====
section
/-! DEFINITION. What the readers of the Peer Table are given (R35, R42), and the Share Engine's arithmetic (chapter 1). -/

namespace Sys2Proof.Machine

/-! ### The readers' view (chapter 2) -/

/-- A live entry: FRESH or STALE, reporting ACTIVE or WITHDRAWN (R35). -/
def PeerEntry.live (e : PeerEntry) : Bool :=
  e.freshness != .lost && (e.reported == .known .active || e.reported == .known .withdrawn)

/-- The live entries of a table. -/
def liveEntries (es : List PeerEntry) : List PeerEntry := es.filter PeerEntry.live

/-- The values the demand record gives its readers (Table 2.5-2). -/
def givenDemand (r : DemandRecord) (lost : Bool) : DemandRecord :=
  if r.present then
    if lost then { r with d := 0, parked := false, shutdown := false, hold := false } else r
  else DemandRecord.initial

/-- The values the demand record gives its readers. -/
def State.given (s : State) : DemandRecord := givenDemand s.ptb.demand s.demandLost

/-! ### The split (R8) -/

/-- A member of the axle live set (R5, R6). -/
structure Member where
  address : Address
  pd : Nat
  pr : Nat
  fb : Nat
  q : Nat
  deriving DecidableEq, Repr

/-- The members that the live AXLE entries give, with the values held. -/
def peerMembers (es : List PeerEntry) : List Member :=
  (liveEntries es).filterMap fun e =>
    match e.part with
    | .axle _ pd pr fb q => some ⟨e.address, pd, pr, fb, q⟩
    | .pack _ _ _ | .genset _ _ _ => none

/-- The sum of the weights. -/
def weightSum (ws : List (Address × Nat)) : Nat := (ws.map Prod.snd).sum

/-- Provisional part of a weight (R8 step 1). -/
def provisional (total sum weight : Nat) : Nat := total * weight / sum

/-- The remainder: the total less the sum of all provisional parts (R8 step 2). -/
def splitRemainder (total : Nat) (ws : List (Address × Nat)) : Nat :=
  total - (ws.map fun m => provisional total (weightSum ws) m.2).sum

/-- The lowest address among the members whose weight is not 0. -/
def lowestWeighted : List (Address × Nat) → Option Address
  | [] => none
  | m :: ws =>
    match lowestWeighted ws with
    | none => if m.2 = 0 then none else some m.1
    | some a => if m.2 ≠ 0 ∧ m.1 < a then some m.1 else some a

/-- The part of a member after step 3 of R8. -/
def splitPart (total : Nat) (ws : List (Address × Nat)) (m : Address × Nat) : Nat :=
  provisional total (weightSum ws) m.2
    + (if m.2 ≠ 0 ∧ lowestWeighted ws = some m.1 then splitRemainder total ws else 0)

/-- A member's split result; 0 where the weights sum to 0, the division then not being made (R11, R14, R17). -/
def splitResult (total : Nat) (ws : List (Address × Nat)) (m : Address × Nat) : Nat :=
  if weightSum ws = 0 then 0 else splitPart total ws m

/-! ### The computation (R9 to R20) -/

/-- The fade factor φ (R9). -/
def fade (lo hi v : Nat) : Nat := if hi ≤ v then 100 else if v ≤ lo then 0 else 100 * (v - lo) / (hi - lo)

/-- The delivery sum S_o over the source live set (R7). -/
def deliverySum (es : List PeerEntry) : Nat :=
  ((liveEntries es).map fun e =>
    match e.part with
    | .axle _ _ _ _ _ => 0
    | .pack po _ _ => po
    | .genset po _ _ => po).sum

/-- The acceptance sum A over the source live set (R7). -/
def acceptanceSum (es : List PeerEntry) : Nat :=
  ((liveEntries es).map fun e =>
    match e.part with
    | .axle _ _ _ _ _ => 0
    | .pack _ pa _ => pa
    | .genset _ pa _ => pa).sum

/-- The friction weight W of a member (R16). -/
def frictionWeight (m : Member) : Nat := m.fb * m.q / 100

def driveWeights (x : List Member) : List (Address × Nat) := x.map fun m => (m.address, m.pd)
def regenWeights (x : List Member) : List (Address × Nat) := x.map fun m => (m.address, m.pr)
def frictionWeights (x : List Member) : List (Address × Nat) := x.map fun m => (m.address, frictionWeight m)

/-- The traction total D' (R10); S_o − aux is at least 0 in Nat. -/
def tractionTotal (d : Nat) (x : List Member) (es : List PeerEntry) (aux : Nat) : Nat :=
  min d (min (weightSum (driveWeights x)) (deliverySum es - aux))

/-- The regenerative total R (R13). -/
def regenTotal (b phi : Nat) (x : List Member) (es : List PeerEntry) (aux : Nat) : Nat :=
  min b (min (phi * weightSum (regenWeights x) / 100) (acceptanceSum es + aux))

/-- The share record of a computation with D > 0 (R10 to R12). -/
def tractionShare (own : Member) (es : List PeerEntry) (d aux : Nat) : ShareRecord :=
  let x := own :: peerMembers es
  let part := splitResult (tractionTotal d x es aux) (driveWeights x) (own.address, own.pd)
  { d := min part own.pd, r := 0, f := 0, clamp := decide (own.pd < part), shortBrake := false }

/-- The share record of a computation with D = −b < 0 (R13 to R19). -/
def brakingShare (own : Member) (es : List PeerEntry) (b v aux lo hi : Nat) : ShareRecord :=
  let x := own :: peerMembers es
  let total := regenTotal b (fade lo hi v) x es aux
  let regen := splitResult total (regenWeights x) (own.address, own.pr)
  let excess := regen - own.pr
  let friction := splitResult (b - total) (frictionWeights x) (own.address, frictionWeight own)
  { d := 0
    r := min regen own.pr
    f := min (friction + excess) own.fb
    clamp := decide (own.pr < regen)
    shortBrake := decide (own.fb < friction + excess)
      || (decide (weightSum (frictionWeights x) = 0) && decide (0 < b - total)) }

/-- The share record of a computation (R10 to R20). -/
def computeShare (own : Member) (es : List PeerEntry) (d : Int) (v aux lo hi : Nat) : ShareRecord :=
  if d = 0 then ShareRecord.initial
  else if 0 < d then tractionShare own es d.toNat aux
  else brakingShare own es (-d).toNat v aux lo hi

end Sys2Proof.Machine
end

