-- ==== Sys2Proof/Machine/Blend.lean ====
section
/-! DEFINITION. The Blend Unit's arithmetic (chapter 3): the own capability record, droop, effective shares, setpoints, the
slip machine and the drive ramp, as functions of the block and of what it reads. -/

namespace Sys2Proof.Machine

/-! ### The own capability record (R47, R48) -/

/-- The thermal factor h (R47). -/
def thermal (ts : Int) : Nat := if ts ≤ 70 then 100 else if 90 ≤ ts then 0 else (100 * (90 - ts) / 20).toNat

/-- The thermal factor of the held partner 0 record, 0 where none is held (R47, R91). -/
def heldThermal (h0 : Option Partner0) : Nat :=
  match h0 with
  | some h => thermal h.ts
  | none => 0

/-- The motor speed of the held partner 0 record, 0 where none is held (R47). -/
def heldSpeedOf (h0 : Option Partner0) : Int :=
  match h0 with
  | some h => h.n
  | none => 0

/-- P_act of the held partner 0 record, 0 where none is held (R48, R78, R107). -/
def heldPAct (h0 : Option Partner0) : Int :=
  match h0 with
  | some h => h.pAct
  | none => 0

/-- n_eff, the speed floored at 300 rpm (R47). -/
def nEff (h0 : Option Partner0) : Nat := max (heldSpeedOf h0).natAbs 300

/-- The torque-limited power P_lim (R47). -/
def pLim (c : List Word) (h0 : Option Partner0) : Nat := tMax c * nEff h0 / 9549

/-- The unslipped drive capability Pd_u (R47). -/
def pdU (c : List Word) (h0 : Option Partner0) : Nat := min (pdRated c) (pLim c h0) * heldThermal h0 / 100

/-- The unslipped regen capability Pr_u (R47). -/
def prU (c : List Word) (h0 : Option Partner0) : Nat := min (prRated c) (pLim c h0) * heldThermal h0 / 100

/-- Fb: the configured capability while the held partner 1 record shows no modulator fault, else 0 (R48). -/
def axleFb (c : List Word) (h1 : Option Partner1) : Nat :=
  match h1 with
  | some ⟨_, .modulator _ _ _ fault⟩ => if fault then 0 else fbCfg c
  | _ => 0

/-- The advertised Pd (R48). -/
def axlePd (u : Nat) (op : OpState) (slip : SlipState) (l : Nat) : Nat :=
  if op = .active then
    match slip with
    | .slip .traction => 0
    | .recover .traction => min u l
    | _ => u
  else 0

/-- The advertised Pr (R48). -/
def axlePr (u : Nat) (op : OpState) (slip : SlipState) (l : Nat) : Nat :=
  if op = .active then
    match slip with
    | .slip .braking => 0
    | .recover .braking => min u l
    | _ => u
  else 0

/-- The own capability record as formed from its inputs (R46 to R48). -/
def axleRecord (c : List Word) (op : OpState) (h0 : Option Partner0) (h1 : Option Partner1) (q : Nat)
    (slip : SlipState) (l : Nat) : AxleRecord where
  pd := axlePd (pdU c h0) op slip l
  pr := axlePr (prU c h0) op slip l
  fb := axleFb c h1
  q := q
  slip := slip.flag
  pAct := heldPAct h0

/-! ### Droop (R49) -/

/-- The link voltage the Blend Unit takes (R49). -/
def linkVoltage (own : OwnReading) (h0 : Option Partner0) : Nat :=
  match own, h0 with
  | .volts u, _ => u
  | _, some h => h.uLink
  | _, none => 0

/-- The drive factor g_d (R49). -/
def driveDroop (c : List Word) (u : Nat) : Nat :=
  if uDk c ≤ u then 100 else if u ≤ uDm c then 0 else 100 * (u - uDm c) / (uDk c - uDm c)

/-- The regen factor g_r (R49). -/
def regenDroop (c : List Word) (u : Nat) : Nat :=
  if u ≤ uRk c then 100 else if uRm c ≤ u then 0 else 100 * (uRm c - u) / (uRm c - uRk c)

/-! ### Effective shares (R51 to R54, R65, R66) -/

/-- Whether the slip machine is in SLIP, of either kind. -/
def SlipState.slipping : SlipState → Bool
  | .slip _ => true
  | .grip | .recover _ => false

/-- The drive base, and the ramp's mode and limit after the formation (R52, R65, R66). -/
def rampBase (mode : RampMode) (m d : Nat) : Nat × RampMode × Nat :=
  match mode with
  | .none => (d, .none, d)
  | .down => (m, .down, m)
  | .up => if d ≤ m then (d, .none, d) else (m, .up, m)

/-- The effective drive d_e (R52). -/
def effectiveDrive (base gd pd lim : Nat) (slip : SlipState) : Nat :=
  if slip.slipping then 0 else min (min (base * gd / 100) pd) lim

/-- The effective regen r_e (R53). -/
def effectiveRegen (r gr pr lim : Nat) (slip : SlipState) (lost : Bool) : Nat :=
  if slip.slipping || lost then 0 else min (min (r * gr / 100) pr) lim

/-- One formation of the effective shares and of the friction clamp's outcome (R51 to R54). -/
def BlendUnit.form (b : BlendUnit) (share : ShareRecord) (lim : Nat) (lost : Bool) : BlendUnit :=
  let base := rampBase b.ramp b.limitM share.d
  let rE := effectiveRegen share.r b.gr b.own.pr lim b.slip lost
  let sum := share.f + (share.r - rE)
  { b with
    dE := effectiveDrive base.1 b.gd b.own.pd lim b.slip
    rE := rE
    fE := if lost then 0 else min sum b.own.fb
    clampBinds := !lost && decide (b.own.fb < sum)
    ramp := base.2.1
    limitM := base.2.2 }

/-! ### Setpoints (R56 to R58) -/

/-- The torque setpoint T (R56). -/
def torqueSetpoint (dE rE n tLimit : Nat) : Int :=
  clampInt (-(tLimit : Int)) tLimit
    (if 0 < dE then ((dE * 9549 / n : Nat) : Int) else if 0 < rE then -((rE * 9549 / n : Nat) : Int) else 0)

/-- The raw pressure (R57). -/
def rawPressure (fE v g : Nat) : Nat :=
  let divisor := max v 36 * g
  quotient (fE * 36000 + divisor / 2) divisor

/-- The pressure setpoint p (R58). -/
def pressureSetpoint (c : List Word) (fE v : Nat) (hold lost : Bool) : Nat :=
  if lost then 0
  else
    let p := min (rawPressure fE v (brakeGain c)) (pMax c)
    if hold && decide (v < 10) then max p (pHold c) else p

/-! ### The slip machine (R60 to R63) -/

/-- The axle wheel speed w (R60). -/
def wheelSpeed (left right : Nat) : Nat := (left + right) / 2

/-- The braking slip test (R61). -/
def brakingSlips (d : Int) (v w : Nat) : Bool := decide (d < 0) && decide (50 ≤ v) && decide (w < v * 88 / 100)

/-- The traction slip test (R61). -/
def tractionSlips (d : Int) (v w : Nat) : Bool := decide (0 < d) && decide (v * 112 / 100 + 20 < w)

/-- The recovery test (R62). -/
def recovers (v w : Nat) : Bool := decide ((max w v - min w v) ≤ v * 4 / 100 + 10)

/-- Entry to SLIP (R61). -/
def BlendUnit.enterSlip (b : BlendUnit) (k : SlipKind) : BlendUnit :=
  { b with slip := .slip k, slipHold := Timer.stopped, limitL := 0 }

/-- The slip entry that an evaluation makes, if any (R61): in GRIP and in RECOVER. -/
def slipEntry (slip : SlipState) (d : Int) (v w : Nat) : Option SlipKind :=
  if slip.slipping then none
  else if brakingSlips d v w then some .braking
  else if tractionSlips d v w then some .traction
  else none

/-- One evaluation of the slip machine (R60 to R62). -/
def BlendUnit.evaluateSlip (b : BlendUnit) (d : Int) (v w : Nat) : BlendUnit :=
  match slipEntry b.slip d v w with
  | some k => b.enterSlip k
  | none =>
    if b.slip.slipping then
      if recovers v w then (if b.slipHold.running then b else { b with slipHold := Timer.started })
      else { b with slipHold := Timer.stopped }
    else b

/-- The slip hold timer's expiry: RECOVER with its kind unchanged and L = 0 (R62). -/
def BlendUnit.enterRecover (b : BlendUnit) : BlendUnit :=
  match b.slip with
  | .slip k => { b with slip := .recover k, limitL := 0, slipHold := Timer.stopped }
  | .grip | .recover _ => b

/-- The effect of a ramp expiry on the slip machine: L rises by 1 in RECOVER and may bring GRIP (R63). -/
def BlendUnit.raiseL (b : BlendUnit) (pdu pru : Nat) : BlendUnit :=
  match b.slip with
  | .recover k =>
    let limit := match k with
      | .braking => pru
      | .traction => pdu
    if limit ≤ b.limitL + 1 then { b with slip := .grip, limitL := 0 } else { b with limitL := b.limitL + 1 }
  | .grip | .slip _ => b

/-! ### The drive ramp (R65, R66) -/

/-- The effect of a ramp expiry on the drive ramp (R65, R66). -/
def BlendUnit.moveM (b : BlendUnit) : BlendUnit :=
  match b.ramp with
  | .none => b
  | .down => { b with limitM := b.limitM - 2 }
  | .up => { b with limitM := min 1000 (b.limitM + 4) }

/-- The onset of DEMAND_LOST: the ramp enters DOWN with M kept (R65). -/
def BlendUnit.demandLostOnset (b : BlendUnit) : BlendUnit := { b with ramp := .down }

/-- A DEMAND arrival: DOWN becomes UP with M as it stands (R66). -/
def BlendUnit.demandArrives (b : BlendUnit) : BlendUnit :=
  if b.ramp = .down then { b with ramp := .up } else b

end Sys2Proof.Machine
end

