-- ==== Sys2Proof/Machine/Pack.lean ====
section
/-! DEFINITION. The Pack Limits Unit's arithmetic (chapter 4), as functions of the block and of what it reads. -/

namespace Sys2Proof.Machine

/-- What the unit reads of the held pack monitor record, or the substitutes of R71 where none is held: U_pack, SOC,
T_pack, I_chg_max, I_dis_max and the pack fault. -/
structure PackReading where
  uPack : Nat
  soc : Nat
  tPack : Int
  iChgMax : Nat
  iDisMax : Nat
  fault : Bool
  deriving DecidableEq, Repr

/-- The reading of the held record (R71). -/
def packReading (h1 : Option Partner1) : PackReading :=
  match h1 with
  | some ⟨_, .monitor uPack soc tPack iChgMax iDisMax _ fault⟩ => ⟨uPack, soc, tPack, iChgMax, iDisMax, fault⟩
  | _ => ⟨0, 0, 0, 0, 0, false⟩

/-- Acceptance after the SOC taper, Pa1 (R73). -/
def taperedAcceptance (c : List Word) (soc pa0 : Nat) : Nat :=
  if socMax c ≤ soc then 0
  else if socTaper c ≤ soc then pa0 * (socMax c - soc) / (socMax c - socTaper c)
  else pa0

/-- Acceptance after the cold reduction, Pa2 (R74). -/
def coldAcceptance (tPack : Int) (pa1 : Nat) : Nat := if tPack < -10 then 0 else if tPack < 0 then pa1 / 2 else pa1

/-- The formed limits (R72 to R75). -/
def PackUnit.formLimits (p : PackUnit) (c : List Word) (r : PackReading) (dw : Nat) : PackUnit :=
  let pd0 := r.uPack * r.iDisMax / 1000
  let pa0 := r.uPack * r.iChgMax / 1000
  let pa1 := taperedAcceptance c r.soc pa0
  let pa2 := coldAcceptance r.tPack pa1
  { p with
    pd0 := pd0
    poF := min (pd0 * dw / 100) 1000
    pa0 := pa0
    pa1 := pa1
    pa2 := pa2
    paF := min (pa2 * dw / 100) 1000 }

/-- The advertised limits and the own capability record (R76, R78). -/
def PackUnit.advertise (p : PackUnit) (op : OpState) (r : PackReading) (pAct : Int) : PackUnit :=
  let offers := op = .active ∧ r.fault = false
  { p with own := { po := if offers then p.poF else 0, pa := if offers then p.paF else 0, soc := r.soc, pAct := pAct } }

/-- DERATE's condition in the PACK role (R77). -/
def PackUnit.derated (p : PackUnit) : Bool := decide (p.pa2 < p.pa0)

/-- A current limit in A from an advertised limit in kW, 0 where U_pack is 0 (R80). -/
def currentLimit (limit uPack : Nat) : Nat := if uPack = 0 then 0 else limit * 1000 / uPack

/-- The current limits of the converter setpoint record (R80). -/
def PackUnit.formCurrents (p : PackUnit) (uPack : Nat) : PackUnit :=
  { p with iDis := currentLimit p.own.po uPack, iChg := currentLimit p.own.pa uPack }

end Sys2Proof.Machine
end

