-- ==== Sys2Proof/Machine/Genset.lean ====
section
/-! DEFINITION. The Genset Scheduler's arithmetic and tests (chapter 5), as functions of the block and of what it reads. -/

namespace Sys2Proof.Machine

/-! ### What is advertised (Table 5.3-1, R91, R107) -/

/-- The delivery of Table 5.3-1, before the operating state is taken into account. -/
def gensetPo (c : List Word) (h : Nat) : EngineState → Nat
  | .warming => poRated c * min 30 h / 100
  | .running => poRated c * h / 100
  | .off | .cranking | .cooldown | .faulted => 0

/-- The absorption of Table 5.3-1, before the operating state is taken into account. -/
def gensetPa (c : List Word) : EngineState → Nat
  | .running => paAbsorb c
  | .off | .cranking | .warming | .cooldown | .faulted => 0

/-- The own capability record re-formed (R107). -/
def Genset.reform (g : Genset) (c : List Word) (op : OpState) (h0 : Option Partner0) : Genset :=
  { g with
    ownPo := if op = .active then gensetPo c (heldThermal h0) g.engine else 0
    ownPa := if op = .active then gensetPa c g.engine else 0
    ownPAct := heldPAct h0 }

/-- The engine command of a state (Table 5.3-1). -/
def commandOf : EngineState → EngineCommand
  | .off | .faulted => .stop
  | .cranking => .crank
  | .warming | .running | .cooldown => .run

/-- Whether the engine is in WARMING or RUNNING. -/
def EngineState.delivers : EngineState → Bool
  | .warming | .running => true
  | .off | .cranking | .cooldown | .faulted => false

/-- The scheduler at a change of engine state: the command, and P_set 0 but in WARMING and RUNNING, where it keeps its
value (R91). -/
def Genset.enter (g : Genset) (e : EngineState) : Genset :=
  { g with engine := e, command := commandOf e, pSet := if e.delivers then g.pSet else 0 }

/-! ### The tick's samples (R87 to R90) -/

/-- The end of the scheduler clock's range (Table 5.1-1). -/
def clockMax : Nat := 4294967295

/-- The readings kept at a tick: those whose age is below 600 s (R94). -/
def pruneStarts (clock : Nat) (starts : List Nat) : List Nat := starts.filter fun r => decide (clock - r < 600)

/-- The net-load sample N (R88). -/
def netLoadSample (es : List PeerEntry) (aux : Nat) : Int :=
  ((liveEntries es).map fun e =>
    match e.part with
    | .axle pAct _ _ _ _ => pAct
    | .pack _ _ _ | .genset _ _ _ => 0).sum + aux

/-- The ring with a sample joined, the oldest of 16 removed (R88). -/
def pushSample (ring : List Int) (n : Int) : List Int := if 16 ≤ ring.length then ring.tail ++ [n] else ring ++ [n]

/-- N̄: the sum of the samples by their count, rounded toward zero (R88). -/
def ringAverage (ring : List Int) : Int := ring.sum.tdiv ring.length

/-- The SOC of the live PACK entries. -/
def liveSocs (es : List PeerEntry) : List Nat :=
  (liveEntries es).filterMap fun e =>
    match e.part with
    | .pack _ _ soc => some soc
    | .axle _ _ _ _ _ | .genset _ _ _ => none

/-- SOCmin (R89): 0 where no PACK entry is live. -/
def leastSoc : List Nat → Nat
  | [] => 0
  | [x] => x
  | x :: xs => min x (leastSoc xs)

/-- The live GENSET entries: address, Po and engine state. -/
def liveGensets (es : List PeerEntry) : List (Address × Nat × EngineState) :=
  (liveEntries es).filterMap fun e =>
    match e.part with
    | .genset po _ engine => some (e.address, po, engine)
    | .axle _ _ _ _ _ | .pack _ _ _ => none

/-- Whether the node is primary (R90). -/
def isPrimary (own : Address) (gs : List (Address × Nat × EngineState)) : Bool :=
  gs.all fun g => !(decide (g.1 < own) && g.2.2 != .faulted)

/-- The secondary's primary: the live GENSET entry with the lowest address among those not reporting FAULTED (R90). -/
def primaryOf : List (Address × Nat × EngineState) → Option (Address × Nat × EngineState)
  | [] => none
  | g :: gs =>
    match primaryOf gs with
    | none => if g.2.2 = .faulted then none else some g
    | some p => if g.2.2 ≠ .faulted ∧ g.1 < p.1 then some g else some p

/-! ### The tests (R92, R93, R98, R100, R101) -/

/-- The primary's start want (R92 condition 1). -/
def primaryWant (c : List Word) (socMin : Nat) (nBar : Int) : Bool :=
  decide (socMin < socStart c) || (decide ((pStart c : Int) ≤ nBar) && decide (socMin < socHi c))

/-- The secondary's start want (R93). -/
def secondaryWant (gs : List (Address × Nat × EngineState)) (nBar : Int) : Bool :=
  match primaryOf gs with
  | some (_, po, engine) => engine == .running && decide (((po * 80 / 100 : Nat) : Int) ≤ nBar)
  | none => false

/-- The start want of the node (R92, R93). -/
def startWant (c : List Word) (g : Genset) (gs : List (Address × Nat × EngineState)) : Bool :=
  if g.primary then primaryWant c g.socMin g.nBar else secondaryWant gs g.nBar

/-- The zone condition (R92 condition 4). -/
def zoneAllows (c : List Word) (quiet : Bool) (socMin : Nat) : Bool := !quiet || decide (socMin < socFloor c)

/-- The held engine controller record: its report and the coolant. -/
def engineRecord (h1 : Option Partner1) : Option (EngineReport × Int) :=
  match h1 with
  | some ⟨_, .controller e coolant⟩ => some (e, coolant)
  | _ => none

/-- Whether a record is held that does not report the engine running (R92 condition 8). -/
def reportsIdle (h1 : Option Partner1) : Bool :=
  match engineRecord h1 with
  | some (e, _) => e != .running
  | none => false

/-- Whether the held record shows coolant below 10 °C (R95). -/
def coldEngine (h1 : Option Partner1) : Bool :=
  match engineRecord h1 with
  | some (_, coolant) => decide (coolant < 10)
  | none => false

/-- The start test in OFF (R92, R93). -/
def startTest (c : List Word) (g : Genset) (gs : List (Address × Nat × EngineState)) (given : DemandRecord) (op : OpState)
    (h1 : Option Partner1) : Bool :=
  startWant c g gs && decide (g.dwell * 1000 ≤ g.off.elapsed) && decide (g.starts.length < 6)
    && zoneAllows c given.quiet g.socMin && gs.all (fun x => x.2.2 != .cranking) && op == .active && !given.shutdown
    && reportsIdle h1

/-- The return test in COOLDOWN (R101). -/
def returnTest (c : List Word) (g : Genset) (gs : List (Address × Nat × EngineState)) (given : DemandRecord)
    (op : OpState) : Bool :=
  startWant c g gs && zoneAllows c given.quiet g.socMin && op == .active && !given.shutdown

/-- The stop condition in RUNNING (R100). -/
def stopCondition (c : List Word) (g : Genset) (quiet : Bool) : Bool :=
  (decide (socStop c ≤ g.socMin) && decide (g.nBar < pStop c)) || (quiet && decide (socFloor c + 100 ≤ g.socMin))

/-- The count of gensets in view that run: the live entries that report RUNNING, plus the node itself (R98 step 3). -/
def runningCount (gs : List (Address × Nat × EngineState)) : Nat := (gs.filter fun x => x.2.2 == .running).length + 1

/-- P_set as a tick forms it (R98). -/
def formPSet (c : List Word) (g : Genset) (gs : List (Address × Nat × EngineState)) (h : Nat) : Nat :=
  let want : Int := g.nBar + ((gainK c : Int) * ((socTarget c : Int) - g.socMin)).tdiv 10
  (clampInt 0 (gensetPo c h g.engine) want).toNat / runningCount gs

/-- The generator setpoint at a partner 0 completion (R99). -/
def generatorSetpoint (c : List Word) (g : Genset) (op : OpState) (h : Nat) : Nat :=
  if op = .active ∧ g.engine.delivers then min g.pSet (gensetPo c h g.engine) else 0

end Sys2Proof.Machine
end

