-- ==== Sys2Proof/Machine/Wear.lean ====
section
/-! DEFINITION. The Wear Accounting Unit's arithmetic (chapter 6): increments, carries, item states, derived values and
snapshots, as functions of the block and of what it is handed. -/

namespace Sys2Proof.Machine

/-- The end of an accumulator's range (R110, R119). -/
def accMax : Nat := 4294967295

/-- The state of item `i` with an accumulator (R120). -/
def itemState (c : List Word) (i acc : Nat) : WearState :=
  if dueOf c i ≤ acc then .due else if nearOf c i ≤ acc then .near else .ok

/-- Item `i` (1 to 4) of a table; a zero item where the role lacks it. -/
def itemAt (items : List WearItem) (i : Nat) : WearItem := items.getD (i - 1) ⟨0, 0, .ok⟩

/-- The table with item `i` replaced. -/
def setItem (items : List WearItem) (i : Nat) (x : WearItem) : List WearItem := items.set (i - 1) x

/-- An item with `n` units added, held at the end of the range, its state recomputed where the accumulator changes
(R119, R120). -/
def WearItem.add (x : WearItem) (c : List Word) (i n : Nat) : WearItem :=
  let acc := min (x.acc + n) accMax
  if acc = x.acc then x else { x with acc := acc, state := itemState c i acc }

/-- An item with an increment in parts of a unit gathered in its residue and the whole units moved (R112 to R114). -/
def WearItem.gather (x : WearItem) (c : List Word) (i unit inc : Nat) : WearItem :=
  WearItem.add { x with residue := (x.residue + inc) % unit } c i ((x.residue + inc) / unit)

/-- The increment of A1 in mJ (R112). -/
def padIncrement (pFb g v : Nat) : Nat := pFb * g * v / 18

/-- The increment of A2 in kW × 2 ms (R113). -/
def regenIncrement (pAct : Int) : Nat := if pAct < 0 then pAct.natAbs else 0

/-- Half-units per 0.1 A of charge current by temperature (Table 6.2-1). -/
def chargeWeight (tPack : Int) : Nat := if 35 < tPack then 4 else if tPack < 10 then 3 else 2

/-- The increment of S1 in half-units (R114). -/
def chargeIncrement (iPack tPack : Int) : Nat := if iPack < 0 then iPack.natAbs * chargeWeight tPack else 0

/-- The pad weight q (R123). -/
def padWeight (c : List Word) (a1 : Nat) : Nat := max 20 (100 - quotient (80 * a1) (dueOf c 1))

/-- The pack derate d_w (R124). -/
def packDerate (c : List Word) (s1 : Nat) : Nat := max 70 (100 - quotient (30 * s1) (dueOf c 1))

/-- q or d_w recomputed for the role from the accumulator of its first item; the others stay at 100 (R110, R123, R124). -/
def Wear.derive (w : Wear) (role : Option Role) (c : List Word) : Wear :=
  match role with
  | some .axle => { w with q := padWeight c (itemAt w.items 1).acc, dw := 100 }
  | some .pack => { w with q := 100, dw := packDerate c (itemAt w.items 1).acc }
  | some .genset | none => { w with q := 100, dw := 100 }

/-- Every item state recomputed from its accumulator (R126). -/
def restateItems (c : List Word) (items : List WearItem) : List WearItem :=
  items.mapIdx fun k x => { x with state := itemState c (k + 1) x.acc }

/-- The block at a reset, its accumulators, residues and run-second count kept: flags disarmed and cleared, the minute
timer stopped, states and derived values recomputed (R126). -/
def Wear.afterReset (w : Wear) (role : Option Role) (c : List Word) : Wear :=
  Wear.derive
    { w with items := restateItems c w.items, armA4 := false, armS3 := false, hot := false, minute := Timer.stopped }
    role c

/-- The items a slot gives at the boot load (R126, R170); zeroes where no slot is valid. The items with a residue are A1
and A2 of the AXLE role and S1 of the PACK role (Table 6.1-1). -/
def loadedItems (role : Role) (c : List Word) (p : Snapshot) : List WearItem :=
  (List.range (itemCount role)).map fun i =>
    { acc := p.accs.getD i 0
      residue :=
        match role, i with
        | .axle, 0 => p.resA1
        | .axle, 1 => p.resA2
        | .pack, 0 => p.resS1
        | _, _ => 0
      state := itemState c (i + 1) (p.accs.getD i 0) }

/-- The snapshot a flush takes: accumulators in item order and the residues the role holds (R127). -/
def snapshotOf (role : Option Role) (items : List WearItem) : Snapshot where
  accs := items.map WearItem.acc
  resA1 := if role = some .axle then (itemAt items 1).residue else 0
  resA2 := if role = some .axle then (itemAt items 2).residue else 0
  resS1 := if role = some .pack then (itemAt items 1).residue else 0

/-- A4's test: whether a hard application counts, and the arming flag after it (R115). -/
def hardApplication (armed : Bool) (pFb : Nat) : Bool × Bool :=
  if decide (600 < pFb) && armed then (true, false) else if pFb < 500 then (false, true) else (false, armed)

/-- S3's test in its two steps: whether a full charge counts, and the arming flag after it (R117). -/
def fullCharge (c : List Word) (armed : Bool) (soc : Nat) : Bool × Bool :=
  let counts := armed && decide (socMax c ≤ soc)
  (counts, (armed && !counts) || (decide (soc < 900) && decide (soc < socMax c)))

/-- WEAR_RESET of an item: the accumulator and the residue 0, the state OK, and q at a reset of A1 or d_w at a reset of S1
recomputed to 100 (R123 to R125). The state is OK, as R125 step 3 says, where the near threshold is 0 too (log entry 46). -/
def Wear.resetItem (w : Wear) (role : Option Role) (i : Nat) : Wear :=
  { w with
    items := setItem w.items i ⟨0, 0, .ok⟩
    runSeconds := if role = some .genset ∧ i = 2 then 0 else w.runSeconds
    q := if role = some .axle ∧ i = 1 then 100 else w.q
    dw := if role = some .pack ∧ i = 1 then 100 else w.dw }

end Sys2Proof.Machine
end

