-- ==== Sys2Proof/Machine/Line.lean ====
section
/-! DEFINITION. The Share Line Interface (chapter 8): frames and their check, the judgement of a received frame and the
command it arrives as, the places of the transmit queue, and the frames the node sends. -/

namespace Sys2Proof.Machine

/-! ### Frames (R143) -/

/-- The bits of fields 2 to 6 of a frame, in the order sent (R143). -/
def frameBits (urgency : BitVec 3) (source : Address) (kind : BitVec 3) (length : BitVec 3) (words : List Word) :
    List Bool :=
  bitsOf urgency ++ bitsOf source ++ bitsOf kind ++ bitsOf length ++ words.flatMap bitsOf

/-- The check the sender sends: the register's final value over fields 2 to 6 (R143). -/
def frameCheck (urgency : BitVec 3) (source : Address) (kind : BitVec 3) (words : List Word) : Word :=
  checkOf (frameBits urgency source kind (BitVec.ofNat 3 words.length) words)

/-- A frame with the check its sender forms. -/
def makeFrame (urgency : BitVec 3) (source : Address) (kind : BitVec 3) (words : List Word) : Frame where
  urgency := urgency
  source := source
  kind := kind
  words := words
  check := frameCheck urgency source kind words

/-- The payload words of a STATE frame by role (Table 8.1-1). -/
def stateLength : Role → Nat
  | .axle => 6
  | .pack => 5
  | .genset => 4

/-- Whether a STATE payload's role code names a role and its length matches that role (R144). -/
def stateFits (words : List Word) : Bool :=
  match roleOfCode ((wordAt words 0).extractLsb' 14 2).toNat with
  | some role => decide (words.length = stateLength role)
  | none => false

/-- Whether a payload is one that a frame's length field can carry: 0 to 6 words (R143). -/
def payloadCarried (words : List Word) : Bool := decide (words.length ≤ 6)

/-- Whether the argument words are as many as a service request can carry behind its word 0 (R143). -/
def argumentsCarried (args : List Word) : Bool := decide (args.length ≤ 5)

/-- Whether a frame that has reached its end with recessive end bits is good (R144). -/
def Frame.good (f : Frame) : Bool :=
  decide (f.words.length ≤ 6) && f.check == frameCheck f.urgency f.source f.kind f.words
    && (match f.kind.toNat with
      | 0 => true
      | 1 => stateFits f.words
      | 2 | 3 => decide (1 ≤ f.words.length)
      | _ => false)

/-- The arbitration field (R143). -/
def Frame.arbitration (f : Frame) : BitVec 7 := f.urgency ++ f.source

/-- The target address of a service request's word 0 (Table 8.8-4). -/
def requestTarget (words : List Word) : Address := (wordAt words 0).extractLsb' 12 4

/-- The request code of a service request's word 0 (Table 8.8-4). -/
def requestCode (words : List Word) : BitVec 8 := (wordAt words 0).extractLsb' 4 8

/-- The command a service request arrives as, by its code (Table 8.8-5). -/
def requestCommand (src target : Address) (code : BitVec 8) (args : List Word) : Instr :=
  match code.toNat with
  | 1 => .identify src target args
  | 2 => .readStatus src target args
  | 3 => .clear src target args
  | 4 => .forceFault src target args
  | 5 => .releaseFault src target args
  | 6 => .forceWarn src target args
  | 7 => .releaseWarn src target args
  | 8 => .readWear src target args
  | 9 => .wearReset src target args
  | 10 => .configRead src target args
  | 11 => .configWrite src target args
  | 12 => .restart src target args
  | 13 => .reboot src target args
  | _ => .unsupportedRequest src target code args

/-- The command a frame arrives as at the third end bit (R144, R145): BAD_FRAME where it is not good. -/
def Frame.arrival (f : Frame) : Instr :=
  if f.good then
    match f.kind.toNat with
    | 0 => .demandArrival f.source f.words
    | 1 => .stateArrival f.source f.words
    | 2 => requestCommand f.source (requestTarget f.words) (requestCode f.words) f.words.tail
    | _ => .svcReplyArrival f.source f.words
  else .badFrame

/-! ### The STATE place (R148, R150) -/

/-- A period expiry at the STATE place (R150). -/
def StatePlace.periodExpiry (p : StatePlace) : StatePlace :=
  match p.condition with
  | .empty => { p with condition := .queued, urgency := 2 }
  | .queued | .inFlight => p

/-- A prompt request at the STATE place (R150). -/
def StatePlace.promptRequest (p : StatePlace) : StatePlace :=
  match p.condition with
  | .empty => { p with condition := .queued, urgency := 1 }
  | .queued => { p with urgency := 1 }
  | .inFlight => { p with followOn := true }

/-- The end of an attempt that completes (R150, R153): the carried set released, the follow-on request applied; an empty
place keeps its urgency (log entry 44). -/
def StatePlace.completed (p : StatePlace) : StatePlace :=
  if p.followOn then { condition := .queued, urgency := 1, followOn := false, carried := 0 }
  else { p with condition := .empty, carried := 0 }

/-- The end of an attempt that loses arbitration or is abandoned (R150): queued again with its carried set. -/
def StatePlace.requeued (p : StatePlace) : StatePlace :=
  { p with condition := .queued, urgency := if p.followOn then 1 else p.urgency, followOn := false }

/-! ### Reply places (R148) -/

/-- The lowest-numbered reply place that is empty, if any (log entry 15). -/
def freePlace (rs : List ReplyPlace) : Option Nat := [1, 2, 3].find? fun n => rs.all fun r => r.place != n

/-- A place reserved for a request, behind those reserved before it (R148); what it holds as a result until the reply is
formed is log entry 45's. -/
def reservePlace (rs : List ReplyPlace) (n : Nat) (code : BitVec 8) : List ReplyPlace :=
  rs ++ [{ place := n, condition := .reserved, code := code, result := .done, data := [] }]

/-- The reply of a place formed: the place becomes queued (R148); a reply with a result other than DONE carries word 0
alone (Table 8.8-5). -/
def formReply (rs : List ReplyPlace) (n : Nat) (result : ReplyResult) (data : List Word) : List ReplyPlace :=
  rs.map fun r =>
    if r.place = n then { r with condition := .queued, result := result, data := if result = .done then data else [] }
    else r

/-- The queued reply whose place was reserved first (R149). -/
def headReply (rs : List ReplyPlace) : Option ReplyPlace := rs.find? fun r => r.condition == .queued

/-- A place put in flight. -/
def startReply (rs : List ReplyPlace) (n : Nat) : List ReplyPlace :=
  rs.map fun r => if r.place = n then { r with condition := .inFlight } else r

/-- The reply in flight, if any. -/
def replyInFlight (rs : List ReplyPlace) : Option ReplyPlace := rs.find? fun r => r.condition == .inFlight

/-- The place in flight queued again (R152, R153). -/
def requeueReplies (rs : List ReplyPlace) : List ReplyPlace :=
  rs.map fun r => if r.condition = .inFlight then { r with condition := .queued } else r

/-- The place in flight emptied (R153). -/
def releaseReplies (rs : List ReplyPlace) : List ReplyPlace := rs.filter fun r => r.condition != .inFlight

/-! ### The frames the node sends -/

/-- A STATE header word (Table 8.8-2). -/
def stateHeader (role : Role) (op : OpState) (f w : Bool) (roleBits : Nat) : Word :=
  BitVec.ofNat 16 (role.code * 16384 + op.code * 2048 + bitOf f * 1024 + bitOf w * 512 + roleBits * 64)

/-- The payload of a STATE frame as filled from the records as they stand (R151, Tables 8.8-2 and 8.8-3). -/
def State.statePayload (s : State) (role : Role) : List Word :=
  let header := stateHeader role s.nsq.op s.fBit s.wBit
  let kw (n : Nat) : Word := BitVec.ofNat 16 n
  match role with
  | .axle =>
    let o := s.blu.own
    [header (bitOf o.slip * 4), kw o.pd, kw o.pr, kw o.fb, kw o.q, BitVec.ofInt 16 o.pAct]
  | .pack =>
    let o := s.plu.own
    [header 0, kw o.po, kw o.pa, kw o.soc, BitVec.ofInt 16 o.pAct]
  | .genset =>
    [header s.gsc.engine.code, kw s.gsc.ownPo, kw s.gsc.ownPa, BitVec.ofInt 16 s.gsc.ownPAct]

/-- The STATE frame as filled at its start (R151): kind 1, at the place's urgency. -/
def State.stateFrame (s : State) (role : Role) : Frame :=
  makeFrame (BitVec.ofNat 3 s.sli.state.urgency) s.ownAddress 1#3 (s.statePayload role)

/-- Word 0 of a reply (Table 8.8-4). -/
def replyHeader (code : BitVec 8) (result : ReplyResult) : Word := 0#4 ++ code ++ BitVec.ofNat 4 result.code

/-- The frame of a formed reply: kind 3, at urgency 6 (Table 8.1-1). -/
def State.replyFrame (s : State) (r : ReplyPlace) : Frame :=
  makeFrame 6#3 s.ownAddress 3#3 (replyHeader r.code r.result :: r.data)

/-! ### Requests at the queue -/

/-- A prompt STATE requested (R138, R150). -/
def State.requestPrompt (s : State) : State := s.setSli { s.sli with state := s.sli.state.promptRequest }

/-- A reply formed in a place (R148). -/
def State.reply (s : State) (place : Nat) (result : ReplyResult) (data : List Word) : State :=
  s.setSli { s.sli with replies := formReply s.sli.replies place result data }

/-- A reply formed in a place that a RESTART may have emptied (R174). -/
def State.replyTo (s : State) (place : Option Nat) (result : ReplyResult) (data : List Word) : State :=
  match place with
  | some n => s.reply n result data
  | none => s

/-- Whether an attempt is in flight: the STATE place or a reply place. -/
def State.attempting (s : State) : Bool :=
  s.sli.state.condition == .inFlight || (replyInFlight s.sli.replies).isSome

/-- Whether the receiver can have followed another station's frame to its end (R142): it was in IDLE at the start bit, or
follows a frame in RECEIVE that the node is not sending. In WAIT_IDLE no start bit is taken (log entry 3). -/
def State.receives (s : State) : Bool := (s.sli.line == .idle || s.sli.line == .receive) && !s.attempting

/-- The end of a received frame: the receiver returns to WAIT_IDLE with the count at 0 (R142). -/
def State.frameEnds (s : State) : State := s.setSli { s.sli with line := .waitIdle 0 }

end Sys2Proof.Machine
end

