-- ==== Sys2Proof/Machine/Ops.lean ====
section
/-! DEFINITION. The operations that reach across blocks: the own capability record, wear increments, the resets, STANDBY
entry, flushes and the parties that wait on them, engine transitions, changes of operating state, and what ends every
event that changes the status set. -/

namespace Sys2Proof.Machine

/-! ### Timers -/

/-- Whether a timer's expiry is due: it runs and has reached its period (log entry 2). -/
def Timer.due (t : Timer) (period : Nat) : Bool := t.running && decide (period ≤ t.elapsed)

/-- A timer stopped with its elapsed time as it stands (log entry 45). -/
def Timer.halt (t : Timer) : Timer := { t with running := false }

/-- A one-shot timer whose expiry is due. -/
def OneShot.due (t : OneShot) (period : Nat) : Bool :=
  match t with
  | .running e => decide (period ≤ e)
  | .stopped | .expired => false

/-! ### Slots and the own capability record -/

/-- A setpoint written into partner 0's pending slot, in place of whatever it held (R158). -/
def State.writeSlot0 (s : State) (p : Setpoint) : State := s.setStp { s.stp with slot0 := some p }

/-- A setpoint written into partner 1's pending slot (R158). -/
def State.writeSlot1 (s : State) (p : Setpoint) : State := s.setStp { s.stp with slot1 := some p }

/-- The own capability record of the node's role re-formed whole from its inputs (R46, R78, R107). -/
def State.reformOwn (s : State) : State :=
  match s.role with
  | some .axle =>
    s.setBlu { s.blu with
      own := axleRecord s.mpt.copy s.nsq.op s.stp.held0 s.stp.held1 s.wau.q s.blu.slip s.blu.limitL }
  | some .pack => s.setPlu (s.plu.advertise s.nsq.op (packReading s.stp.held1) (heldPAct s.stp.held0))
  | some .genset => s.setGsc (s.gsc.reform s.mpt.copy s.nsq.op s.stp.held0)
  | none => s

/-- The pack's limits formed from the held record and d_w, advertised, and DERATE followed (R72 to R78). -/
def State.formPackLimits (s : State) : State :=
  let p := s.plu.formLimits s.mpt.copy (packReading s.stp.held1) s.wau.dw
  ((s.setPlu p).reformOwn).putStatus .derate p.derated

/-! ### Wear increments (R112 to R124) -/

/-- Item `i` replaced: WEAR_NEAR follows, an entry into DUE latches WEAR_DUE, and a change of the first item's accumulator
recomputes q or d_w, a change of q re-forming the own capability record (R120 to R124). -/
def State.putItem (s : State) (i : Nat) (x : WearItem) : State :=
  let old := itemAt s.wau.items i
  let w := { s.wau with items := setItem s.wau.items i x }
  let s1 := (s.setWau w).putStatus .wearNear (anyNear w.items)
  let s2 := if x.state = .due ∧ old.state ≠ .due then s1.putStatus .wearDue true else s1
  if i = 1 ∧ x.acc ≠ old.acc then
    let s3 := s2.setWau (w.derive s.role s.mpt.copy)
    if s.role = some .axle ∧ s3.wau.q ≠ s.wau.q then s3.reformOwn else s3
  else s2

/-- `n` units added to item `i` (R115, R116, R118). -/
def State.addUnits (s : State) (i n : Nat) : State := s.putItem i ((itemAt s.wau.items i).add s.mpt.copy i n)

/-- An increment gathered in item `i`'s residue, a unit being `unit` parts (R112 to R114). -/
def State.gather (s : State) (i unit inc : Nat) : State :=
  s.putItem i ((itemAt s.wau.items i).gather s.mpt.copy i unit inc)

/-! ### Exchanges (R157, R158, R165) -/

/-- An exchange begun with a partner: its nibble rises and its slot's content is copied into the outgoing bytes. -/
def State.beginExchange (s : State) (p : Partner) (sample : OwnReading) : State :=
  match p with
  | .p0 =>
    s.setStp { s.stp with
      seq0 := s.stp.seq0 + 1
      inFlight := some ⟨.p0, recordOfSlot (s.stp.seq0 + 1) s.stp.slot0, sample⟩ }
  | .p1 =>
    s.setStp { s.stp with
      seq1 := s.stp.seq1 + 1
      inFlight := some ⟨.p1, recordOfSlot (s.stp.seq1 + 1) s.stp.slot1, .none⟩ }

/-- The first final exchange begun at STANDBY entry, or once an exchange in flight at entry has ended (R165). -/
def State.beginFinal (s : State) : State :=
  (s.setStp { s.stp with final := .partner0 }).beginExchange .p0 .none

/-! ### SYNC entry (R178) -/

/-- Entry to SYNC: every block's SYNC-entry work, and the first prompt STATE. `held` tells that PARTNER_RESET stays
asserted, for the 10 ms after a RESTART (R165). -/
def State.enterSync (s : State) (held : Bool) : State :=
  let s := s.setNsq { s.nsq with op := .sync, sync := .running 0, strapCheck := Timer.started }
  let s := s.setPins { s.pins with ready := false, traction := false, partnerReset := held }
  let s := s.setPtb { s.ptb with demandTimer := Timer.started }
  let s := s.setSli { s.sli with line := .waitIdle 0, window := Timer.started, period := Timer.started }
  let s := s.setMpt { s.mpt with recheck := Timer.started }
  let s :=
    if held then s.setStp { s.stp with release := Timer.started }
    else s.setStp { s.stp with exchange := Timer.started, settle := .running 0 }
  let s :=
    match s.role with
    | some .axle => s.setBlu { s.blu with rampTimer := Timer.started }
    | some .pack => s.setWau { s.wau with minute := Timer.started }
    | some .genset => s.setGsc { s.gsc with tick := Timer.started, off := Timer.started }
    | none => s
  let s := s.reformOwn.requestPrompt
  s.setStu { s.stu with fValue := s.fBit }

/-! ### Resets (R175) -/

/-- The bytes of the page in flight left free, its write not having ended (R172, R174, log entry 7). -/
def State.tearPage (s : State) (job : FlushJob) : State :=
  (s.setMpt { s.mpt with
      eeprom := Memory.writeAll s.mpt.eeprom (pageAddress job.slot job.page) (tornBytes s.free 32) }).setFree (s.free + 32)

/-- The bytes of an image word left free, its write not having ended (log entry 8). -/
def State.tearWord (s : State) (n : Nat) : State :=
  (s.setMpt { s.mpt with eeprom := Memory.writeAll s.mpt.eeprom (2 * n) (tornBytes s.free 2) }).setFree (s.free + 2)

/-- The operation in flight abandoned at once (R174). -/
def State.abandonOperation (s : State) : State :=
  match s.mpt.op with
  | .flush job => s.tearPage job
  | .configWrite _ n _ _ => (s.tearWord n).tearWord 63
  | .none | .bootLoad | .configRead _ _ => s

/-- The node in BOOT after POWER_ON, BROWN_OUT or REBOOT with a valid sample, the boot load in flight (R177).
The pad weight q, in the own capability record and in the Wear Accounting Unit, and d_w are 100 until the load (DESIGN
CHOICE, log entry 6): the manual gives only the loaded values (R69, R126). -/
def State.intoBoot (s : State) (k : ResetKind) (role : Role) : State where
  nsq := Sequencer.initial .boot s.pins.straps k
  pins := ⟨s.pins.straps, false, false, true⟩
  stu := StatusUnit.initial
  ptb := PeerTable.initial
  she := ShareRecord.initial
  blu := BlendUnit.initial 100
  plu := PackUnit.initial
  gsc := Genset.initial
  wau := Wear.blank (itemCount role)
  sli := LineUnit.initial
  stp := StagePort.initial
  mpt := MemoryPort.initial .bootLoad s.mpt.eeprom s.mpt.torn
  free := s.free
  pending := s.pending

/-- The node in MUTE after POWER_ON, BROWN_OUT or REBOOT with an invalid sample (R176): no image is read, the running copy
holds the defaults with no role, and the receiver runs (R155, R168). -/
def State.intoMute (s : State) (k : ResetKind) : State where
  nsq := Sequencer.initial .mute s.pins.straps k
  pins := ⟨s.pins.straps, false, false, false⟩
  stu := StatusUnit.initial
  ptb := PeerTable.initial
  she := ShareRecord.initial
  blu := BlendUnit.initial 100
  plu := PackUnit.initial
  gsc := Genset.initial
  wau := Wear.blank 0
  sli := { LineUnit.initial with line := .waitIdle 0, window := Timer.started }
  stp := StagePort.initial
  mpt := { MemoryPort.initial .none s.mpt.eeprom s.mpt.torn with copy := defaultImage none }
  free := s.free
  pending := s.pending

/-- POWER_ON, BROWN_OUT or REBOOT: the straps sampled anew from the pins (R175, R176). -/
def State.hardReset (s : State) (k : ResetKind) : State :=
  match strapRole s.pins.straps with
  | some role => s.abandonOperation.intoBoot k role
  | none => s.abandonOperation.intoMute k

/-- The operation in flight without its reply places, which a RESTART empties (R174). -/
def Operation.detached : Operation → Operation
  | .flush job => .flush { job with parties := [] }
  | .configRead _ n => .configRead Option.none n
  | .configWrite _ n mask value => .configWrite Option.none n mask value
  | .none => .none
  | .bootLoad => .bootLoad

/-- RESTART or WAKE up to SYNC entry: the sample, the running copy, the ring position, the wear accounts and the three
kept statuses stay (R126, R141, R174, R175). -/
def State.keptBlocks (s : State) (k : ResetKind) : State :=
  let w := s.wau.afterReset s.role s.mpt.copy
  let set := statusPut (statusPut (s.stu.set &&& keptSet) .wearNear (anyNear w.items)) .wearDue (anyDue w.items)
  { nsq := { Sequencer.initial .sync s.nsq.sample k with strapDiffers := s.nsq.strapDiffers }
    pins := { s.pins with ready := false, traction := false }
    stu := { StatusUnit.initial with set := set }
    ptb := PeerTable.initial
    she := ShareRecord.initial
    blu := BlendUnit.initial w.q
    plu := PackUnit.initial
    gsc := Genset.initial
    wau := w
    sli := LineUnit.initial
    stp := StagePort.initial
    mpt := { s.mpt with
      op := s.mpt.op.detached
      pendingFlush := s.mpt.pendingFlush.map fun _ => []
      flush := Timer.stopped
      recheck := Timer.stopped }
    free := s.free
    pending := s.pending }

/-- RESTART (R165, R175): into SYNC directly, PARTNER_RESET asserted for 10 ms. -/
def State.restartReset (s : State) : State := (s.keptBlocks .restart).enterSync true

/-- WAKE (R44, R165, R175): into SYNC directly. -/
def State.wakeReset (s : State) : State := (s.keptBlocks .wake).enterSync false

/-! ### STANDBY (R180, R181) -/

/-- The conditions of STANDBY entry (R180). -/
def State.standbyReady (s : State) : Bool :=
  s.nsq.holdMet && (s.nsq.op == .active || s.nsq.op == .withdrawn) && s.nsq.pendingReset == .none
    && (s.role != some .genset || s.gsc.engine == .off)

/-- What the role block does at STANDBY entry (R68, R84, R104). -/
def State.roleStandby (s : State) : State :=
  match s.role with
  | some .axle =>
    ((s.setBlu { s.blu with
        dE := 0, rE := 0, fE := 0, torque := 0, pressure := 0
        rampTimer := s.blu.rampTimer.halt, slipHold := s.blu.slipHold.halt }).reformOwn
      |>.writeSlot0 (.torque 0)).writeSlot1 (.pressure 0)
  | some .pack =>
    (s.setPlu { s.plu with iDis := 0, iChg := 0 }).reformOwn.writeSlot0 (.converter (uRef s.mpt.copy) 0 0)
  | some .genset =>
    ((s.setGsc { s.gsc with
        command := .stop
        tick := s.gsc.tick.halt, off := s.gsc.off.halt, crank := s.gsc.crank.halt, warm := s.gsc.warm.halt
        run := s.gsc.run.halt, cooldown := s.gsc.cooldown.halt }).reformOwn
      |>.writeSlot1 (.engine .stop)).writeSlot0 (.generator 0)
  | none => s

/-- Entry to STANDBY, every block's part in one event (R181). -/
def State.enterStandby (s : State) : State :=
  let s := s.setNsq { s.nsq with
    op := .standby, sync := .stopped, strapCheck := s.nsq.strapCheck.halt, hold := s.nsq.hold.halt
    limit := s.nsq.limit.halt }
  let s := s.setPins { s.pins with ready := false, traction := false }
  let s := s.roleStandby
  let s := s.setPtb { s.ptb with
    entries := s.ptb.entries.map fun e => { e with ageTimer := e.ageTimer.halt }
    demandTimer := s.ptb.demandTimer.halt }
  let s := s.setSli { s.sli with period := s.sli.period.halt }
  let s := s.setMpt { s.mpt with flush := s.mpt.flush.halt }
  let s := s.setWau { s.wau with minute := s.wau.minute.halt }
  let s := s.setStp { s.stp with exchange := s.stp.exchange.halt, settle := .stopped }
  match s.stp.inFlight with
  | some _ => s.setStp { s.stp with final := .awaiting }
  | none => s.beginFinal

/-! ### Flushes (R167, R171, R172) -/

/-- The greatest sequence number (R172). -/
def seqMax : Nat := 4294967295

/-- Attempt `n` of a flush from the ring position (R172); none where its sequence number would pass the limit. -/
def attemptJob (m : MemoryPort) (p : Snapshot) (parties : List Party) (n : Nat) : Option FlushJob :=
  if seqMax < m.ringSeq + n then none
  else some { snapshot := p, attempt := n, slot := (m.ringSlot + n) % 8, seq := m.ringSeq + n, page := 1, parties := parties }

/-- The Memory Port with an attempt begun: its first page sent, and its slot's check bad until the second page is stored
(R172, Table 10.3-1). -/
def MemoryPort.beginAttempt (m : MemoryPort) (job : FlushJob) : MemoryPort :=
  { m with op := .flush job, poll := Timer.started, torn := m.torn ||| (1#8 <<< job.slot) }

/-- What a waiting party does with a flush's outcome: a WEAR_RESET's reply is formed (R125), STANDBY is entered where its
conditions still hold (R180, log entry 19), the REBOOT reset is taken (R184). -/
def State.reportParty (ok : Bool) (s : State) : Party → State
  | .wearReset place item => s.reply place (if ok then .done else .memFail) [BitVec.ofNat 16 item]
  | .standby => if s.standbyReady then s.enterStandby else s
  | .reboot => s.hardReset .reboot

/-- The outcome of a flush reported to the parties that wait on it (R167). -/
def State.reportFlush (s : State) (ok : Bool) (parties : List Party) : State := parties.foldl (State.reportParty ok) s

/-- A flush ended: no operation in flight, MEM_FAULT latched at a failure, its outcome reported (R167, R172). -/
def State.concludeFlush (s : State) (ok : Bool) (parties : List Party) : State :=
  let s := s.setMpt { s.mpt with op := .none, poll := Timer.stopped }
  let s := if ok then s else s.putStatus .memFault true
  s.reportFlush ok parties

/-- A flush started: its snapshot taken and its first attempt begun, or, at the sequence limit, failed at once (R171,
R172). -/
def State.launchFlush (s : State) (parties : List Party) : State :=
  match attemptJob s.mpt (snapshotOf s.role s.wau.items) parties 1 with
  | some job => s.setMpt (s.mpt.beginAttempt job)
  | none => s.concludeFlush false parties

/-- A pending flush started where no operation is in flight (R167). -/
def State.startPending (s : State) : State :=
  if s.mpt.op = .none then
    match s.mpt.pendingFlush with
    | some parties => (s.setMpt { s.mpt with pendingFlush := none }).launchFlush parties
    | none => s
  else s

/-- A flush requested: started at once, or pending, or joining the pending one (R167). -/
def State.requestFlush (s : State) (parties : List Party) : State :=
  if s.mpt.op = .none then s.launchFlush parties
  else s.setMpt { s.mpt with pendingFlush := some ((s.mpt.pendingFlush.getD []) ++ parties) }

/-- The end of a flush, with the pending flush started in the same event (R167, log entry 34). -/
def State.endFlush (s : State) (ok : Bool) (parties : List Party) : State := (s.concludeFlush ok parties).startPending

/-- The end of a service request's operation, with the pending flush started in the same event (R167). -/
def State.endOperation (s : State) : State :=
  (s.setMpt { s.mpt with op := .none, poll := Timer.stopped }).startPending

/-- The parties that wait on the flush in flight or on the pending flush. -/
def State.waiting (s : State) : List Party :=
  (match s.mpt.op with
    | .flush job => job.parties
    | _ => []) ++ s.mpt.pendingFlush.getD []

/-- Whether the node waits on its STANDBY flush (R180). -/
def State.waitsStandby (s : State) : Bool := s.waiting.contains .standby

/-- The STANDBY conditions tested: where they hold, a flush is requested and waited on (R180). -/
def State.testStandby (s : State) : State :=
  if s.standbyReady && !s.waitsStandby then s.requestFlush [.standby] else s

/-! ### Engine transitions (R91, R95 to R102) -/

/-- The engine state changed: the command written, P_set and the own capability record following (R91). -/
def State.enterEngine (s : State) (e : EngineState) : State :=
  ((s.setGsc (s.gsc.enter e)).writeSlot1 (.engine (commandOf e))).reformOwn

/-- The engine enters OFF with a required dwell in s, the timers of the state it leaves stopped; the STANDBY conditions are
tested (R96, R101, R102, R180). -/
def State.engineOff (s : State) (dwell : Nat) : State :=
  let s := s.setGsc { s.gsc with
    crank := Timer.stopped, warm := Timer.stopped, cooldown := Timer.stopped, off := Timer.started, dwell := dwell }
  (s.enterEngine .off).testStandby

/-- The engine enters COOLDOWN (R101). -/
def State.engineCooldown (s : State) : State :=
  (s.setGsc { s.gsc with cooldown := Timer.started, warm := Timer.stopped }).enterEngine .cooldown

/-- The engine enters WARMING at a running report in CRANKING (R96). -/
def State.engineWarming (s : State) : State :=
  (s.setGsc { s.gsc with
    crank := Timer.stopped, failures := 0, warm := Timer.started, run := Timer.started, runMet := false }).enterEngine .warming

/-- The engine enters RUNNING, from WARMING or from COOLDOWN (R97, R101). -/
def State.engineRunning (s : State) : State :=
  (s.setGsc { s.gsc with warm := Timer.stopped, cooldown := Timer.stopped }).enterEngine .running

/-- A start attempt: the reading joins the ring, the crank timer starts, the off timer stops, G1 and G3 take their
increments (R95). -/
def State.engineAttempt (s : State) : State :=
  let s := s.setGsc { s.gsc with
    starts := s.gsc.starts ++ [s.gsc.clock], crank := Timer.started, off := s.gsc.off.halt }
  let s := (s.enterEngine .cranking).addUnits 1 1
  if coldEngine s.stp.held1 then s.addUnits 3 1 else s

/-- What the engine does at entry to WITHDRAWN (R104), and under SHUTDOWN (R103). -/
def State.engineWithdrawn (s : State) : State :=
  match s.gsc.engine with
  | .warming | .running => s.engineCooldown
  | .cranking => s.engineOff 20
  | .off | .cooldown | .faulted => s

/-! ### Operating state (R136 to R138, R178) -/

/-- Entry to ACTIVE or WITHDRAWN: the discrete lines, the own capability record, the prompt STATE, and the engine's part
(R104, R136 to R138). -/
def State.enterServing (s : State) (op : OpState) : State :=
  let s := s.setNsq { s.nsq with op := op }
  let s := s.setPins { s.pins with ready := true, traction := op == .active }
  let s := s.reformOwn.requestPrompt
  if op = .withdrawn ∧ s.role = some .genset then s.engineWithdrawn else s

/-- SYNC exit: ACTIVE where no withdrawing status is set, else WITHDRAWN; the flush timer starts and the STANDBY conditions
are tested (R136, R171, R178, R180). -/
def State.leaveSync (s : State) : State :=
  let s := s.setMpt { s.mpt with flush := Timer.started }
  (s.enterServing (if s.withdraws then .withdrawn else .active)).testStandby

/-- The operating state decided from the withdrawing set (R136). -/
def State.decideOp (s : State) : State :=
  match s.nsq.op with
  | .active => if s.withdraws then s.enterServing .withdrawn else s
  | .withdrawn => if s.withdraws then s else s.enterServing .active
  | .boot | .sync | .standby | .mute => s

/-- Whether an event since the reset can have formed the F value that R141 clears: none has in BOOT, nor in MUTE while the
status set is as the reset left it, empty. -/
def State.formsF (s : State) : Bool :=
  match s.nsq.op with
  | .boot => false
  | .mute => s.stu.set != 0
  | .sync | .active | .withdrawn | .standby => true

/-- The F value formed and compared with the one before; a change requests a prompt STATE where STATE frames are sent
(R138, R141, log entry 11). -/
def State.compareF (s : State) : State :=
  let t := s.setStu { s.stu with fValue := if s.formsF then s.fBit else s.stu.fValue }
  if s.fBit != s.stu.fValue && s.serves then t.requestPrompt else t

/-- What ends every event that may change the status set: withdrawal and the F bit evaluated (R128, R136, R138). -/
def State.settle (s : State) : State := s.decideOp.compareF

end Sys2Proof.Machine
end

