-- ==== Sys2Proof/Machine/SupplyCommands.lean ====
section
/-! DEFINITION. The supply events and the end of the boot load (chapters 10 and 11). -/

namespace Sys2Proof.Machine

/-- The strap pins' levels as a command finds them (log entry 28). -/
def State.pinStraps (s : State) (p : Straps) : State := s.setPins { s.pins with straps := p }

/-- The image taken into the running copy: as read where every read is acknowledged and it is accepted, else the
built-in defaults with CFG_DEFAULT latched (R168). -/
def State.loadImage (s : State) (role : Role) (ack : Bool) : State :=
  let image := eepromImage s.mpt.eeprom
  if ack && imageAccepted role image then s.setMpt { s.mpt with copy := image, copyDefault := false }
  else (s.setMpt { s.mpt with copy := defaultImage (some role), copyDefault := true }).putStatus .cfgDefault true

/-- The wear ring loaded: the table and the ring position from the newest valid slot, or zeroes and WEAR_BLANK where none
is valid (R126, R170). -/
def State.loadRing (s : State) (role : Role) (acks : BitVec 8) : State :=
  match newestSlot (validSlots s.mpt.eeprom s.mpt.torn acks role) with
  | some (k, seq) =>
    let items := loadedItems role s.mpt.copy (slotSnapshot role (readSlot s.mpt.eeprom k))
    (s.setWau { s.wau with items := items }).setMpt { s.mpt with ringSlot := k, ringSeq := seq }
  | none =>
    let items := loadedItems role s.mpt.copy ⟨[], 0, 0, 0⟩
    ((s.setWau { s.wau with items := items }).setMpt { s.mpt with ringSlot := 7, ringSeq := 0 }).putStatus .wearBlank true

/-- The Wear Accounting Unit after the load: q, d_w, WEAR_NEAR and WEAR_DUE from the table (R120 to R126). -/
def State.restateWear (s : State) : State :=
  let w := s.wau.derive s.role s.mpt.copy
  let s := (s.setWau w).putStatus .wearNear (anyNear w.items)
  let s := if anyDue w.items then s.putStatus .wearDue true else s
  s.setBlu { s.blu with own := { s.blu.own with q := w.q } }

/-- The boot load's end: the running copy, the table and the ring position are set and the node enters SYNC (R170, R177,
R178). -/
def State.endBootLoad (s : State) (role : Role) (imageAck : Bool) (slotAcks : BitVec 8) : State :=
  let s := ((s.loadImage role imageAck).loadRing role slotAcks).restateWear
  ((s.setMpt { s.mpt with op := .none }).enterSync false).settle

/-- POWER_ON (R175, R176): taken in any operating state. -/
def execPowerOn (p : Straps) (s : State) : Outcome := .next ((s.pinStraps p).hardReset .powerOn)

/-- BROWN_OUT (R175, R176): taken in any operating state. -/
def execBrownOut (p : Straps) (s : State) : Outcome := .next ((s.pinStraps p).hardReset .brownOut)

/-- BOOT_LOAD_COMPLETE (R168, R170, R177), while the boot load is in flight (log entry 2). -/
def execBootLoadComplete (imageAck : Bool) (slotAcks : BitVec 8) (s : State) : Outcome :=
  .next
    (match s.role with
    | some role =>
      if s.nsq.op = .boot ∧ s.mpt.op = .bootLoad then s.endBootLoad role imageAck slotAcks else s
    | none => s)

end Sys2Proof.Machine
end

