-- ==== Sys2Proof/Machine/FrameCommands.lean ====
section
/-! DEFINITION. Frames that end on the Share Line and what they do (chapters 1, 2, 7, 8 and 11). -/

namespace Sys2Proof.Machine

/-! ### The end of a frame (R142, R144 to R147) -/

/-- The end of a bad or malformed frame: 1 on the receive error count, and LINK_NOISY captured at the frame that brings
it to 20 (R144, R147). -/
def State.badFrameEnds (s : State) : State :=
  let n := min (s.sli.rxErrors + 1) 65535
  let t := s.frameEnds
  let t := t.setSli { t.sli with rxErrors := n }
  (if s.sli.rxErrors = 19 then t.putStatus .linkNoisy true else t).settle

/-- The end of a good frame: CLASH latched where its source address is the node's own (R142, R146). -/
def State.goodFrameEnds (s : State) (src : Address) : State :=
  let t := s.frameEnds
  if src = s.ownAddress then t.putStatus .clash true else t

/-! ### DEMAND (R38 to R44) -/

/-- The demand record stored, the demand timer from 0, DEMAND_LOST clear (R40). -/
def State.storeDemand (s : State) (words : List Word) : State :=
  (s.setPtb { s.ptb with demand := demandOfPayload words, demandTimer := Timer.started }).putStatus .demandLost false

/-- The node's own member of the axle live set (R6). -/
def State.ownMember (s : State) : Member :=
  ⟨s.ownAddress, s.blu.own.pd, s.blu.own.pr, s.blu.own.fb, s.blu.own.q⟩

/-- SHORT_BRAKE reported from its two conditions (R22). -/
def State.reportShortBrake (s : State) : State := s.putStatus .shortBrake (s.she.shortBrake || s.blu.clampBinds)

/-- The share record computed, in the AXLE role (R1, R4). -/
def State.computeShares (s : State) : State :=
  if s.role = some .axle then
    let r := computeShare s.ownMember s.ptb.entries s.given.d s.given.v s.given.aux (vLo s.mpt.copy) (vHi s.mpt.copy)
    (s.setShe r).reportShortBrake
  else s

/-- The drive ramp at a DEMAND arrival, in the AXLE role (R66). -/
def State.rampArrives (s : State) : State :=
  if s.role = some .axle then s.setBlu s.blu.demandArrives else s

/-- The shutdown hold cancelled: its timer stops and it is no longer met (R180). -/
def State.cancelHold (s : State) : State := s.setNsq { s.nsq with hold := Timer.stopped, holdMet := false }

/-- The shutdown hold at a DEMAND arrival (R180). -/
def State.watchShutdown (s : State) : State :=
  if s.given.shutdown && s.given.parked then
    if s.nsq.hold.running || s.nsq.holdMet then s else s.setNsq { s.nsq with hold := Timer.started }
  else s.cancelHold

/-- SYNC left at a DEMAND arrival after the SYNC timer's expiry (R178). -/
def State.demandEndsSync (s : State) : State :=
  if s.nsq.op = .sync ∧ s.nsq.sync = .expired then s.leaveSync else s

/-- A stored DEMAND arrival: the record first, then its readers (R40, R43). -/
def State.takeDemand (s : State) (words : List Word) : State :=
  ((s.storeDemand words).computeShares.rampArrives.watchShutdown).demandEndsSync

/-- Whether a DEMAND frame meets R39. -/
def demandCounts (src : Address) (words : List Word) : Bool := src == 0 && words.length == 4

/-- DEMAND_ARRIVAL (R39 to R44, R145, R146): stored in SYNC, ACTIVE and WITHDRAWN; in STANDBY the WAKE reset where
SHUTDOWN is clear. -/
def execDemandArrival (src : Address) (words : List Word) (s : State) : Outcome :=
  .next
    (if s.receives then
      if payloadCarried words then
        let t := s.goodFrameEnds src
        if demandCounts src words then
          if t.serves then (t.takeDemand words).settle
          else if t.nsq.op = .standby ∧ (demandOfPayload words).shutdown = false then t.wakeReset
          else t.settle
        else t.settle
      else s.badFrameEnds
    else s)

/-! ### STATE (R25 to R32) -/

/-- The greatest number of entries (R31). -/
def tableCapacity : Nat := 12

/-- Whether a table has an entry for an address. -/
def hasEntry (es : List PeerEntry) (a : Address) : Bool := es.any fun e => e.address == a

/-- The list with the entry of its address updated or replaced in its place (R29, R30). -/
def putEntry (es : List PeerEntry) (x : PeerEntry) : List PeerEntry :=
  es.map fun e => if e.address = x.address then x else e

/-- A STATE frame taken for an address: its entry updated, replaced or created, or the frame dropped with TABLE_FULL
(R29 to R32). -/
def State.takeState (s : State) (src : Address) (words : List Word) : State :=
  let x := entryOfPayload src words
  if hasEntry s.ptb.entries src then s.setPtb { s.ptb with entries := putEntry s.ptb.entries x }
  else if s.ptb.entries.length < tableCapacity then
    (s.setPtb { s.ptb with entries := s.ptb.entries ++ [x] }).putStatus .tableFull false
  else s.putStatus .tableFull true

/-- Whether a STATE frame's source keeps an entry at this node (R27). -/
def State.isPeer (s : State) (src : Address) : Bool := src != 0 && src != 15 && src != s.ownAddress

/-- STATE_ARRIVAL (R26 to R32, R145, R146). -/
def execStateArrival (src : Address) (words : List Word) (s : State) : Outcome :=
  .next
    (if s.receives then
      if stateFits words then
        let t := s.goodFrameEnds src
        (if t.serves && t.isPeer src then t.takeState src words else t).settle
      else s.badFrameEnds
    else s)

/-! ### Other frames and the receiver -/

/-- SVC_REPLY_ARRIVAL (R145, R146): handed to no block, tested for CLASH. -/
def execSvcReplyArrival (src : Address) (words : List Word) (s : State) : Outcome :=
  .next
    (if s.receives then
      if payloadCarried words && !words.isEmpty then (s.goodFrameEnds src).settle else s.badFrameEnds
    else s)

/-- BAD_FRAME (R144, R147). -/
def execBadFrame (s : State) : Outcome := .next (if s.receives then s.badFrameEnds else s)

/-- WINDOW_TIMER_EXPIRY (R147): the receive error count is set to 0. -/
def execWindowTimerExpiry (s : State) : Outcome :=
  .next
    (if s.sli.window.due 1000 then s.setSli { s.sli with rxErrors := 0, window := Timer.started } else s)

/-- RECEIVER_IDLE (R142): the eighth recessive bit time in WAIT_IDLE. -/
def execReceiverIdle (s : State) : Outcome :=
  .next
    (match s.sli.line with
    | .waitIdle _ => s.setSli { s.sli with line := .idle }
    | .stopped | .idle | .receive => s)

end Sys2Proof.Machine
end

