-- ==== Sys2Proof/Machine/StageCommands.lean ====
section
/-! DEFINITION. The Stage Port's exchanges, the checks on what they bring (chapter 9), and what each role block does at an
exchange completion (chapters 3 to 5). -/

namespace Sys2Proof.Machine

/-! ### Exchange start (R157, R158, R163) -/

/-- Whether an exchange may begin at the exchange timer's expiry (R157, R165). -/
def State.mayExchange (s : State) : Bool :=
  s.stp.exchange.due 1 && s.serves && !s.pins.partnerReset && s.stp.inFlight.isNone

/-- The partner served after one. -/
def Partner.other : Partner → Partner
  | .p0 => .p1
  | .p1 => .p0

/-- EXCHANGE_START (R157, R158): partner 0 and partner 1 in turn. -/
def execExchangeStart (sense : Sense) (s : State) : Outcome :=
  .next
    (if s.mayExchange then
      (s.setStp { s.stp with exchange := Timer.started, turn := s.stp.turn.other }).beginExchange s.stp.turn
        (readingOfSense sense)
    else s)

/-! ### Judging a record (R159 to R164) -/

/-- A failure count after a failed record (R161). -/
def countFailed (settling : Bool) (n : Nat) : Nat := if settling then n else min (n + 1) 255

/-- Whether the settle timer runs. -/
def OneShot.isRunning : OneShot → Bool
  | .running _ => true
  | .stopped | .expired => false

/-- A failed record of a partner: it counts but while the settle timer runs, and the fifth latches STAGE_LOST (R161). -/
def State.recordFailed (s : State) (p : Partner) : State :=
  let settling := s.stp.settle.isRunning
  match p with
  | .p0 =>
    let n := countFailed settling s.stp.fail0
    let t := s.setStp { s.stp with fail0 := n }
    if s.stp.fail0 = 4 ∧ n = 5 then t.putStatus .stageLost true else t
  | .p1 =>
    let n := countFailed settling s.stp.fail1
    let t := s.setStp { s.stp with fail1 := n }
    if s.stp.fail1 = 4 ∧ n = 5 then t.putStatus .stageLost true else t

/-- The outcome of the speed test: the speed held, the rejection count after it, and whether PLAUS_SPEED is captured and
SPEED_FAULT latched. -/
structure SpeedTest where
  n : Int
  rejections : Nat
  plausSpeed : Bool
  speedFault : Bool
  deriving DecidableEq, Repr

/-- The speed test (R164). -/
def speedTest (held : Option Int) (rejections : Nat) (n : Int) : SpeedTest :=
  match held with
  | none => ⟨n, 0, false, false⟩
  | some h =>
    if (n - h).natAbs ≤ 150 then ⟨n, 0, false, false⟩
    else if rejections < 4 then ⟨h, rejections + 1, true, false⟩
    else ⟨n, 0, true, true⟩

/-- A good partner 0 record with the speed that the test of its role lets through (R160, R164). The test is made of the
speed already brought into range (log entry 48). -/
def State.holdPartner0 (s : State) (role : Role) (r : Partner0) : State :=
  match role with
  | .pack => s.setStp { s.stp with held0 := some r, fail0 := 0 }
  | .axle | .genset =>
    let t := speedTest s.stp.heldSpeed s.stp.rejections r.n
    let u := s.setStp { s.stp with
      held0 := some { r with n := t.n }, fail0 := 0, heldSpeed := some t.n, rejections := t.rejections }
    let u := if t.plausSpeed then u.putStatus .plausSpeed true else u
    if t.speedFault then u.putStatus .speedFault true else u

/-- Whether the own reading and a good record's U_link differ by more than 25 V (R163). -/
def plausUFails (own : OwnReading) (uLink : Nat) : Bool :=
  match own with
  | .volts u => decide (25 < max u uLink - min u uLink)
  | .none | .outOfRange => false

/-- A partner 0 record judged, and the held record, the counts, the own reading and the statuses updated (R159 to R164).
PLAUS_U compares the own reading with the record's U_link as brought into range (log entry 47). -/
def State.judge0 (s : State) (role : Role) (sample : OwnReading) (record : List Byte) : State :=
  let s := s.setStp { s.stp with own := sample }
  let s :=
    if recordFails (s.stp.held0.map Partner0.nibble) record then s.recordFailed .p0
    else
      let r := partner0OfRecord record
      let t := s.holdPartner0 role r
      if plausUFails sample r.uLink then t.putStatus .plausU true else t
  s.putStatus .partnerFault (partnerFaultHolds s.role s.stp.held0 s.stp.held1)

/-- A partner 1 record judged, and the held record, the counts and the statuses updated (R159 to R162). -/
def State.judge1 (s : State) (role : Role) (record : List Byte) : State :=
  let s :=
    if recordFails (s.stp.held1.map Partner1.nibble) record then s.recordFailed .p1
    else s.setStp { s.stp with held1 := some (partner1OfRecord role record), fail1 := 0 }
  s.putStatus .partnerFault (partnerFaultHolds s.role s.stp.held0 s.stp.held1)

/-! ### The AXLE role's completions (chapter 3) -/

/-- The effective shares formed, and SHORT_BRAKE followed (R51 to R54, R22). -/
def State.formShares (s : State) : State :=
  (s.setBlu (s.blu.form s.she (pLim s.mpt.copy s.stp.held0) s.demandLost)).reportShortBrake

/-- The torque setpoint formed and written (R56). -/
def State.formTorque (s : State) : State :=
  let t := torqueSetpoint s.blu.dE s.blu.rE (nEff s.stp.held0) (tMax s.mpt.copy)
  (s.setBlu { s.blu with torque := t }).writeSlot0 (.torque t)

/-- The droop factors formed from the own reading or the held record, with DERATE (R49, R50). -/
def State.formDroop (s : State) : State :=
  let u := linkVoltage s.stp.own s.stp.held0
  let gd := driveDroop s.mpt.copy u
  let gr := regenDroop s.mpt.copy u
  (s.setBlu { s.blu with gd := gd, gr := gr }).putStatus .derate (decide (gd < 100) || decide (gr < 100))

/-- A2's increment at a partner 0 completion, where a record is held (R59, R113). -/
def State.gatherRegen (s : State) : State :=
  match s.stp.held0 with
  | some h => s.gather 2 1800000 (regenIncrement h.pAct)
  | none => s

/-- The Blend Unit at a partner 0 completion (R46, R49 to R56, R59). -/
def State.axleCompletes0 (s : State) : State :=
  (((s.formDroop.reformOwn).putStatus .stageHot (stageHotHolds s.stp.held0)).formShares.formTorque).gatherRegen

/-- The slip machine evaluated on the held wheel speeds; an entry hands an episode to A3 and requests a prompt STATE
(R60 to R62). -/
def State.evaluateSlip (s : State) : State :=
  match s.stp.held1 with
  | some ⟨_, .modulator _ left right _⟩ =>
    let w := wheelSpeed left right
    let t := s.setBlu (s.blu.evaluateSlip s.given.d s.given.v w)
    if (slipEntry s.blu.slip s.given.d s.given.v w).isSome then (t.addUnits 3 1).requestPrompt else t
  | _ => s

/-- The pressure setpoint formed and written (R57, R58). -/
def State.formPressure (s : State) : State :=
  let p := pressureSetpoint s.mpt.copy s.blu.fE s.given.v s.given.hold s.demandLost
  (s.setBlu { s.blu with pressure := p }).writeSlot1 (.pressure p)

/-- A1's and A4's increments at a partner 1 completion, where a record is held (R59, R112, R115). -/
def State.gatherPads (s : State) : State :=
  match s.stp.held1 with
  | some ⟨_, .modulator pFb _ _ _⟩ =>
    let t := s.gather 1 1000000 (padIncrement pFb (brakeGain s.mpt.copy) s.given.v)
    let h := hardApplication t.wau.armA4 pFb
    let t := t.setWau { t.wau with armA4 := h.2 }
    if h.1 then t.addUnits 4 1 else t
  | _ => s

/-- The Blend Unit at a partner 1 completion (R46, R51 to R54, R57 to R62). -/
def State.axleCompletes1 (s : State) : State := (s.evaluateSlip.reformOwn).formShares.formPressure.gatherPads

/-! ### The PACK role's completions (chapter 4) -/

/-- The Pack Limits Unit at a partner 0 completion (R77, R78, R80, R81). -/
def State.packCompletes0 (s : State) : State :=
  let s := (s.reformOwn).putStatus .stageHot (stageHotHolds s.stp.held0)
  let p := s.plu.formCurrents (packReading s.stp.held1).uPack
  (s.setPlu p).writeSlot0 (.converter (uRef s.mpt.copy) p.iDis p.iChg)

/-- S1's, S3's and S2's parts of a partner 1 completion, where a record is held (R79, R114, R116, R117). -/
def State.gatherPack (s : State) : State :=
  match s.stp.held1 with
  | some ⟨_, .monitor _ soc tPack _ _ iPack _⟩ =>
    let t := s.gather 1 36000000 (chargeIncrement iPack tPack)
    let f := fullCharge t.mpt.copy t.wau.armS3 soc
    let t := t.setWau { t.wau with armS3 := f.2, hot := t.wau.hot || decide (45 < tPack) }
    if f.1 then t.addUnits 3 1 else t
  | _ => s

/-- The Pack Limits Unit at a partner 1 completion: wear first, then the limits (R71 to R79). -/
def State.packCompletes1 (s : State) : State := s.gatherPack.formPackLimits

/-! ### The GENSET role's completions (chapter 5) -/

/-- The Genset Scheduler at a partner 0 completion (R99, R107). -/
def State.gensetCompletes0 (s : State) : State :=
  let s := (s.reformOwn).putStatus .stageHot (stageHotHolds s.stp.held0)
  s.writeSlot0 (.generator (generatorSetpoint s.mpt.copy s.gsc s.nsq.op (heldThermal s.stp.held0)))

/-- An engine reported running taken as the node's own, without a start attempt; in WITHDRAWN it goes on to COOLDOWN
(R108). -/
def State.adopt (s : State) (coolant : Int) : State :=
  let s := s.setGsc { s.gsc with off := s.gsc.off.halt, runMet := true }
  let s :=
    if coolant < 50 then (s.setGsc { s.gsc with warm := Timer.started }).enterEngine .warming
    else s.enterEngine .running
  if s.nsq.op = .withdrawn then s.engineCooldown else s

/-- Adoption at the first good engine controller record after a reset (R108). -/
def State.testAdoption (s : State) (report : EngineReport) (coolant : Int) : State :=
  let t := s.setGsc { s.gsc with adoption := false }
  if report = .running then t.adopt coolant else t

/-- An unexpected stop: OFF with STALL latched, the run timer stopped and its outcome not met (R102). -/
def State.engineStalls (s : State) : State :=
  ((s.setGsc { s.gsc with run := Timer.stopped, runMet := false }).putStatus .stall true).engineOff 20

/-- The test of the engine state on a report (R96, R97, R101, R102). -/
def State.testEngine (s : State) (report : EngineReport) (coolant : Int) : State :=
  match s.gsc.engine with
  | .cranking => if report = .running then s.engineWarming else s
  | .warming => if report = .running then (if 50 ≤ coolant then s.engineRunning else s) else s.engineStalls
  | .running => if report = .running then s else s.engineStalls
  | .cooldown => if report = .running then s else s.engineOff 20
  | .off | .faulted => s

/-- The Genset Scheduler at a partner 1 completion: SHUTDOWN, then adoption or the engine's test, then the command
written again (R91, R96, R97, R101 to R103, R108, log entry 16). While no controller record is held the slot is left as it
is: R91 writes at each completion, R158 lets the controller receive no command before its first report (log entry 41). -/
def State.gensetCompletes1 (s : State) (good : Bool) : State :=
  let s := if s.given.shutdown then s.engineWithdrawn else s
  match engineRecord s.stp.held1 with
  | some (report, coolant) =>
    let t := if s.gsc.adoption && good then s.testAdoption report coolant else s.testEngine report coolant
    t.writeSlot1 (.engine t.gsc.command)
  | none => s

/-! ### Exchange completion -/

/-- What a role block does at a completion with partner 0. -/
def State.roleCompletes0 (s : State) (role : Role) : State :=
  match role with
  | .axle => s.axleCompletes0
  | .pack => s.packCompletes0
  | .genset => s.gensetCompletes0

/-- What a role block does at a completion with partner 1. -/
def State.roleCompletes1 (s : State) (role : Role) (good : Bool) : State :=
  match role with
  | .axle => s.axleCompletes1
  | .pack => s.packCompletes1
  | .genset => s.gensetCompletes1 good

/-- An exchange completed in SYNC, ACTIVE or WITHDRAWN (R157). -/
def State.completeExchange (s : State) (role : Role) (x : Exchange) (record : List Byte) : State :=
  let t := s.setStp { s.stp with inFlight := none }
  match x.partner with
  | .p0 => (t.judge0 role x.sample record).roleCompletes0 role
  | .p1 => (t.judge1 role record).roleCompletes1 role (!recordFails (s.stp.held1.map Partner1.nibble) record)

/-- EXCHANGE_COMPLETION (R157 to R164); in STANDBY the completion of an exchange in flight at entry is discarded and the
final exchanges begin (R165). -/
def execExchangeCompletion (record : List Byte) (s : State) : Outcome :=
  .next
    (match s.stp.inFlight, s.role with
    | some x, some role =>
      if s.serves then (s.completeExchange role x record).settle
      else if s.nsq.op = .standby ∧ s.stp.final = .awaiting then s.beginFinal
      else s
    | _, _ => s)

/-! ### The Stage Port's timers and the final exchanges -/

/-- SETTLE_TIMER_EXPIRY (R161). -/
def execSettleTimerExpiry (s : State) : Outcome :=
  .next (if s.stp.settle.due 100 then s.setStp { s.stp with settle := .expired } else s)

/-- PARTNER_RESET_RELEASE (R165): 10 ms after a RESTART. -/
def execPartnerResetRelease (s : State) : Outcome :=
  .next
    (if s.stp.release.due 10 && s.serves then
      (s.setPins { s.pins with partnerReset := false }).setStp
        { s.stp with release := Timer.stopped, exchange := Timer.started, settle := .running 0 }
    else s)

/-- FINAL_EXCHANGE_END (R165): partner 0's, then partner 1's, at whose end PARTNER_RESET is asserted. -/
def execFinalExchangeEnd (s : State) : Outcome :=
  .next
    (match s.stp.final with
    | .partner0 => (s.setStp { s.stp with final := .partner1 }).beginExchange .p1 .none
    | .partner1 =>
      (s.setPins { s.pins with partnerReset := true }).setStp { s.stp with final := .ended, inFlight := none }
    | .none | .awaiting | .ended => s)

end Sys2Proof.Machine
end

