-- ==== Sys2Proof/Machine/AxleCommands.lean ====
section
/-! DEFINITION. The Blend Unit's timers (chapter 3) and the minute timer of the wear accounts (chapter 6). -/

namespace Sys2Proof.Machine

/-- Whether the Blend Unit acts (R45). -/
def State.blends (s : State) : Bool := s.serves && s.role == some .axle

/-- A ramp expiry's two effects: on the drive ramp, and in RECOVER on L, with the own capability record re-formed (R63,
R65 to R67). -/
def State.takeRamp (s : State) : State :=
  let c := s.mpt.copy
  let t := s.setBlu { (s.blu.moveM.raiseL (pdU c s.stp.held0) (prU c s.stp.held0)) with rampTimer := Timer.started }
  match s.blu.slip with
  | .recover _ => t.reformOwn
  | .grip | .slip _ => t

/-- RAMP_TIMER_EXPIRY (R67). -/
def execRampTimerExpiry (s : State) : Outcome :=
  .next (if s.blends && s.blu.rampTimer.due 10 then s.takeRamp else s)

/-- SLIP_HOLD_TIMER_EXPIRY (R62): entry to RECOVER. -/
def execSlipHoldTimerExpiry (s : State) : Outcome :=
  .next
    (if s.blends && s.blu.slip.slipping && s.blu.slipHold.due 300 then (s.setBlu s.blu.enterRecover).reformOwn else s)

/-- A minute's end: S2 rises by 1 where the hot flag is set, and the flag is cleared (R116). -/
def State.takeMinute (s : State) : State :=
  let t := s.setWau { s.wau with minute := Timer.started, hot := false }
  if s.wau.hot then t.addUnits 2 1 else t

/-- MINUTE_TIMER_EXPIRY (R116). -/
def execMinuteTimerExpiry (s : State) : Outcome :=
  .next
    (if s.serves && s.role == some .pack && s.wau.minute.due 60000 then s.takeMinute.settle else s)

end Sys2Proof.Machine
end

