-- ==== Sys2Proof/Machine/EngineCommands.lean ====
section
/-! DEFINITION. The Genset Scheduler's tick and timers (chapter 5). -/

namespace Sys2Proof.Machine

/-! ### The tick (R87) -/

/-- Steps 1 and 2 of the tick: the clock, which is free past the end of its range (log entry 23), and the start ring. -/
def State.tickClock (s : State) : State :=
  if clockMax ≤ s.gsc.clock then
    let clock := (Config.clockPastEnd s.free).toNat
    (s.setGsc { s.gsc with clock := clock, starts := pruneStarts clock s.gsc.starts }).setFree (s.free + 1)
  else
    s.setGsc { s.gsc with clock := s.gsc.clock + 1, starts := pruneStarts (s.gsc.clock + 1) s.gsc.starts }

/-- Steps 3 and 4 of the tick: the net-load sample and its average, SOCmin and primary (R88 to R90). -/
def State.tickSamples (s : State) : State :=
  let ring := pushSample s.gsc.netLoad (netLoadSample s.ptb.entries s.given.aux)
  s.setGsc { s.gsc with
    netLoad := ring
    nBar := ringAverage ring
    socMin := leastSoc (liveSocs s.ptb.entries)
    primary := isPrimary s.ownAddress (liveGensets s.ptb.entries) }

/-- Step 5 of the tick, after SHUTDOWN: the test of the engine state (R92, R93, R100, R101). -/
def State.tickTest (s : State) : State :=
  let gs := liveGensets s.ptb.entries
  match s.gsc.engine with
  | .off => if startTest s.mpt.copy s.gsc gs s.given s.nsq.op s.stp.held1 then s.engineAttempt else s
  | .running => if stopCondition s.mpt.copy s.gsc s.given.quiet && s.gsc.runMet then s.engineCooldown else s
  | .cooldown => if returnTest s.mpt.copy s.gsc gs s.given s.nsq.op then s.engineRunning else s
  | .cranking | .warming | .faulted => s

/-- Step 5 of the tick: SHUTDOWN given set, then the test (R103). -/
def State.tickEngine (s : State) : State := (if s.given.shutdown then s.engineWithdrawn else s).tickTest

/-- Step 6 of the tick: P_set, in WARMING and RUNNING; not at the tick of a return from COOLDOWN (R98, R101, log
entry 17). -/
def State.tickPower (s : State) (before : EngineState) : State :=
  if before.delivers && s.gsc.engine.delivers then
    s.setGsc { s.gsc with
      pSet := formPSet s.mpt.copy s.gsc (liveGensets s.ptb.entries) (heldThermal s.stp.held0) }
  else s

/-- Step 7 of the tick: the run report, the run-second count and G2 (R118). -/
def State.tickReport (s : State) : State :=
  if s.gsc.engine = .off ∨ s.gsc.engine = .faulted then s
  else if 60 ≤ s.wau.runSeconds + 1 then (s.setWau { s.wau with runSeconds := 0 }).addUnits 2 1
  else s.setWau { s.wau with runSeconds := s.wau.runSeconds + 1 }

/-- The tick (R87). -/
def State.takeTick (s : State) : State :=
  let s := (s.setGsc { s.gsc with tick := Timer.started }).tickClock.tickSamples
  (s.tickEngine.tickPower s.gsc.engine).tickReport

/-- Whether the Genset Scheduler acts (R86). -/
def State.schedules (s : State) : Bool := s.serves && s.role == some .genset

/-- TICK (R87). -/
def execTick (s : State) : Outcome :=
  .next (if s.schedules && s.gsc.tick.due 1000 then s.takeTick.settle else s)

/-! ### The engine's timers -/

/-- A failed attempt: OFF with a dwell of 10 s, or FAULTED with START_FAIL at the third (R96, R105). -/
def State.failAttempt (s : State) : State :=
  let n := s.gsc.failures + 1
  if 3 ≤ n then
    ((s.setGsc { s.gsc with failures := 3, crank := Timer.stopped }).enterEngine .faulted).putStatus .startFail true
  else (s.setGsc { s.gsc with failures := n }).engineOff 10

/-- CRANK_TIMER_EXPIRY (R96). -/
def execCrankTimerExpiry (s : State) : Outcome :=
  .next
    (if s.schedules && s.gsc.engine == .cranking && s.gsc.crank.due 3000 then s.failAttempt.settle else s)

/-- WARM_TIMER_EXPIRY (R97). -/
def execWarmTimerExpiry (s : State) : Outcome :=
  .next
    (if s.schedules && s.gsc.engine == .warming && s.gsc.warm.due 120000 then s.engineRunning else s)

/-- RUN_TIMER_EXPIRY (R97): the outcome becomes met. -/
def execRunTimerExpiry (s : State) : Outcome :=
  .next
    (if s.schedules && s.gsc.run.due 60000 then s.setGsc { s.gsc with run := s.gsc.run.halt, runMet := true } else s)

/-- COOLDOWN_TIMER_EXPIRY (R101). -/
def execCooldownTimerExpiry (s : State) : Outcome :=
  .next
    (if s.schedules && s.gsc.engine == .cooldown && s.gsc.cooldown.due 30000 then (s.engineOff 20).settle else s)

end Sys2Proof.Machine
end

