-- ==== Sys2Proof/Machine/ServiceCommands.lean ====
section
/-! DEFINITION. The service requests: how each is judged, carried out and answered (section 11.5, Tables 8.8-4 and
8.8-5). -/

namespace Sys2Proof.Machine

/-! ### Judging a request (R182) -/

/-- The reply place a request takes: none where it is not handed to the Node Sequencer, is a broadcast that is
disregarded, or finds no place free (R145, R182 steps 1 and 2). -/
def State.requestPlace (s : State) (src target : Address) (code : Nat) : Option Nat :=
  if s.serves && src == 15 && (target == s.ownAddress || target == 0)
      && (target != 0 || code == 1 || code == 3) then freePlace s.sli.replies
  else none

/-- The item number of READ_WEAR and WEAR_RESET: bits 3 to 0 of argument word 1. -/
def argItem (args : List Word) : Nat := ((wordAt args 0).extractLsb' 0 4).toNat

/-- The part of READ_WEAR: argument word 1 from bit 8 up (log entry 13). -/
def argPart (args : List Word) : Nat := ((wordAt args 0).extractLsb' 8 8).toNat

/-- A word number of CONFIG_READ and CONFIG_WRITE: argument word 1. -/
def argWord (args : List Word) : Nat := (wordAt args 0).toNat

/-- Whether a request's arguments are out of range (R182 step 5, R173). -/
def badArgument (items : List WearItem) (code : Nat) (args : List Word) : Bool :=
  let noItem := argItem args == 0 || decide (items.length < argItem args)
  match code with
  | 8 => noItem || decide (1 < argPart args)
  | 9 => noItem
  | 10 => decide (63 < argWord args)
  | 11 => decide (62 < argWord args)
  | _ => false

/-- Whether a request needs PARKED (R182 step 4). -/
def needsParked (code : Nat) : Bool := code == 9 || code == 11 || code == 12 || code == 13

/-- Whether a request finds the node busy (R182 step 6). -/
def State.findsBusy (s : State) (code : Nat) : Bool :=
  ((code == 10 || code == 11) && s.mpt.op != .none)
    || (code != 1 && code != 2 && s.nsq.pendingReset != .none)
    || ((code == 12 || code == 13) && s.waitsStandby)

/-- The result with which a request that has a place is refused, none where it passes (R182 steps 3 to 6). -/
def State.refusal (s : State) (code : Nat) (args : List Word) : Option ReplyResult :=
  if code = 0 ∨ 13 < code then some .unsupported
  else if needsParked code && !s.given.parked then some .refusedMoving
  else if badArgument s.wau.items code args then some .badItem
  else if s.findsBusy code then some .busy
  else none

/-- A request with a reply place: refused with its place alone changed, or carried out (R182). -/
def State.answerRequest (s : State) (place code : Nat) (args : List Word) (carry : State → Nat → State) : State :=
  let s := s.setSli { s.sli with replies := reservePlace s.sli.replies place (BitVec.ofNat 8 code) }
  match s.refusal code args with
  | some r => s.reply place r []
  | none => carry s place

/-- The arrival of a service request (R144 to R146, R182). -/
def State.serviceRequest (s : State) (src target : Address) (code : Nat) (args : List Word)
    (carry : State → Nat → State) : State :=
  if s.receives then
    if argumentsCarried args then
      let t := s.goodFrameEnds src
      match t.requestPlace src target code with
      | some n => (t.answerRequest n code args carry).settle
      | none => t.settle
    else s.badFrameEnds
  else s

/-! ### IDENTIFY and READ_STATUS -/

/-- The role code of the node, 0 where it has none. -/
def State.roleCode (s : State) : Nat := (s.role.map Role.code).getD 0

/-- The reply data of IDENTIFY (R183, Table 8.8-5). Bits 6 to 0 of word 3, to which the table gives no field, are 0 (DESIGN
CHOICE, log entry 50). -/
def State.identity (s : State) : List Word :=
  [0x0440#16, 0x0100#16,
   BitVec.ofNat 16 (s.roleCode * 16384 + s.ownAddress.toNat * 1024 + s.nsq.cause.code * 128)]

/-- The slip kind bit: BRAKING 0, TRACTION 1, and free in GRIP, which has no kind (log entry 12). -/
def State.slipKindBit (s : State) : Bool :=
  match s.blu.slip.kind with
  | some .braking => false
  | some .traction => true
  | none => Config.gripKindBit s.free

/-- Word 3 of the reply to READ_STATUS; fields of another role are 0 (R183). Bits 2 to 0, to which Table 8.8-5 gives no
field, are 0 (DESIGN CHOICE, log entry 50). -/
def State.statusWord3 (s : State) : Word :=
  let roleBits :=
    match s.role with
    | some .axle => s.blu.slip.code * 512 + bitOf s.slipKindBit * 256
    | some .genset => s.gsc.engine.code * 16 + bitOf s.gsc.primary * 8
    | some .pack | none => 0
  BitVec.ofNat 16 (s.roleCode * 16384 + s.nsq.op.code * 2048 + bitOf s.she.clamp * 128 + roleBits)

/-- Words 4 and 5 of the reply to READ_STATUS: the role's word and the own P_act. -/
def State.statusWords45 (s : State) : List Word :=
  match s.role with
  | some .axle => [BitVec.ofNat 16 s.blu.own.q, BitVec.ofInt 16 s.blu.own.pAct]
  | some .pack => [BitVec.ofNat 16 s.plu.own.soc, BitVec.ofInt 16 s.plu.own.pAct]
  | some .genset => [BitVec.ofNat 16 s.gsc.socMin, BitVec.ofInt 16 s.gsc.ownPAct]
  | none => [0, 0]

/-- The reply data of READ_STATUS (R140, R183, Table 8.8-5). Bits 15 to 8 of word 2, to which the table gives no field, are 0
(DESIGN CHOICE, log entry 50). -/
def State.statusData (s : State) : List Word :=
  [s.counted.extractLsb' 0 16, (s.counted.extractLsb' 16 8).setWidth 16, s.statusWord3] ++ s.statusWords45

/-- READ_STATUS answered; a free kind bit is used up where the slip machine has no kind. -/
def State.readStatus (s : State) (place : Nat) : State :=
  let t := s.reply place .done s.statusData
  if s.role = some .axle ∧ s.blu.slip.kind = none then t.setFree (s.free + 1) else t

/-! ### CLEAR and the force flags -/

/-- What the Genset Scheduler does at an accepted CLEAR: FAULTED goes to OFF, the failure count to 0 (R106). -/
def State.clearEngine (s : State) : State :=
  if s.role = some .genset ∧ s.gsc.engine = .faulted then
    (s.setGsc { s.gsc with failures := 0 }).engineOff 20
  else s

/-- CLEAR carried out (R106, R132). -/
def State.carryClear (s : State) (place : Nat) : State :=
  ((s.setStu { s.stu with set := s.clearedSet }).clearEngine).reply place .done []

/-- A force fault flag put, with FORCED_FAULT following it (R133). -/
def State.putForceFault (s : State) (b : Bool) (place : Nat) : State :=
  ((s.setStu { s.stu with forceFault := b }).putStatus .forcedFault b).reply place .done []

/-- A force warn flag put, with FORCED_WARN following it (R133). -/
def State.putForceWarn (s : State) (b : Bool) (place : Nat) : State :=
  ((s.setStu { s.stu with forceWarn := b }).putStatus .forcedWarn b).reply place .done []

/-! ### Wear -/

/-- A 32-bit value in two words, the more significant first (Table 8.8-5). -/
def words32 (n : Nat) : List Word := [BitVec.ofNat 16 (n / 65536), BitVec.ofNat 16 n]

/-- The reply data of READ_WEAR (R127, Table 8.8-5). Item and part stand in word 1 where the argument word has them (DEDUCED),
and its bits 15, 14, 11 to 9 and 7 to 4, to which the table gives no field, are 0 (DESIGN CHOICE; both log entry 50). -/
def State.wearData (s : State) (item part : Nat) : List Word :=
  let x := itemAt s.wau.items item
  BitVec.ofNat 16 (item + part * 256 + x.state.code * 4096) ::
    (if part = 0 then words32 x.acc
     else words32 (nearOf s.mpt.copy item) ++ words32 (dueOf s.mpt.copy item))

/-- WEAR_RESET carried out: the item emptied, what follows from it re-formed, and a flush requested that the reply waits
for (R125). -/
def State.carryWearReset (s : State) (item place : Nat) : State :=
  let w := s.wau.resetItem s.role item
  let s := (s.setWau w).putStatus .wearNear (anyNear w.items)
  let s :=
    match s.role with
    | some .axle => if item = 1 then s.reformOwn else s
    | some .pack => if item = 1 then s.formPackLimits else s
    | some .genset | none => s
  s.requestFlush [.wearReset place item]

/-! ### The image in the EEPROM (R173) -/

/-- CONFIG_READ started. -/
def State.startConfigRead (s : State) (word place : Nat) : State :=
  s.setMpt { s.mpt with op := .configRead (some place) word }

/-- CONFIG_WRITE started, and the polling of its writes with it (R173, log entry 49). -/
def State.startConfigWrite (s : State) (word : Nat) (mask value : Word) (place : Nat) : State :=
  s.setMpt { s.mpt with op := .configWrite (some place) word mask value, poll := Timer.started }

/-! ### RESTART and REBOOT (R184) -/

/-- A reset made pending, its DONE reply queued and the reply limit started. -/
def State.pendReset (s : State) (r : PendingReset) (place : Nat) : State :=
  (s.setNsq { s.nsq with pendingReset := r, limit := Timer.started }).reply place .done []

/-! ### The commands -/

/-- IDENTIFY (R183). -/
def execIdentify (src target : Address) (args : List Word) (s : State) : Outcome :=
  .next (s.serviceRequest src target 1 args fun t n => t.reply n .done t.identity)

/-- READ_STATUS (R140, R183). -/
def execReadStatus (src target : Address) (args : List Word) (s : State) : Outcome :=
  .next (s.serviceRequest src target 2 args State.readStatus)

/-- CLEAR (R106, R132). -/
def execClear (src target : Address) (args : List Word) (s : State) : Outcome :=
  .next (s.serviceRequest src target 3 args State.carryClear)

/-- FORCE_FAULT (R133). -/
def execForceFault (src target : Address) (args : List Word) (s : State) : Outcome :=
  .next (s.serviceRequest src target 4 args fun t n => t.putForceFault true n)

/-- RELEASE_FAULT (R133). -/
def execReleaseFault (src target : Address) (args : List Word) (s : State) : Outcome :=
  .next (s.serviceRequest src target 5 args fun t n => t.putForceFault false n)

/-- FORCE_WARN (R133). -/
def execForceWarn (src target : Address) (args : List Word) (s : State) : Outcome :=
  .next (s.serviceRequest src target 6 args fun t n => t.putForceWarn true n)

/-- RELEASE_WARN (R133). -/
def execReleaseWarn (src target : Address) (args : List Word) (s : State) : Outcome :=
  .next (s.serviceRequest src target 7 args fun t n => t.putForceWarn false n)

/-- READ_WEAR (R127, R183). -/
def execReadWear (src target : Address) (args : List Word) (s : State) : Outcome :=
  .next (s.serviceRequest src target 8 args fun t n => t.reply n .done (t.wearData (argItem args) (argPart args)))

/-- WEAR_RESET (R125). -/
def execWearReset (src target : Address) (args : List Word) (s : State) : Outcome :=
  .next (s.serviceRequest src target 9 args fun t n => t.carryWearReset (argItem args) n)

/-- CONFIG_READ (R173). -/
def execConfigRead (src target : Address) (args : List Word) (s : State) : Outcome :=
  .next (s.serviceRequest src target 10 args fun t n => t.startConfigRead (argWord args) n)

/-- CONFIG_WRITE (R173). -/
def execConfigWrite (src target : Address) (args : List Word) (s : State) : Outcome :=
  .next
    (s.serviceRequest src target 11 args fun t n =>
      t.startConfigWrite (argWord args) (wordAt args 1) (wordAt args 2) n)

/-- RESTART (R184). -/
def execRestart (src target : Address) (args : List Word) (s : State) : Outcome :=
  .next (s.serviceRequest src target 12 args fun t n => t.pendReset .restart n)

/-- REBOOT (R184). -/
def execReboot (src target : Address) (args : List Word) (s : State) : Outcome :=
  .next (s.serviceRequest src target 13 args fun t n => t.pendReset .reboot n)

/-- UNSUPPORTED_REQUEST (R182 step 3), with a code that names no request (log entry 27). -/
def execUnsupportedRequest (src target : Address) (code : BitVec 8) (args : List Word) (s : State) : Outcome :=
  .next
    (if 1 ≤ code.toNat ∧ code.toNat ≤ 13 then s else s.serviceRequest src target code.toNat args fun t _ => t)

end Sys2Proof.Machine
end

