-- ==== Sys2Proof/Machine/TransmitCommands.lean ====
section
/-! DEFINITION. The node's own attempts on the Share Line, and the timers of the transmit queue (chapter 8). -/

namespace Sys2Proof.Machine

/-- A STATE attempt started: every captured status set joins the carried set, and the frame is filled from the records as
they stand (R131, R135, R151). -/
def State.startState (s : State) (role : Role) : State :=
  let carried := s.sli.state.carried ||| (s.stu.set &&& capturedSet)
  let t := s.setStu { s.stu with set := s.stu.set &&& ~~~capturedSet }
  let t := t.setSli { t.sli with state := { t.sli.state with condition := .inFlight, carried := carried } }
  t.setSli { t.sli with line := .receive, sending := some (t.stateFrame role) }

/-- A reply attempt started (R149). -/
def State.startReplyAttempt (s : State) (r : ReplyPlace) : State :=
  s.setSli { s.sli with
    line := .receive, sending := some (s.replyFrame r), replies := startReply s.sli.replies r.place }

/-- Whether an attempt may begin (R149). -/
def State.mayAttempt (s : State) : Bool :=
  s.sli.line == .idle && s.serves && !s.sli.silent && !s.attempting

/-- ATTEMPT_START (R131, R135, R149, R151): the head is the STATE frame where one is queued, else the reply whose place was
reserved first. -/
def execAttemptStart (s : State) : Outcome :=
  .next
    (if s.mayAttempt then
      match s.sli.state.condition, s.role, headReply s.sli.replies with
      | .queued, some role, _ => (s.startState role).settle
      | _, _, some r => s.startReplyAttempt r
      | _, _, none => s
    else s)

/-- The frame in flight queued again (R150, R152, R153); the receiver follows what stands on the line. -/
def State.requeueAttempt (s : State) : State :=
  s.setSli { s.sli with
    state := if s.sli.state.condition = .inFlight then s.sli.state.requeued else s.sli.state
    replies := requeueReplies s.sli.replies
    sending := none }

/-- ARBITRATION_LOST (R152). -/
def execArbitrationLost (s : State) : Outcome := .next (if s.attempting then s.requeueAttempt else s)

/-- The consecutive transmit failure count raised by 1; at 8 the interface enters SILENT (R153, R154). -/
def State.countFailure (s : State) : State :=
  if 8 ≤ s.sli.failures + 1 then
    (s.setSli { s.sli with failures := 8, silent := true, silence := Timer.started }).putStatus .linkQuiet true
  else s.setSli { s.sli with failures := s.sli.failures + 1 }

/-- ATTEMPT_ABANDONED (R153, R154). -/
def execAttemptAbandoned (s : State) : Outcome :=
  .next (if s.attempting then s.requeueAttempt.countFailure.settle else s)

/-- The frame in flight completed: the failure count 0, the STATE place or the reply place handled (R150, R153). -/
def State.completeAttempt (s : State) : State :=
  s.setSli { s.sli with
    line := .waitIdle 0
    state := if s.sli.state.condition = .inFlight then s.sli.state.completed else s.sli.state
    replies := releaseReplies s.sli.replies
    sending := none
    failures := 0 }

/-- A pending RESTART taken, a pending REBOOT's flush requested and waited on (R184). A REBOOT's DONE reply that is still
held back stays queued while that flush runs, and is lost with the queue at the reset (log entry 43). -/
def State.proceedReset (s : State) : State :=
  match s.nsq.pendingReset with
  | .restart => s.restartReset
  | .reboot => (s.setNsq { s.nsq with pendingReset := .rebootFlush, limit := Timer.stopped }).requestFlush [.reboot]
  | .none | .rebootFlush => s

/-- Whether a reply is the DONE reply of the pending RESTART or REBOOT (R184, log entry 30). -/
def answersReset (p : PendingReset) (r : ReplyPlace) : Bool :=
  r.result == .done && ((p == .restart && r.code == 12) || (p == .reboot && r.code == 13))

/-- ATTEMPT_COMPLETE (R150, R153, R184). -/
def execAttemptComplete (p : Straps) (s : State) : Outcome :=
  .next
    (if s.attempting then
      let t := (s.pinStraps p).completeAttempt
      match replyInFlight s.sli.replies with
      | some r => if answersReset s.nsq.pendingReset r then t.proceedReset.settle else t.settle
      | none => t.settle
    else s)

/-- SILENCE_TIMER_EXPIRY (R154). -/
def execSilenceTimerExpiry (s : State) : Outcome :=
  .next
    (if s.sli.silence.due 200 then
      ((s.setSli { s.sli with silent := false, silence := Timer.stopped, failures := 0 }).putStatus .linkQuiet false).settle
    else s)

/-- STATE_PERIOD_EXPIRY (R150). -/
def execStatePeriodExpiry (s : State) : Outcome :=
  .next
    (if s.sli.period.due 20 then
      s.setSli { s.sli with period := Timer.started, state := s.sli.state.periodExpiry }
    else s)

end Sys2Proof.Machine
end

