-- ==== Sys2Proof/Machine/MemoryCommands.lean ====
section
/-! DEFINITION. The Memory Port's timers and the ends of its operations on the EEPROM (chapter 10). -/

namespace Sys2Proof.Machine

/-! ### The recheck (R169) -/

/-- A list of words with bits of one word flipped. -/
def upsetWord (c : List Word) (n : Nat) (bits : Word) : List Word := c.set n (imageWord c n ^^^ bits)

/-- The running copy with a storage upset (log entry 21). A copy that fails its check already keeps its words, so that a
copy found corrupt is found corrupt at every later recheck (R169). -/
def State.upsetCopy (s : State) (upset : Option (BitVec 6 × Word)) : State :=
  match upset with
  | some (n, bits) =>
    if checkHolds s.mpt.copy then s.setMpt { s.mpt with copy := upsetWord s.mpt.copy n.toNat bits } else s
  | none => s

/-- The recheck: its result recorded, and CFG_CORRUPT latched at a mismatch (R169). -/
def State.recheckCopy (s : State) : State :=
  let bad := !checkHolds s.mpt.copy
  let t := s.setMpt { s.mpt with recheck := Timer.started, recheckBad := bad }
  if bad then t.putStatus .cfgCorrupt true else t

/-- RECHECK_TIMER_EXPIRY (R169). -/
def execRecheckTimerExpiry (upset : Option (BitVec 6 × Word)) (s : State) : Outcome :=
  .next
    (if (s.serves || s.nsq.op == .standby) && s.mpt.recheck.due 100 then (s.upsetCopy upset).recheckCopy.settle else s)

/-! ### Flushes (R171, R172) -/

/-- FLUSH_TIMER_EXPIRY (R171). -/
def execFlushTimerExpiry (s : State) : Outcome :=
  .next
    (if (s.nsq.op == .active || s.nsq.op == .withdrawn) && s.mpt.flush.due 300000 then
      ((s.setMpt { s.mpt with flush := Timer.started }).requestFlush []).settle
    else s)

/-- The bytes of a flush's slot (Table 10.3-1); the role is the strap sample's. -/
def State.jobBytes (s : State) (job : FlushJob) : List Byte := slotBytes (s.role.getD .axle) job.seq job.snapshot

/-- The page in flight stored in the EEPROM. -/
def State.writePage (s : State) (job : FlushJob) : State :=
  s.setMpt { s.mpt with
    eeprom := Memory.writeAll s.mpt.eeprom (pageAddress job.slot job.page) (pageOf (s.jobBytes job) job.page) }

/-- A page stored: the attempt goes on to the second page, or the flush ends in success with the ring position at the slot
written (R172). -/
def State.storePage (s : State) (job : FlushJob) : State :=
  let t := s.writePage job
  if job.page = 1 then t.setMpt { t.mpt with op := .flush { job with page := 2 }, poll := Timer.started }
  else
    (t.setMpt { t.mpt with
      torn := t.mpt.torn &&& ~~~(1#8 <<< job.slot), ringSlot := job.slot, ringSeq := job.seq }).endFlush true job.parties

/-- A page not acknowledged in time: its bytes are left free and the slot's check is bad; a second attempt is made with the
same snapshot, or the flush ends in failure (R172). -/
def State.failPage (s : State) (job : FlushJob) : State :=
  let t := s.tearPage job
  if job.attempt = 1 then
    match attemptJob t.mpt job.snapshot job.parties 2 with
    | some next => t.setMpt (t.mpt.beginAttempt next)
    | none => t.endFlush false job.parties
  else t.endFlush false job.parties

/-- PAGE_STORED (R172), while a page of a flush is in flight. -/
def execPageStored (p : Straps) (s : State) : Outcome :=
  .next
    (match s.mpt.op with
    | .flush job => ((s.pinStraps p).storePage job).settle
    | .none | .bootLoad | .configRead _ _ | .configWrite _ _ _ _ => s)

/-- PAGE_TIMEOUT (R172), once the polling has lasted 20 ms. -/
def execPageTimeout (p : Straps) (s : State) : Outcome :=
  .next
    (match s.mpt.op with
    | .flush job => if s.mpt.poll.due 20 then ((s.pinStraps p).failPage job).settle else s
    | .none | .bootLoad | .configRead _ _ | .configWrite _ _ _ _ => s)

/-! ### Service access (R173) -/

/-- CONFIG_READ_COMPLETE (R173): DONE with the word of the EEPROM image, or MEM_FAIL. -/
def execConfigReadComplete (ack : Bool) (p : Straps) (s : State) : Outcome :=
  .next
    (match s.mpt.op with
    | .configRead place n =>
      (((s.pinStraps p).replyTo place (if ack then .done else .memFail)
        [BitVec.ofNat 16 n, eepromWord s.mpt.eeprom n]).endOperation).settle
    | .none | .bootLoad | .flush _ | .configWrite _ _ _ _ => s)

/-- The new word of a CONFIG_WRITE: the old word's bits where the mask is 0 and the value's where it is 1 (R173). -/
def maskedWord (old mask value : Word) : Word := old &&& ~~~mask ||| value &&& mask

/-- The new check word of a CONFIG_WRITE (R173). -/
def newCheckWord (check old new : Word) : Word := check ^^^ old ^^^ new

/-- The EEPROM after a CONFIG_WRITE of word `n` with the given outcome (R173): a failure between the two writes leaves the
new word and the old check word; the bytes of word `n` where its own write was not acknowledged are free (log entry 8). -/
def State.writeConfig (s : State) (n : Nat) (mask value : Word) (outcome : WriteOutcome) : State :=
  let old := eepromWord s.mpt.eeprom n
  let new := maskedWord old mask value
  let check := newCheckWord (eepromWord s.mpt.eeprom 63) old new
  let written := s.setMpt { s.mpt with eeprom := writeEepromWord s.mpt.eeprom n new }
  match outcome with
  | .stored => written.setMpt { written.mpt with eeprom := writeEepromWord written.mpt.eeprom 63 check }
  | .readFailed => s
  | .wordFailed => s.tearWord n
  | .checkFailed => written

/-- Whether a CONFIG_WRITE can end so now: a write fails once its acknowledge polling has lasted 20 ms (R172, R173, log
entry 49). -/
def State.canEndWrite (s : State) : WriteOutcome → Bool
  | .wordFailed | .checkFailed => s.mpt.poll.due 20
  | .stored | .readFailed => true

/-- CONFIG_WRITE_COMPLETE (R173): DONE with the new word where both writes are stored, else MEM_FAIL. -/
def execConfigWriteComplete (outcome : WriteOutcome) (p : Straps) (s : State) : Outcome :=
  .next
    (match s.mpt.op with
    | .configWrite place n mask value =>
      if s.canEndWrite outcome then
        ((((s.pinStraps p).writeConfig n mask value outcome).replyTo place
          (if outcome = .stored then .done else .memFail)
          [BitVec.ofNat 16 n, maskedWord (eepromWord s.mpt.eeprom n) mask value]).endOperation).settle
      else s
    | .none | .bootLoad | .flush _ | .configRead _ _ => s)

end Sys2Proof.Machine
end

