-- ==== Sys2Proof/Machine/PeerCommands.lean ====
section
/-! DEFINITION. The Peer Table's timers (chapter 2). -/

namespace Sys2Proof.Machine

/-- An entry at its 60 ms expiry, where it is due: FRESH becomes STALE (R33). -/
def PeerEntry.staleExpiry (e : PeerEntry) : PeerEntry :=
  if e.freshness = .fresh ∧ e.ageTimer.due 60 = true then { e with freshness := .stale } else e

/-- An entry at its 200 ms expiry, where it is due: STALE becomes LOST and the age is held at 200 ms (R33). -/
def PeerEntry.lostExpiry (e : PeerEntry) : PeerEntry :=
  if e.freshness = .stale ∧ e.ageTimer.due 200 = true then { e with freshness := .lost, ageTimer := ⟨false, 200⟩ } else e

/-- An expiry at the entry with an address. -/
def State.ageEntry (s : State) (a : Address) (f : PeerEntry → PeerEntry) : State :=
  s.setPtb { s.ptb with entries := s.ptb.entries.map fun e => if e.address = a then f e else e }

/-- AGE_TIMER_STALE (R33). -/
def execAgeTimerStale (a : Address) (s : State) : Outcome :=
  .next (if s.serves then s.ageEntry a PeerEntry.staleExpiry else s)

/-- AGE_TIMER_LOST (R33). -/
def execAgeTimerLost (a : Address) (s : State) : Outcome :=
  .next (if s.serves then s.ageEntry a PeerEntry.lostExpiry else s)

/-- The zero-demand computation and the ramp at the onset of DEMAND_LOST, in the AXLE role (R20, R41, R65). -/
def State.loseAxleDemand (s : State) : State :=
  if s.role = some .axle then ((s.setShe ShareRecord.initial).setBlu s.blu.demandLostOnset).reportShortBrake else s

/-- The onset of DEMAND_LOST (R41): the timer stays stopped at 50 ms. -/
def State.loseDemand (s : State) : State :=
  let s := (s.setPtb { s.ptb with demandTimer := ⟨false, 50⟩ }).putStatus .demandLost true
  s.loseAxleDemand.cancelHold

/-- DEMAND_TIMER_EXPIRY (R41). -/
def execDemandTimerExpiry (s : State) : Outcome :=
  .next (if s.serves && s.ptb.demandTimer.due 50 then s.loseDemand.settle else s)

end Sys2Proof.Machine
end

