-- ==== Sys2Proof/Machine/SequencerCommands.lean ====
section
/-! DEFINITION. The Node Sequencer's timers (chapter 11). -/

namespace Sys2Proof.Machine

/-- The strap check: its result recorded, and STRAP latched where the pins differ from the sample (R179). -/
def State.checkStraps (s : State) : State :=
  let differs := decide (s.pins.straps ≠ s.nsq.sample)
  let t := s.setNsq { s.nsq with strapCheck := Timer.started, strapDiffers := differs }
  if differs then t.putStatus .strap true else t

/-- STRAP_CHECK_EXPIRY (R179). -/
def execStrapCheckExpiry (p : Straps) (s : State) : Outcome :=
  .next (if s.serves && s.nsq.strapCheck.due 100 then (s.pinStraps p).checkStraps.settle else s)

/-- SYNC_TIMER_EXPIRY (R178): SYNC is left where the demand record is present. -/
def execSyncTimerExpiry (s : State) : Outcome :=
  .next
    (if s.nsq.op = .sync ∧ s.nsq.sync.due 100 = true then
      let t := s.setNsq { s.nsq with sync := .expired }
      (if t.ptb.demand.present then t.leaveSync else t).settle
    else s)

/-- SHUTDOWN_HOLD_EXPIRY (R180): the hold is met and the STANDBY conditions are tested. -/
def execShutdownHoldExpiry (s : State) : Outcome :=
  .next
    (if s.serves && s.nsq.hold.due 2000 then
      ((s.setNsq { s.nsq with hold := s.nsq.hold.halt, holdMet := true }).testStandby).settle
    else s)

/-- REPLY_LIMIT_EXPIRY (R184): a pending RESTART or REBOOT proceeds without its reply. -/
def execReplyLimitExpiry (p : Straps) (s : State) : Outcome :=
  .next (if s.nsq.limit.due 100 then ((s.pinStraps p).proceedReset).settle else s)

end Sys2Proof.Machine
end

