-- ==== Sys2Proof/Machine/Dispatch.lean ====
section
/-! DEFINITION. The meaning of each command: one arm per constructor of Instr. -/

namespace Sys2Proof.Machine

def exec (i : Instr) (s : State) : Host.Outcome State Fault Refusal :=
  match i with
  | .powerOn pins => Sys2Proof.Machine.execPowerOn pins s
  | .brownOut pins => Sys2Proof.Machine.execBrownOut pins s
  | .bootLoadComplete imageAck slotAcks => Sys2Proof.Machine.execBootLoadComplete imageAck slotAcks s
  | .demandArrival src words => Sys2Proof.Machine.execDemandArrival src words s
  | .stateArrival src words => Sys2Proof.Machine.execStateArrival src words s
  | .badFrame => Sys2Proof.Machine.execBadFrame s
  | .windowTimerExpiry => Sys2Proof.Machine.execWindowTimerExpiry s
  | .identify src target args => Sys2Proof.Machine.execIdentify src target args s
  | .readStatus src target args => Sys2Proof.Machine.execReadStatus src target args s
  | .clear src target args => Sys2Proof.Machine.execClear src target args s
  | .forceFault src target args => Sys2Proof.Machine.execForceFault src target args s
  | .releaseFault src target args => Sys2Proof.Machine.execReleaseFault src target args s
  | .forceWarn src target args => Sys2Proof.Machine.execForceWarn src target args s
  | .releaseWarn src target args => Sys2Proof.Machine.execReleaseWarn src target args s
  | .readWear src target args => Sys2Proof.Machine.execReadWear src target args s
  | .wearReset src target args => Sys2Proof.Machine.execWearReset src target args s
  | .configRead src target args => Sys2Proof.Machine.execConfigRead src target args s
  | .configWrite src target args => Sys2Proof.Machine.execConfigWrite src target args s
  | .restart src target args => Sys2Proof.Machine.execRestart src target args s
  | .reboot src target args => Sys2Proof.Machine.execReboot src target args s
  | .attemptStart => Sys2Proof.Machine.execAttemptStart s
  | .arbitrationLost => Sys2Proof.Machine.execArbitrationLost s
  | .attemptAbandoned => Sys2Proof.Machine.execAttemptAbandoned s
  | .attemptComplete pins => Sys2Proof.Machine.execAttemptComplete pins s
  | .silenceTimerExpiry => Sys2Proof.Machine.execSilenceTimerExpiry s
  | .statePeriodExpiry => Sys2Proof.Machine.execStatePeriodExpiry s
  | .ageTimerStale address => Sys2Proof.Machine.execAgeTimerStale address s
  | .ageTimerLost address => Sys2Proof.Machine.execAgeTimerLost address s
  | .demandTimerExpiry => Sys2Proof.Machine.execDemandTimerExpiry s
  | .exchangeStart sense => Sys2Proof.Machine.execExchangeStart sense s
  | .exchangeCompletion record => Sys2Proof.Machine.execExchangeCompletion record s
  | .settleTimerExpiry => Sys2Proof.Machine.execSettleTimerExpiry s
  | .partnerResetRelease => Sys2Proof.Machine.execPartnerResetRelease s
  | .finalExchangeEnd => Sys2Proof.Machine.execFinalExchangeEnd s
  | .rampTimerExpiry => Sys2Proof.Machine.execRampTimerExpiry s
  | .slipHoldTimerExpiry => Sys2Proof.Machine.execSlipHoldTimerExpiry s
  | .tick => Sys2Proof.Machine.execTick s
  | .crankTimerExpiry => Sys2Proof.Machine.execCrankTimerExpiry s
  | .warmTimerExpiry => Sys2Proof.Machine.execWarmTimerExpiry s
  | .runTimerExpiry => Sys2Proof.Machine.execRunTimerExpiry s
  | .cooldownTimerExpiry => Sys2Proof.Machine.execCooldownTimerExpiry s
  | .minuteTimerExpiry => Sys2Proof.Machine.execMinuteTimerExpiry s
  | .recheckTimerExpiry upset => Sys2Proof.Machine.execRecheckTimerExpiry upset s
  | .flushTimerExpiry => Sys2Proof.Machine.execFlushTimerExpiry s
  | .pageStored pins => Sys2Proof.Machine.execPageStored pins s
  | .pageTimeout pins => Sys2Proof.Machine.execPageTimeout pins s
  | .configReadComplete ack pins => Sys2Proof.Machine.execConfigReadComplete ack pins s
  | .configWriteComplete outcome pins => Sys2Proof.Machine.execConfigWriteComplete outcome pins s
  | .strapCheckExpiry pins => Sys2Proof.Machine.execStrapCheckExpiry pins s
  | .syncTimerExpiry => Sys2Proof.Machine.execSyncTimerExpiry s
  | .shutdownHoldExpiry => Sys2Proof.Machine.execShutdownHoldExpiry s
  | .replyLimitExpiry pins => Sys2Proof.Machine.execReplyLimitExpiry pins s
  | .unsupportedRequest src target code args => Sys2Proof.Machine.execUnsupportedRequest src target code args s
  | .svcReplyArrival src words => Sys2Proof.Machine.execSvcReplyArrival src words s
  | .receiverIdle => Sys2Proof.Machine.execReceiverIdle s

end Sys2Proof.Machine
end

