-- ==== Sys2Proof/Machine/Time.lean ====
section
/-! DEFINITION. The passage of time (section 4.4): one millisecond on every running timer. It happens at a step with no
command waiting (log entry 1). A timer that has reached its period stays there until its expiry is commanded. -/

namespace Sys2Proof.Machine

/-- One millisecond on a timer with a period. -/
def Timer.pass (t : Timer) (period : Nat) : Timer :=
  if t.running then { t with elapsed := min (t.elapsed + 1) (max period t.elapsed) } else t

/-- One millisecond on a timer that has no period (the off timer, R92). -/
def Timer.count (t : Timer) : Timer := if t.running then { t with elapsed := t.elapsed + 1 } else t

/-- One millisecond on a one-shot timer. -/
def OneShot.pass (t : OneShot) (period : Nat) : OneShot :=
  match t with
  | .running e => .running (min (e + 1) (max period e))
  | .stopped => .stopped
  | .expired => .expired

/-- The Node Sequencer's timers (R178 to R180, R184). -/
def Sequencer.pass (b : Sequencer) : Sequencer :=
  { b with
    sync := b.sync.pass 100, strapCheck := b.strapCheck.pass 100, hold := b.hold.pass 2000, limit := b.limit.pass 100 }

/-- The Peer Table's timers: the age of every entry and of the demand record (R33, R41). -/
def PeerTable.pass (b : PeerTable) : PeerTable :=
  { b with
    entries := b.entries.map fun e => { e with ageTimer := e.ageTimer.pass 200 }
    demandTimer := b.demandTimer.pass 50 }

/-- The Blend Unit's timers (R62, R67). -/
def BlendUnit.pass (b : BlendUnit) : BlendUnit :=
  { b with slipHold := b.slipHold.pass 300, rampTimer := b.rampTimer.pass 10 }

/-- The Genset Scheduler's timers (Table 5.1-1). -/
def Genset.pass (b : Genset) : Genset :=
  { b with
    tick := b.tick.pass 1000, crank := b.crank.pass 3000, warm := b.warm.pass 120000, run := b.run.pass 60000
    cooldown := b.cooldown.pass 30000, off := b.off.count }

/-- The minute timer (R116). -/
def Wear.pass (b : Wear) : Wear := { b with minute := b.minute.pass 60000 }

/-- The Share Line Interface's timers (R147, R150, R154). -/
def LineUnit.pass (b : LineUnit) : LineUnit :=
  { b with period := b.period.pass 20, silence := b.silence.pass 200, window := b.window.pass 1000 }

/-- The Stage Port's timers (R157, R161, R165). -/
def StagePort.pass (b : StagePort) : StagePort :=
  { b with exchange := b.exchange.pass 1, settle := b.settle.pass 100, release := b.release.pass 10 }

/-- The Memory Port's timers (R169, R171, R172). -/
def MemoryPort.pass (b : MemoryPort) : MemoryPort :=
  { b with flush := b.flush.pass 300000, recheck := b.recheck.pass 100, poll := b.poll.pass 20 }

/-- One millisecond for the whole node. -/
def State.elapse (s : State) : State where
  nsq := s.nsq.pass
  pins := s.pins
  stu := s.stu
  ptb := s.ptb.pass
  she := s.she
  blu := s.blu.pass
  plu := s.plu
  gsc := s.gsc.pass
  wau := s.wau.pass
  sli := s.sli.pass
  stp := s.stp.pass
  mpt := s.mpt.pass
  free := s.free
  pending := s.pending

end Sys2Proof.Machine
end

