-- ==== Sys2Proof/Safety.lean ====
section
/-! DEFINITION. What counts as a safe step and a safe run, the laws of spec/ as predicates of a state, and frames, in the
terms the statements use. -/

namespace Sys2Proof.Machine

/-! ### Runs -/

/-- The state a step answers, the state itself where it answers none. -/
def State.after (s : State) : State :=
  match step s with
  | .next t => t
  | .fault _ | .refused _ => s

/-- The state after `n` steps. -/
def State.run (s : State) : Nat → State
  | 0 => s
  | n + 1 => (s.run n).after

/-! ### Frames -/

/-- The parts of the state. -/
inductive Block where
  | nsq
  | pins
  | stu
  | ptb
  | she
  | blu
  | plu
  | gsc
  | wau
  | sli
  | stp
  | mpt
  | free
  | pending
  deriving DecidableEq, Repr

/-- Whether two states agree in a part. -/
def Agree (s t : State) : Block → Prop
  | .nsq => t.nsq = s.nsq
  | .pins => t.pins = s.pins
  | .stu => t.stu = s.stu
  | .ptb => t.ptb = s.ptb
  | .she => t.she = s.she
  | .blu => t.blu = s.blu
  | .plu => t.plu = s.plu
  | .gsc => t.gsc = s.gsc
  | .wau => t.wau = s.wau
  | .sli => t.sli = s.sli
  | .stp => t.stp = s.stp
  | .mpt => t.mpt = s.mpt
  | .free => t.free = s.free
  | .pending => t.pending = s.pending

/-- Every part but the ones listed is unchanged. -/
def KeptBut (s t : State) (bs : List Block) : Prop := ∀ b, b ∉ bs → Agree s t b

/-- What a prompt STATE request may make of the Share Line Interface: the STATE place alone, queued or prompt (R150). -/
def PromptAtMost (a b : LineUnit) : Prop := b = a ∨ b = { a with state := a.state.promptRequest }

/-- The status set with one status put, the force flags unchanged; the F value follows. -/
def StatusPut (s t : State) (x : Status) (v : Bool) : Prop :=
  t.stu.set = statusPut s.stu.set x v ∧ t.stu.forceFault = s.stu.forceFault ∧ t.stu.forceWarn = s.stu.forceWarn

/-! ### The passage of time -/

/-- What a millisecond makes of a timer with a period: it rises by 1 while it runs below its period, and is otherwise as it
was (section 4.4, log entry 1). -/
def TimerPasses (period : Nat) (a b : Timer) : Prop :=
  b.running = a.running ∧ (a.running = true → a.elapsed < period → b.elapsed = a.elapsed + 1)
    ∧ (a.running = false ∨ period ≤ a.elapsed → b.elapsed = a.elapsed)

/-- What a millisecond makes of a one-shot timer. -/
def OneShotPasses (period : Nat) (a b : OneShot) : Prop :=
  (∀ e, a = .running e → b = .running (if e < period then e + 1 else e))
    ∧ (a = .stopped → b = .stopped) ∧ (a = .expired → b = .expired)

/-! ### Service requests -/

/-- A service request from the tool reaches the node and is given reply place `n` (R145, R148, R182 steps 1 and 2): the
node serves and its receiver can have followed the frame (R142), the target is its own address or, for IDENTIFY and CLEAR, 0, and `n` is the lowest free place. -/
def Reaches (s : State) (target : Address) (code n : Nat) : Prop :=
  s.receives = true ∧ s.serves = true ∧ s.ownAddress ≠ 15
    ∧ (target = s.ownAddress ∧ target ≠ 0 ∨ target = 0 ∧ (code = 1 ∨ code = 3)) ∧ freePlace s.sli.replies = some n

/-- The source, the target, the request code and the argument words of a command that is a service request. -/
def serviceOf : Instr → Option (Address × Address × Nat × List Word)
  | .identify src target args => some (src, target, 1, args)
  | .readStatus src target args => some (src, target, 2, args)
  | .clear src target args => some (src, target, 3, args)
  | .forceFault src target args => some (src, target, 4, args)
  | .releaseFault src target args => some (src, target, 5, args)
  | .forceWarn src target args => some (src, target, 6, args)
  | .releaseWarn src target args => some (src, target, 7, args)
  | .readWear src target args => some (src, target, 8, args)
  | .wearReset src target args => some (src, target, 9, args)
  | .configRead src target args => some (src, target, 10, args)
  | .configWrite src target args => some (src, target, 11, args)
  | .restart src target args => some (src, target, 12, args)
  | .reboot src target args => some (src, target, 13, args)
  | .unsupportedRequest src target code args =>
    if codeSupported code then none else some (src, target, code.toNat, args)
  | _ => none

/-- The Share Line Interface with a place joined behind the reply places, and the STATE place at most made prompt: what a
request leaves of it (R142, R148, R150). -/
def ReplyJoined (s t : State) (r : ReplyPlace) : Prop :=
  PromptAtMost { s.sli with line := .waitIdle 0, replies := s.sli.replies ++ [r] } t.sli

/-! ### The values after every reset kind, written out

What SYNC entry starts, in the resets that enter SYNC directly, is apart (`SyncTimersStopped`). -/

/-- Table 3.1-1 (R69), but for the pad weight q, which is the Wear Accounting Unit's, and the ramp timer. -/
def BlendUnit.AtReset (b : BlendUnit) : Prop :=
  b.gd = 100 ∧ b.gr = 100 ∧ b.dE = 0 ∧ b.rE = 0 ∧ b.fE = 0 ∧ b.clampBinds = false ∧ b.torque = 0 ∧ b.pressure = 0
    ∧ b.ramp = .none ∧ b.limitM = 0 ∧ b.slip = .grip ∧ b.limitL = 0 ∧ b.slipHold.running = false
    ∧ b.own.pd = 0 ∧ b.own.pr = 0 ∧ b.own.fb = 0 ∧ b.own.slip = false ∧ b.own.pAct = 0

/-- Table 4.1-1 (R85); U_ref is read from the running copy. -/
def PackUnit.AtReset (b : PackUnit) : Prop :=
  b.pd0 = 0 ∧ b.poF = 0 ∧ b.pa0 = 0 ∧ b.pa1 = 0 ∧ b.pa2 = 0 ∧ b.paF = 0 ∧ b.iDis = 0 ∧ b.iChg = 0
    ∧ b.own.po = 0 ∧ b.own.pa = 0 ∧ b.own.soc = 0 ∧ b.own.pAct = 0

/-- Table 5.1-1 (R109), but for the tick timer and whether the off timer runs. -/
def Genset.AtReset (b : Genset) : Prop :=
  b.engine = .off ∧ b.clock = 0 ∧ b.netLoad = [] ∧ b.nBar = 0 ∧ b.socMin = 0 ∧ b.primary = true ∧ b.starts = []
    ∧ b.failures = 0 ∧ b.off.elapsed = 0 ∧ b.dwell = 20 ∧ b.crank.running = false ∧ b.warm.running = false
    ∧ b.run.running = false ∧ b.runMet = false ∧ b.cooldown.running = false ∧ b.pSet = 0 ∧ b.command = .stop
    ∧ b.adoption = true ∧ b.ownPo = 0 ∧ b.ownPa = 0 ∧ b.ownPAct = 0

/-- Table 9-1 (R166), but for the exchange timer and the settle timer; no exchange is in flight, and the first one to come
is partner 0's (R157). -/
def StagePort.AtReset (b : StagePort) : Prop :=
  b.slot0 = none ∧ b.slot1 = none ∧ b.seq0 = 0 ∧ b.seq1 = 0 ∧ b.held0 = none ∧ b.held1 = none ∧ b.fail0 = 0
    ∧ b.fail1 = 0 ∧ b.heldSpeed = none ∧ b.rejections = 0 ∧ b.own = .none ∧ b.inFlight = none ∧ b.turn = .p0
    ∧ b.final = .none

/-- R155, but for the receiver, the period and window timers, and the STATE place that the first prompt STATE of SYNC entry
takes. -/
def LineUnit.AtReset (b : LineUnit) : Prop :=
  b.replies = [] ∧ b.sending = none ∧ b.state.followOn = false ∧ b.state.carried = 0 ∧ b.failures = 0 ∧ b.silent = false
    ∧ b.silence.running = false ∧ b.rxErrors = 0

/-- The records that every reset kind puts to the same values: the peer table empty (R37), the demand record of Table
2.5-1, the share record of Table 1.1-1, and the blocks above. -/
def ResetRecords (s : State) : Prop :=
  s.ptb.entries = [] ∧ s.ptb.demand = ⟨false, 0, 0, 0, false, false, false, false⟩ ∧ s.she = ⟨0, 0, 0, false, false⟩
    ∧ s.blu.AtReset ∧ s.plu.AtReset ∧ s.gsc.AtReset ∧ s.stp.AtReset ∧ s.sli.AtReset

/-- The timers of those records that stop at every reset and that SYNC entry, or the release of the partners, starts (R38,
R45, R86, R155, R165, R166, R169). -/
def SyncTimersStopped (s : State) : Prop :=
  s.ptb.demandTimer.running = false ∧ s.blu.rampTimer.running = false ∧ s.gsc.tick.running = false
    ∧ s.gsc.off.running = false ∧ s.sli.period.running = false ∧ s.stp.exchange.running = false ∧ s.stp.settle = .stopped
    ∧ s.stp.release.running = false ∧ s.mpt.recheck.running = false

/-- The timers that SYNC entry starts in each role, as a reset that enters SYNC directly leaves them (R38, R45, R86, R116,
R154, R155, R169, R178, R179). -/
def SyncTimersStarted (s : State) : Prop :=
  s.nsq.sync = .running 0 ∧ s.nsq.strapCheck = ⟨true, 0⟩ ∧ s.ptb.demandTimer = ⟨true, 0⟩ ∧ s.sli.period = ⟨true, 0⟩
    ∧ s.sli.window = ⟨true, 0⟩ ∧ s.mpt.recheck = ⟨true, 0⟩ ∧ (s.role = some .axle → s.blu.rampTimer = ⟨true, 0⟩)
    ∧ (s.role = some .pack → s.wau.minute = ⟨true, 0⟩)
    ∧ (s.role = some .genset → s.gsc.tick = ⟨true, 0⟩ ∧ s.gsc.off = ⟨true, 0⟩)

/-! ### The laws of spec/ as predicates -/

/-- The operating state agrees with the withdrawing set, and the F value held is the one that R135 gives (R136, R138):
what the end of every event that changes the status set leaves. -/
def Settled (s : State) : Prop :=
  (s.nsq.op = .active → s.withdraws = false) ∧ (s.nsq.op = .withdrawn → s.withdraws = true)
    ∧ (s.serves = true → s.stu.fValue = s.fBit)

/-- The droop factors lie between 0 and 100 (Table 3.1-1). -/
def FactorLaw (s : State) : Prop := s.blu.gd ≤ 100 ∧ s.blu.gr ≤ 100

/-- PARTNER_FAULT follows the held records (R162). -/
def FaultLaw (s : State) : Prop :=
  s.status .partnerFault = partnerFaultHolds s.role s.stp.held0 s.stp.held1

/-- The law of R31: at most 12 entries, no two with the same address, none with the node's own address. -/
def TableLaw (s : State) : Prop :=
  s.ptb.entries.length ≤ 12 ∧ (s.ptb.entries.map PeerEntry.address).Nodup
    ∧ ∀ e ∈ s.ptb.entries, e.address ≠ s.ownAddress

/-- The reply places in use are places 1 to 3, no two the same, so that with the STATE place the queue holds at most four
frames (R148). -/
def QueueLaw (s : State) : Prop :=
  s.sli.replies.length ≤ 3 ∧ (s.sli.replies.map ReplyPlace.place).Nodup
    ∧ ∀ r ∈ s.sli.replies, 1 ≤ r.place ∧ r.place ≤ 3

/-- The discrete lines follow the operating state (Table 7.5-1). -/
def LinesLaw (s : State) : Prop :=
  s.pins.ready = (s.nsq.op == .active || s.nsq.op == .withdrawn) ∧ s.pins.traction = (s.nsq.op == .active)

/-- Each role's Pd, Pr, Po and Pa are 0 but in ACTIVE and in that role (the law of R137; R45, R70, R86). -/
def AdvertisedLaw (s : State) : Prop :=
  (¬ (s.nsq.op = .active ∧ s.role = some .axle) → s.blu.own.pd = 0 ∧ s.blu.own.pr = 0)
    ∧ (¬ (s.nsq.op = .active ∧ s.role = some .pack) → s.plu.own.po = 0 ∧ s.plu.own.pa = 0)
    ∧ (¬ (s.nsq.op = .active ∧ s.role = some .genset) → s.gsc.ownPo = 0 ∧ s.gsc.ownPa = 0)

/-- Whether the held pack monitor record shows a full or a frozen pack (the law of R76). -/
def fullOrFrozen (s : State) : Prop :=
  (packReading s.stp.held1).soc ≥ socMax s.mpt.copy ∨ (packReading s.stp.held1).tPack < -10

/-- What keeps the law of R76: a full or frozen pack has no formed acceptance, and the advertised one is the formed one or
0; in BOOT no record is held. -/
def PackLaw (s : State) : Prop :=
  (s.role = some .pack → s.stp.held1.isSome = true →
    (fullOrFrozen s → s.plu.paF = 0) ∧ (s.plu.own.pa = s.plu.paF ∨ s.plu.own.pa = 0))
  ∧ (s.nsq.op = .boot → s.stp.held1 = none)

/-- The flush in flight writes one of the two slots after the ring position (R172). -/
def RingLaw (s : State) : Prop :=
  s.mpt.ringSlot < 8 ∧
    match s.mpt.op with
    | .flush job => (job.attempt = 1 ∨ job.attempt = 2) ∧ (job.page = 1 ∨ job.page = 2)
        ∧ job.slot = (s.mpt.ringSlot + job.attempt) % 8 ∧ job.seq = s.mpt.ringSeq + job.attempt
    | _ => True

/-- The ring position is the valid slot with the greatest sequence number, or slot 7 with sequence 0 where none is valid
(R170, R172). With it goes what keeps it so: the slot of the flush in flight has a bad check until its second page is
stored, its first page stands before its second, its sequence number is within the limit; a CONFIG_WRITE names a word of the
image; in BOOT, before the load, no RESTART is pending. -/
def NewestLaw (s : State) : Prop :=
  (s.nsq.op = .boot → s.nsq.pendingReset = .none)
    ∧ ∀ role, s.role = some role → s.nsq.op ≠ .boot →
      (newestSlot (validSlots s.mpt.eeprom s.mpt.torn 0xFF role) = some (s.mpt.ringSlot, s.mpt.ringSeq)
        ∨ validSlots s.mpt.eeprom s.mpt.torn 0xFF role = [] ∧ s.mpt.ringSlot = 7 ∧ s.mpt.ringSeq = 0)
      ∧ (match s.mpt.op with
        | .flush job => job.seq ≤ seqMax ∧ s.mpt.torn.getLsbD job.slot = true
            ∧ (job.page = 2 → (readSlot s.mpt.eeprom job.slot).take 32 = (slotBytes role job.seq job.snapshot).take 32)
        | .configWrite _ n _ _ => n ≤ 62
        | _ => True)

/-- The second half of the law of R119: in the AXLE role the advertised q is the pad weight held, and q and d_w are those
that R123 and R124 derive from A1 and S1, while the running copy passes its check and its due threshold is 1 or more (an
upset of the copy is log entry 21's, a due threshold of 0 log entry 22's). -/
def DeriveLaw (s : State) : Prop :=
  (s.role = some .axle → s.blu.own.q = s.wau.q)
    ∧ (checkHolds s.mpt.copy = true → 1 ≤ dueOf s.mpt.copy 1 →
      (s.role = some .axle → s.wau.q = max 20 (100 - 80 * (itemAt s.wau.items 1).acc / dueOf s.mpt.copy 1))
      ∧ (s.role = some .pack → s.wau.dw = max 70 (100 - 30 * (itemAt s.wau.items 1).acc / dueOf s.mpt.copy 1)))

/-- The start ring holds at most 6 readings (R94). -/
def StartLaw (s : State) : Prop := s.gsc.starts.length ≤ 6

/-- Whether an address of the EEPROM lies in slot `k` of the wear ring (Table 10-1). -/
def inSlot (k a : Nat) : Prop := slotAddress k ≤ a ∧ a < slotAddress k + 64

/-- The addresses that a command may store to: the page of the flush in flight at PAGE_STORED and at a page that is not
acknowledged or is cut off, the word of a CONFIG_WRITE and word 63 (R172 to R174). -/
def storesTo (s : State) (c : Instr) (a : Nat) : Prop :=
  match s.mpt.op, c with
  | .flush job, .pageStored _ | .flush job, .pageTimeout _ | .flush job, .powerOn _ | .flush job, .brownOut _ =>
    pageAddress job.slot job.page ≤ a ∧ a < pageAddress job.slot job.page + 32
  | .configWrite _ n _ _, .configWriteComplete _ _ | .configWrite _ n _ _, .powerOn _
  | .configWrite _ n _ _, .brownOut _ => a = 2 * n ∨ a = 2 * n + 1 ∨ a = 126 ∨ a = 127
  | _, _ => False

end Sys2Proof.Machine
end

