-- ==== Sys2Proof/Certificates/Slice0/Obligations.lean ====
section
/-! DEFINITION. The statements for the provers. Each docstring names the rules of spec/ it comes from; a clause that rests
on a choice of the model names its log entry. In every statement the elapsed time of a stopped timer, where the manual gives
none, is log entry 45's. -/

open Sys2Proof Sys2Proof.Machine

/-! ### The step -/

/-- A step carries out the command at the front of the queue with the queue's rest (log entry 39). -/
def Obligations.StepRunsFrontCommand : Prop :=
  ∀ (c : Instr) (q : List Instr) (s : State), step (s.setPending (c :: q)) = exec c (s.setPending q)

/-- On an empty queue a millisecond passes (the model's choice, log entries 1 and 39): every running timer below its period
rises by 1 and every other timer stays (section 4.4, R33, R41, R62, R67, R87, R92, R96, R97, R101, R116, R147, R150, R154,
R157, R161, R165, R169, R171, R172, R178 to R180, R184); each block keeps all of its fields but its timers, and the other
blocks, the pins and the queue are as before. -/
def Obligations.IdleStepLetsAMillisecondPass : Prop :=
  ∀ s : State, s.pending = [] → ∃ t, step s = .next t
    ∧ KeptBut s t [.nsq, .ptb, .blu, .gsc, .wau, .sli, .stp, .mpt]
    ∧ t.nsq = { s.nsq with
        sync := t.nsq.sync, strapCheck := t.nsq.strapCheck, hold := t.nsq.hold, limit := t.nsq.limit }
    ∧ OneShotPasses 100 s.nsq.sync t.nsq.sync ∧ TimerPasses 100 s.nsq.strapCheck t.nsq.strapCheck
    ∧ TimerPasses 2000 s.nsq.hold t.nsq.hold ∧ TimerPasses 100 s.nsq.limit t.nsq.limit
    ∧ t.ptb.demand = s.ptb.demand ∧ TimerPasses 50 s.ptb.demandTimer t.ptb.demandTimer
    ∧ t.ptb.entries.length = s.ptb.entries.length
    ∧ (∀ (i : Nat) (e : PeerEntry), s.ptb.entries[i]? = some e → ∃ e' : PeerEntry, t.ptb.entries[i]? = some e'
        ∧ e' = { e with ageTimer := e'.ageTimer } ∧ TimerPasses 200 e.ageTimer e'.ageTimer)
    ∧ t.blu = { s.blu with slipHold := t.blu.slipHold, rampTimer := t.blu.rampTimer }
    ∧ TimerPasses 300 s.blu.slipHold t.blu.slipHold ∧ TimerPasses 10 s.blu.rampTimer t.blu.rampTimer
    ∧ t.gsc = { s.gsc with
        tick := t.gsc.tick, crank := t.gsc.crank, warm := t.gsc.warm, run := t.gsc.run, cooldown := t.gsc.cooldown
        off := t.gsc.off }
    ∧ TimerPasses 1000 s.gsc.tick t.gsc.tick ∧ TimerPasses 3000 s.gsc.crank t.gsc.crank
    ∧ TimerPasses 120000 s.gsc.warm t.gsc.warm ∧ TimerPasses 60000 s.gsc.run t.gsc.run
    ∧ TimerPasses 30000 s.gsc.cooldown t.gsc.cooldown ∧ t.gsc.off.running = s.gsc.off.running
    ∧ t.gsc.off.elapsed = (if s.gsc.off.running then s.gsc.off.elapsed + 1 else s.gsc.off.elapsed)
    ∧ t.wau = { s.wau with minute := t.wau.minute } ∧ TimerPasses 60000 s.wau.minute t.wau.minute
    ∧ t.sli = { s.sli with period := t.sli.period, silence := t.sli.silence, window := t.sli.window }
    ∧ TimerPasses 20 s.sli.period t.sli.period ∧ TimerPasses 200 s.sli.silence t.sli.silence
    ∧ TimerPasses 1000 s.sli.window t.sli.window
    ∧ t.stp = { s.stp with exchange := t.stp.exchange, settle := t.stp.settle, release := t.stp.release }
    ∧ TimerPasses 1 s.stp.exchange t.stp.exchange ∧ OneShotPasses 100 s.stp.settle t.stp.settle
    ∧ TimerPasses 10 s.stp.release t.stp.release
    ∧ t.mpt = { s.mpt with flush := t.mpt.flush, recheck := t.mpt.recheck, poll := t.mpt.poll }
    ∧ TimerPasses 300000 s.mpt.flush t.mpt.flush ∧ TimerPasses 100 s.mpt.recheck t.mpt.recheck
    ∧ TimerPasses 20 s.mpt.poll t.mpt.poll

/-- Every command answers a next state, from every state, and leaves the queue alone: no event of the manual stops the
part. That a command for an event that cannot occur answers next with nothing changed is the model's choice (log entry 2),
and so is the queue that no command changes (log entry 39). -/
def Obligations.CommandsAnswerNextAndKeepTheQueue : Prop :=
  ∀ (c : Instr) (s : State), ∃ t, exec c s = .next t ∧ t.pending = s.pending

/-! ### Resets and the boot load -/

/-- What the manual says of the state right after POWER_ON: every value of Tables 1.1-1, 2.5-1, 3.1-1, 4.1-1, 5.1-1 and
9-1 (R37, R69, R85, R109, R166), the timers stopped, and the values of the Status Unit (R141), the Share Line Interface
(R155), the Memory Port's pending flush, timers and recheck result (R169, R174), the wear flags and the run-second count
(R126) and the Node Sequencer (R175, R177, R179).
What only the boot load gives is not stated: q, d_w, the table, the running copy and the ring position before it are log
entry 6's. The strap sample is log entry 5's. -/
def Obligations.ResetLeavesTheStatedValues : Prop :=
  State.reset.nsq.op = .boot ∧ State.reset.nsq.cause = .powerOn ∧ State.reset.mpt.op = .bootLoad
    ∧ State.reset.pins.ready = false ∧ State.reset.pins.traction = false ∧ State.reset.pins.partnerReset = true
    ∧ State.reset.nsq.sync = .stopped ∧ State.reset.nsq.strapCheck.running = false
    ∧ State.reset.nsq.strapDiffers = false ∧ State.reset.nsq.hold.running = false ∧ State.reset.nsq.holdMet = false
    ∧ State.reset.nsq.limit.running = false ∧ State.reset.nsq.pendingReset = .none
    ∧ State.reset.stu.set = 0 ∧ State.reset.stu.forceFault = false ∧ State.reset.stu.forceWarn = false
    ∧ State.reset.stu.fValue = false ∧ ResetRecords State.reset ∧ SyncTimersStopped State.reset
    ∧ State.reset.sli.line = .stopped ∧ State.reset.sli.state.condition = .empty
    ∧ State.reset.sli.window.running = false ∧ State.reset.wau.armA4 = false ∧ State.reset.wau.armS3 = false
    ∧ State.reset.wau.hot = false ∧ State.reset.wau.minute.running = false ∧ State.reset.wau.runSeconds = 0
    ∧ State.reset.mpt.pendingFlush = none ∧ State.reset.mpt.flush.running = false ∧ State.reset.mpt.recheckBad = false

/-- POWER_ON and BROWN_OUT, in any state and with any levels on the strap pins (R175, R176): the sample is the pins', an
invalid one leads to MUTE and a valid one to BOOT with the boot load in flight, and every block takes its reset values,
those of Tables 1.1-1, 2.5-1, 3.1-1, 4.1-1, 5.1-1 and 9-1 among them (R37, R69, R85, R109, R166), the F value held for the
prompt comparison cleared (R141): the Node Sequencer's timers, the hold and the pending reset (R175), the recorded strap
check (R179), the force flags (R133, R141), the Share Line Interface's places, counts and timers, the receiver and its
window timer running in MUTE alone (R147, R155), the Memory Port's pending flush and timers (R169, R174), the wear flags
and, in MUTE, an empty table with q and d_w at 100 and the defaults with no role (R69, R126, R168). What the table, q, d_w,
the running copy and the ring position hold in BOOT before the load is log entry 6's and is not stated.
The EEPROM keeps every byte but those that the operation in flight was writing (R174). -/
def Obligations.SupplyEventsSampleTheStraps : Prop :=
  ∀ (p : Straps) (s : State) (c : Instr) (k : ResetKind),
    (c = .powerOn p ∧ k = .powerOn ∨ c = .brownOut p ∧ k = .brownOut) → ∃ t, exec c s = .next t
      ∧ t.nsq.sample = p ∧ t.nsq.cause = k ∧ t.pins.ready = false ∧ t.pins.traction = false
      ∧ (1 ≤ strapCode p ∧ strapCode p ≤ 3 ∧ strapAddress p ≠ 0 ∧ strapAddress p ≠ 15 →
          t.nsq.op = .boot ∧ t.mpt.op = .bootLoad ∧ t.pins.partnerReset = true ∧ t.sli.line = .stopped
            ∧ t.sli.window.running = false)
      ∧ (strapCode p = 0 ∨ 4 ≤ strapCode p ∨ strapAddress p = 0 ∨ strapAddress p = 15 →
          t.nsq.op = .mute ∧ t.mpt.op = .none ∧ t.pins.partnerReset = false ∧ t.sli.line = .waitIdle 0
            ∧ t.sli.window = ⟨true, 0⟩ ∧ t.wau.items = [] ∧ t.wau.q = 100 ∧ t.blu.own.q = 100 ∧ t.wau.dw = 100
            ∧ t.mpt.copy = defaultImage none)
      ∧ t.nsq.sync = .stopped ∧ t.nsq.strapCheck.running = false ∧ t.nsq.hold.running = false ∧ t.nsq.limit.running = false
      ∧ t.nsq.holdMet = false ∧ t.nsq.pendingReset = .none ∧ t.nsq.strapDiffers = false
      ∧ t.stu.set = 0 ∧ t.stu.fValue = false ∧ t.stu.forceFault = false ∧ t.stu.forceWarn = false
      ∧ ResetRecords t ∧ SyncTimersStopped t ∧ t.sli.state.condition = .empty
      ∧ t.mpt.pendingFlush = none ∧ t.mpt.flush.running = false ∧ t.mpt.recheckBad = false
      ∧ t.wau.armA4 = false ∧ t.wau.armS3 = false ∧ t.wau.hot = false ∧ t.wau.minute.running = false
      ∧ t.wau.runSeconds = 0 ∧ t.pending = s.pending
      ∧ (s.mpt.eeprom.wf = true → ∀ a, ¬ storesTo s c a →
          Memory.read t.mpt.eeprom a = Memory.read s.mpt.eeprom a)

/-- BOOT_LOAD_COMPLETE (R168, R170, R177, R178): the image is taken where every read was acknowledged and it is accepted,
else the defaults with CFG_DEFAULT; the ring position is the newest valid slot's, or 7 and 0 with WEAR_BLANK; the node
enters SYNC. An image is accepted where its words meet the tests of R168 (Table 10.2-1); a slot is valid where its reads are
acknowledged, its role code is the strap role's and its check passes, and the newest of the valid slots is the one with the
greatest sequence number, the lower-numbered of two that carry the same (R170). A slot whose write did not end fails its
check (R172, Table 10.3-1): the model says so by a flag (log entry 7). -/
def Obligations.BootLoadEntersSync : Prop :=
  ∀ (s : State) (role : Role) (ack : Bool) (acks : BitVec 8),
    s.nsq.op = .boot → s.mpt.op = .bootLoad → s.role = some role → ∃ t, exec (.bootLoadComplete ack acks) s = .next t
      ∧ t.nsq.op = .sync ∧ t.mpt.op = .none ∧ t.mpt.eeprom = s.mpt.eeprom
      ∧ (ack = true ∧ imageAccepted role (eepromImage s.mpt.eeprom) = true →
          t.mpt.copy = eepromImage s.mpt.eeprom ∧ t.status .cfgDefault = s.status .cfgDefault)
      ∧ (¬ (ack = true ∧ imageAccepted role (eepromImage s.mpt.eeprom) = true) →
          t.mpt.copy = defaultImage (some role) ∧ t.status .cfgDefault = true)
      ∧ (∀ k q, newestSlot (validSlots s.mpt.eeprom s.mpt.torn acks role) = some (k, q) →
          t.mpt.ringSlot = k ∧ t.mpt.ringSeq = q
            ∧ t.wau.items.map WearItem.acc = (slotSnapshot role (readSlot s.mpt.eeprom k)).accs)
      ∧ (newestSlot (validSlots s.mpt.eeprom s.mpt.torn acks role) = none →
          t.mpt.ringSlot = 7 ∧ t.mpt.ringSeq = 0 ∧ t.status .wearBlank = true
            ∧ t.wau.items.map WearItem.acc = List.replicate (itemCount role) 0)
      ∧ (let image := eepromImage s.mpt.eeprom
         let w (n : Nat) : Nat := (imageWord image n).toNat
         let w32 (n : Nat) : Nat := (imageWord image n ++ imageWord image (n + 1)).toNat
         image.length = 64
         ∧ (imageAccepted role image = true ↔ image.foldl (· ^^^ ·) 0 = 0xA55A#16 ∧ w 0 = role.code * 16384
            ∧ (∀ n ∈ [6, 7, 9, 21, 22, 23, 24, 25, 26, 27, 28, 29, 31], w n ≤ 1000)
            ∧ 100 ≤ w 8 ∧ w 8 ≤ 5000 ∧ 20 ≤ w 10 ∧ w 10 ≤ 400 ∧ 100 ≤ w 11 ∧ w 11 ≤ 1000 ∧ w 12 ≤ w 11
            ∧ w 13 < w 14 ∧ w 14 ≤ 1200 ∧ w 15 < w 16 ∧ w 16 ≤ 1000 ∧ w 17 < w 18 ∧ w 18 ≤ 1000
            ∧ w 20 < w 19 ∧ w 19 ≤ 1000 ∧ w 30 ≤ 20
            ∧ ∀ i, i < itemCount role → w32 (32 + 4 * i) ≤ w32 (34 + 4 * i) ∧ 1 ≤ w32 (34 + 4 * i)))
      ∧ (let slot (k : Nat) : List Byte := readSlot s.mpt.eeprom k
         let valid (k : Nat) : Prop := k < 8 ∧ acks.getLsbD k = true ∧ s.mpt.torn.getLsbD k = false
           ∧ (byteAt (slot k) 4).toNat = role.code
           ∧ checkOf (((slot k).take 62).flatMap bitsOf) = pairAt (slot k) 62
         let seq (k : Nat) : Nat := value32 (slot k) 0
         (newestSlot (validSlots s.mpt.eeprom s.mpt.torn acks role) = none ↔ ∀ k, k < 8 → ¬ valid k)
         ∧ (∀ k, k < 8 → (newestSlot (validSlots s.mpt.eeprom s.mpt.torn acks role) = some (k, seq k) ↔
             valid k ∧ ∀ j, j < 8 → valid j → seq j < seq k ∨ seq j = seq k ∧ k ≤ j)))
      ∧ t.ptb.demandTimer = Timer.started ∧ t.sli.period = Timer.started ∧ t.mpt.recheck = Timer.started
      ∧ t.stp.exchange = Timer.started ∧ t.stp.settle = .running 0 ∧ t.pins.partnerReset = false
      ∧ t.nsq.sync = .running 0 ∧ t.nsq.strapCheck = Timer.started
      ∧ (s.sli.state.condition = .empty → t.sli.state.condition = .queued ∧ t.sli.state.urgency = 1)

/-! ### The vehicle demand -/

/-- A DEMAND arrival that meets R39, in SYNC, ACTIVE and WITHDRAWN (R40, R1): every field of the record is overwritten
with the frame's clamped values, the record is present, the demand timer restarts, DEMAND_LOST is clear; in the AXLE role
the share record is the one computed from the record as just written, the drive ramp goes from DOWN to UP with M as it
stands and is otherwise unchanged (R66), and SHORT_BRAKE follows the share record and the friction clamp (R22); in the other
roles all of these are kept. -/
def Obligations.DemandArrivalIsStored : Prop :=
  ∀ (s : State) (w1 w2 w3 w4 : Word),
    s.receives = true → s.serves = true → s.mpt.ringSeq < seqMax → ∃ t, exec (.demandArrival 0 [w1, w2, w3, w4]) s = .next t
      ∧ t.ptb.demand.present = true
      ∧ t.ptb.demand.d = max (-1000) (min w1.toInt 600) ∧ t.ptb.demand.v = min w2.toNat 1200
      ∧ (t.ptb.demand.aux : Int) = max 0 (min w3.toInt 150)
      ∧ t.ptb.demand.parked = w4.getLsbD 0 ∧ t.ptb.demand.quiet = w4.getLsbD 1
      ∧ t.ptb.demand.shutdown = w4.getLsbD 2 ∧ t.ptb.demand.hold = w4.getLsbD 3
      ∧ t.ptb.demandTimer = Timer.started ∧ t.status .demandLost = false ∧ t.ptb.entries = s.ptb.entries
      ∧ (s.role = some .axle → t.she = computeShare s.ownMember s.ptb.entries t.ptb.demand.d t.ptb.demand.v
          t.ptb.demand.aux (vLo s.mpt.copy) (vHi s.mpt.copy))
      ∧ (s.role = some .axle → (s.blu.ramp = .down → t.blu.ramp = .up) ∧ (s.blu.ramp ≠ .down → t.blu.ramp = s.blu.ramp)
          ∧ (t.status .shortBrake = true ↔ t.she.shortBrake = true ∨ s.blu.clampBinds = true))
      ∧ t.blu.limitM = s.blu.limitM ∧ t.blu.clampBinds = s.blu.clampBinds
      ∧ (s.role ≠ some .axle → t.she = s.she ∧ t.blu.ramp = s.blu.ramp ∧ t.status .shortBrake = s.status .shortBrake)
      ∧ t.stp.held0 = s.stp.held0 ∧ t.stp.held1 = s.stp.held1 ∧ t.plu.paF = s.plu.paF ∧ t.mpt.copy = s.mpt.copy
      ∧ t.mpt.eeprom = s.mpt.eeprom

/-- A DEMAND frame from another source or of another length changes no field of the record, does not restart the demand
timer, does not clear DEMAND_LOST and starts no share computation; it latches CLASH only where its source is the node's
own address (R39). -/
def Obligations.OtherDemandIsIgnored : Prop :=
  ∀ (s : State) (src : Address) (words : List Word),
    s.receives = true → words.length ≤ 6 → ¬ (src = 0 ∧ words.length = 4) → s.mpt.ringSeq < seqMax →
      ∃ t, exec (.demandArrival src words) s = .next t
        ∧ t.ptb.demand = s.ptb.demand ∧ t.ptb.demandTimer = s.ptb.demandTimer
        ∧ t.status .demandLost = s.status .demandLost ∧ t.she = s.she ∧ t.ptb.entries = s.ptb.entries
        ∧ (src ≠ s.ownAddress → t.status .clash = s.status .clash) ∧ (src = s.ownAddress → t.status .clash = true)
        ∧ t.mpt.eeprom = s.mpt.eeprom

/-- What readers of the demand record are given (R42, Table 2.5-2). The stored fields keep their values at the expiry that
brings DEMAND_LOST, and the readers are given the values of the next arrival taken, at once. -/
def Obligations.ReadersAreGivenSafeValues : Prop :=
  ∀ s : State,
    (s.ptb.demand.present = true → s.demandLost = false → s.given = s.ptb.demand)
    ∧ (s.ptb.demand.present = true → s.demandLost = true → s.given.d = 0 ∧ s.given.v = s.ptb.demand.v
        ∧ s.given.aux = s.ptb.demand.aux ∧ s.given.parked = false ∧ s.given.quiet = s.ptb.demand.quiet
        ∧ s.given.shutdown = false ∧ s.given.hold = false)
    ∧ (s.ptb.demand.present = false → s.given.d = 0 ∧ s.given.v = 0 ∧ s.given.aux = 0 ∧ s.given.parked = false
        ∧ s.given.quiet = false ∧ s.given.shutdown = false ∧ s.given.hold = false)
    ∧ (∀ e, Settled s → s.serves = true → s.ptb.demandTimer = ⟨true, e⟩ → 50 ≤ e →
        ∃ t, exec .demandTimerExpiry s = .next t ∧ t.demandLost = true ∧ t.ptb.demand = s.ptb.demand)
    ∧ (∀ w1 w2 w3 w4 : Word, s.receives = true → s.serves = true → s.mpt.ringSeq < seqMax →
        ∃ t, exec (.demandArrival 0 [w1, w2, w3, w4]) s = .next t ∧ t.demandLost = false ∧ t.given = t.ptb.demand)

/-- A DEMAND frame from address 0 with four words in STANDBY (R44, R175, R181): with SHUTDOWN clear the WAKE reset, into
SYNC with the sample, the running copy, the ring position and the wear accumulators kept, every record at the values of the
reset tables (R37, R38, R69, R85, R109, R155, R166) and the timers of SYNC started; with SHUTDOWN set no effect on the
record or its timer. -/
def Obligations.StandbyWakesAtADemand : Prop :=
  ∀ (s : State) (w1 w2 w3 w4 : Word), s.nsq.op = .standby → s.receives = true →
    ∃ t, exec (.demandArrival 0 [w1, w2, w3, w4]) s = .next t ∧ t.mpt.eeprom = s.mpt.eeprom ∧ t.mpt.copy = s.mpt.copy
      ∧ (w4.getLsbD 2 = false →
          t.nsq.op = .sync ∧ t.nsq.cause = .wake ∧ t.nsq.sample = s.nsq.sample ∧ t.pins.partnerReset = false
          ∧ ResetRecords t ∧ SyncTimersStarted t ∧ t.stp.exchange = ⟨true, 0⟩ ∧ t.stp.settle = .running 0
          ∧ t.stp.release.running = false ∧ t.wau.armA4 = false ∧ t.wau.armS3 = false ∧ t.wau.hot = false
          ∧ t.mpt.ringSlot = s.mpt.ringSlot ∧ t.mpt.ringSeq = s.mpt.ringSeq
          ∧ t.wau.items.map WearItem.acc = s.wau.items.map WearItem.acc
          ∧ t.wau.items.map WearItem.residue = s.wau.items.map WearItem.residue
          ∧ t.status .cfgDefault = s.status .cfgDefault ∧ t.status .memFault = s.status .memFault
          ∧ t.status .stageLost = false ∧ t.status .demandLost = false)
      ∧ (w4.getLsbD 2 = true →
          t.nsq = s.nsq ∧ t.ptb = s.ptb ∧ t.she = s.she ∧ t.stp = s.stp ∧ t.pins = s.pins ∧ t.wau = s.wau)

/-! ### The share computation -/

/-- The procedure of R8 over members with pairwise different addresses whose weights do not all vanish: a member of weight 0
takes 0, the lowest-addressed of the others its floor part and the remainder, the rest their floor parts; the remainder is
less than the number of members with a weight, and what the members take sums to exactly the total. -/
def Obligations.SplitsSumToTheTotal : Prop :=
  ∀ (total : Nat) (ws : List (Address × Nat)), (ws.map Prod.fst).Nodup → 0 < weightSum ws →
    let sum := (ws.map Prod.snd).sum
    let remainder := total - (ws.map fun m => total * m.2 / sum).sum
    (ws.map (splitResult total ws)).sum = total
      ∧ remainder < (ws.filter fun m => decide (m.2 ≠ 0)).length
      ∧ ∀ m ∈ ws, (m.2 = 0 → splitResult total ws m = 0)
        ∧ (m.2 ≠ 0 → (∃ x ∈ ws, x.2 ≠ 0 ∧ x.1 < m.1) → splitResult total ws m = total * m.2 / sum)
        ∧ (m.2 ≠ 0 → (∀ x ∈ ws, x.2 ≠ 0 → m.1 ≤ x.1) → splitResult total ws m = total * m.2 / sum + remainder)

/-- The law of R23: every computed share lies between 0 and the own capability it was computed against. -/
def Obligations.SharesStayWithinTheOwnCapability : Prop :=
  ∀ (own : Member) (es : List PeerEntry) (d : Int) (v aux lo hi : Nat),
    (computeShare own es d v aux lo hi).d ≤ own.pd ∧ (computeShare own es d v aux lo hi).r ≤ own.pr
      ∧ (computeShare own es d v aux lo hi).f ≤ own.fb

/-- What each sign of the demand leaves of the share record (R10 to R12, R15, R18, R19, R20): traction shares drive alone,
the own part of the traction total (the least of the demand, the drive capabilities in view and what the sources in view
deliver above the auxiliary load) cut at the own Pd, with CLAMP exactly where it is cut;
braking shares regeneration and friction alone, a demand of 0 nothing; the friction share is the own friction part with the
regen excess, at most the own Fb in every case, and SHORT_BRAKE is set exactly where it is cut or no member in view has
a friction weight for a remainder above 0. The members in view are the node and the live AXLE entries with the values they
hold, the sources the live PACK and GENSET entries, an entry being live where it is FRESH or STALE and reports ACTIVE or
WITHDRAWN (R5 to R7, R35); a member weighs its Pd, its Pr and, for friction, the floor of Fb by q percent (R11, R14, R16). -/
def Obligations.SharesFollowTheSignOfTheDemand : Prop :=
  ∀ (own : Member) (es : List PeerEntry) (d : Int) (v aux lo hi : Nat),
    (let live : List PeerEntry := es.filter fun e =>
       decide ((e.freshness = .fresh ∨ e.freshness = .stale)
         ∧ (e.reported = .known .active ∨ e.reported = .known .withdrawn))
     peerMembers es = (live.filterMap fun e => match e.part with
         | .axle _ pd pr fb q => some ⟨e.address, pd, pr, fb, q⟩
         | _ => none)
       ∧ deliverySum es = (live.map fun e => match e.part with
         | .pack po _ _ => po
         | .genset po _ _ => po
         | _ => 0).sum
       ∧ acceptanceSum es = (live.map fun e => match e.part with
         | .pack _ pa _ => pa
         | .genset _ pa _ => pa
         | _ => 0).sum
       ∧ ∀ x : List Member, driveWeights x = (x.map fun m => (m.address, m.pd))
         ∧ regenWeights x = (x.map fun m => (m.address, m.pr))
         ∧ frictionWeights x = x.map fun m => (m.address, m.fb * m.q / 100))
    ∧ (d = 0 → computeShare own es d v aux lo hi = ⟨0, 0, 0, false, false⟩)
    ∧ (0 < d →
        let x := own :: peerMembers es
        let total := min d.toNat (min (x.map Member.pd).sum (deliverySum es - aux))
        let part := splitResult total (driveWeights x) (own.address, own.pd)
        (computeShare own es d v aux lo hi).d = min part own.pd
          ∧ ((computeShare own es d v aux lo hi).clamp = true ↔ own.pd < part)
          ∧ (computeShare own es d v aux lo hi).r = 0 ∧ (computeShare own es d v aux lo hi).f = 0
          ∧ (computeShare own es d v aux lo hi).shortBrake = false)
    ∧ (d < 0 →
        let x := own :: peerMembers es
        let total := regenTotal (-d).toNat (fade lo hi v) x es aux
        let regen := splitResult total (regenWeights x) (own.address, own.pr)
        let friction := splitResult ((-d).toNat - total) (frictionWeights x) (own.address, own.fb * own.q / 100)
        (computeShare own es d v aux lo hi).d = 0
          ∧ (computeShare own es d v aux lo hi).r = min regen own.pr
          ∧ ((computeShare own es d v aux lo hi).clamp = true ↔ own.pr < regen)
          ∧ (computeShare own es d v aux lo hi).f = min (friction + (regen - own.pr)) own.fb
          ∧ (computeShare own es d v aux lo hi).r + (computeShare own es d v aux lo hi).f ≤ regen + friction
          ∧ ((computeShare own es d v aux lo hi).shortBrake = false →
              (computeShare own es d v aux lo hi).r + (computeShare own es d v aux lo hi).f = regen + friction)
          ∧ ((computeShare own es d v aux lo hi).shortBrake = true ↔
              own.fb < friction + (regen - own.pr)
                ∨ weightSum (frictionWeights x) = 0 ∧ total < (-d).toNat))

/-- The regenerative total (R13) is the least of the braking demand, the faded capability of the axles in view and what the
sources in view and the auxiliary load absorb, and so 0 where any of them vanishes; the fade factor (R9) is 100 from v_hi
up, 0 up to v_lo and the floor between, with the default limits 40 and 120. -/
def Obligations.RegenTotalIsTheLeastOfItsBounds : Prop :=
  ∀ (b v aux lo hi : Nat) (x : List Member) (es : List PeerEntry),
    let r := regenTotal b (fade lo hi v) x es aux
    let cr := (x.map Member.pr).sum
    let faded := fade lo hi v * cr / 100
    r ≤ b ∧ r ≤ faded ∧ r ≤ acceptanceSum es + aux ∧ (r = b ∨ r = faded ∨ r = acceptanceSum es + aux)
      ∧ (cr = 0 ∨ fade lo hi v = 0 ∨ acceptanceSum es + aux = 0 → r = 0)
      ∧ (lo < hi → (hi ≤ v → fade lo hi v = 100) ∧ (v ≤ lo → fade lo hi v = 0)
          ∧ (lo < v → v < hi → fade lo hi v = 100 * (v - lo) / (hi - lo)))
      ∧ vLo (defaultImage (some .axle)) = 40 ∧ vHi (defaultImage (some .axle)) = 120

/-! ### Peers and received frames -/

/-- A good STATE frame from a peer's address, in SYNC, ACTIVE and WITHDRAWN (R28 to R32): its values are brought into range;
an entry of its address is overwritten whole in its place, a new one joins the end of the list, and with 12 entries a frame
from a new address is dropped with TABLE_FULL. Nothing else changes but the receiver's line state and a prompt STATE where
the F bit changes (R138). -/
def Obligations.StateArrivalTakesAPeer : Prop :=
  ∀ (s : State) (src : Address) (words : List Word), Settled s → s.receives = true → s.serves = true →
    stateFits words = true → src ≠ 0 → src ≠ 15 → src ≠ s.ownAddress →
    ∃ (t : State) (x : PeerEntry), exec (.stateArrival src words) s = .next t
      ∧ x.address = src ∧ x.freshness = .fresh ∧ x.ageTimer = ⟨true, 0⟩
      ∧ (∀ h pd pr fb q p, words = [h, pd, pr, fb, q, p] →
          x.part = .axle (max (-1000) (min p.toInt 1000)) (min pd.toNat 1000) (min pr.toNat 1000) (min fb.toNat 1000)
            (min q.toNat 100))
      ∧ (∀ h po pa soc p, words = [h, po, pa, soc, p] →
          x.part = .pack (min po.toNat 1000) (min pa.toNat 1000) (min soc.toNat 1000))
      ∧ (∀ h po pa p, words = [h, po, pa, p] → ∃ e, x.part = .genset (min po.toNat 1000) (min pa.toNat 1000) e
          ∧ ((h.extractLsb' 6 3).toNat ≤ 5 → e.code = (h.extractLsb' 6 3).toNat)
          ∧ (6 ≤ (h.extractLsb' 6 3).toNat → e = .faulted))
      ∧ (∀ op, x.reported = .known op ↔ ((wordAt words 0).extractLsb' 11 3).toNat = op.code)
      ∧ ((∃ e ∈ s.ptb.entries, e.address = src) →
          t.ptb.entries = s.ptb.entries.map (fun e => if e.address = src then x else e)
            ∧ t.status .tableFull = s.status .tableFull)
      ∧ ((∀ e ∈ s.ptb.entries, e.address ≠ src) → s.ptb.entries.length < 12 →
          t.ptb.entries = s.ptb.entries ++ [x] ∧ t.status .tableFull = false)
      ∧ ((∀ e ∈ s.ptb.entries, e.address ≠ src) → 12 ≤ s.ptb.entries.length →
          t.ptb.entries = s.ptb.entries ∧ t.status .tableFull = true)
      ∧ t.ptb.demand = s.ptb.demand ∧ t.ptb.demandTimer = s.ptb.demandTimer
      ∧ (∀ y, y ≠ .tableFull → t.status y = s.status y)
      ∧ KeptBut s t [.ptb, .stu, .sli] ∧ PromptAtMost { s.sli with line := .waitIdle 0 } t.sli

/-- The two expiries of an age timer (R33), in SYNC, ACTIVE and WITHDRAWN: a FRESH entry whose timer has reached 60 ms
becomes STALE, a STALE one whose timer has reached 200 ms becomes LOST with its age held at 200 ms; every other entry, and
every other field, is as before. -/
def Obligations.AgeExpiriesMoveFreshness : Prop :=
  ∀ (s : State) (a : Address), s.serves = true → ∀ c : Instr, c = .ageTimerStale a ∨ c = .ageTimerLost a →
    ∃ t, exec c s = .next t ∧ KeptBut s t [.ptb] ∧ t.ptb.demand = s.ptb.demand ∧ t.ptb.demandTimer = s.ptb.demandTimer
      ∧ t.ptb.entries.length = s.ptb.entries.length
      ∧ ∀ (i : Nat) (e : PeerEntry), s.ptb.entries[i]? = some e → ∃ e' : PeerEntry, t.ptb.entries[i]? = some e'
        ∧ (c = .ageTimerStale a → e.address = a ∧ e.freshness = .fresh ∧ e.ageTimer.running = true ∧ 60 ≤ e.ageTimer.elapsed →
            e' = { e with freshness := .stale })
        ∧ (c = .ageTimerLost a → e.address = a ∧ e.freshness = .stale ∧ e.ageTimer.running = true
            ∧ 200 ≤ e.ageTimer.elapsed → e' = { e with freshness := .lost, ageTimer := ⟨false, 200⟩ })
        ∧ (e.address ≠ a → e' = e)
        ∧ (c = .ageTimerStale a → e.freshness ≠ .fresh ∨ e.ageTimer.elapsed < 60 → e' = e)
        ∧ (c = .ageTimerLost a → e.freshness ≠ .stale ∨ e.ageTimer.elapsed < 200 → e' = e)

/-- The onset of DEMAND_LOST at the demand timer's 50 ms (R41): the status is live, the timer stands at 50 ms, the stored
fields keep their values, the shutdown hold is cancelled; in the AXLE role the share record is that of a zero demand (R20)
and the drive ramp enters DOWN with its limit kept (R65). -/
def Obligations.DemandLossIsRaised : Prop :=
  ∀ (s : State) (e : Nat), Settled s → s.serves = true → s.ptb.demandTimer = ⟨true, e⟩ → 50 ≤ e →
    ∃ t, exec .demandTimerExpiry s = .next t ∧ t.status .demandLost = true ∧ t.ptb.demandTimer = ⟨false, 50⟩
      ∧ t.ptb.demand = s.ptb.demand ∧ t.ptb.entries = s.ptb.entries
      ∧ t.nsq = { s.nsq with hold := ⟨false, 0⟩, holdMet := false }
      ∧ (s.role = some .axle → t.she = ⟨0, 0, 0, false, false⟩ ∧ t.blu = { s.blu with ramp := .down }
          ∧ t.status .shortBrake = s.blu.clampBinds)
      ∧ (s.role ≠ some .axle → t.she = s.she ∧ t.blu = s.blu ∧ t.status .shortBrake = s.status .shortBrake)
      ∧ (∀ y, y ≠ .demandLost → y ≠ .shortBrake → t.status y = s.status y)
      ∧ KeptBut s t [.nsq, .ptb, .stu, .she, .blu, .sli] ∧ PromptAtMost s.sli t.sli

/-- The receive error count and LINK_NOISY (R144, R147): a bad or malformed frame adds 1 up to 65,535 and captures
LINK_NOISY where it brings the count to 20; the window timer's expiry sets the count to 0. A frame reaches its end only
where the receiver was in IDLE at its start bit or follows it in RECEIVE (R142): while the receiver is stopped, in
WAIT_IDLE, or follows the node's own attempt, the end of another frame cannot occur, and the model's command for it changes
nothing (log entries 2 and 3). -/
def Obligations.BadFramesAreCounted : Prop :=
  ∀ s : State, Settled s →
    (s.receives = true → ∃ t, exec .badFrame s = .next t ∧ t.sli.rxErrors = min (s.sli.rxErrors + 1) 65535
        ∧ (s.sli.rxErrors = 19 → t.status .linkNoisy = true)
        ∧ (s.sli.rxErrors ≠ 19 → t.status .linkNoisy = s.status .linkNoisy)
        ∧ (∀ y, y ≠ .linkNoisy → t.status y = s.status y) ∧ KeptBut s t [.stu, .sli]
        ∧ PromptAtMost { s.sli with line := .waitIdle 0, rxErrors := min (s.sli.rxErrors + 1) 65535 } t.sli)
    ∧ (s.sli.window.running = true → 1000 ≤ s.sli.window.elapsed → ∃ t, exec .windowTimerExpiry s = .next t
        ∧ t.sli = { s.sli with rxErrors := 0, window := ⟨true, 0⟩ } ∧ KeptBut s t [.sli])
    ∧ (s.receives = true ↔ (s.sli.line = .idle ∨ s.sli.line = .receive) ∧ s.attempting = false)
    ∧ (s.receives = false → exec .badFrame s = .next s
        ∧ ∀ (src : Address) (words : List Word), exec (.demandArrival src words) s = .next s
          ∧ exec (.stateArrival src words) s = .next s ∧ exec (.svcReplyArrival src words) s = .next s
          ∧ ∀ (c : Instr) (target : Address) (code : Nat), serviceOf c = some (src, target, code, words) → exec c s = .next s)

/-- CLASH (R146): latched at the arrival of a good frame whose source address is the node's own, be it a reply, a STATE, a
service request or a DEMAND that R39 lets the node ignore or that is not handed inward; an ACTIVE node meets it by WITHDRAWN
(R136, R137), and no entry is made from it (R27), no request is taken and no demand stored (R145); a reply from another
station is handed to no block (R145). -/
def Obligations.OwnAddressLatchesClash : Prop :=
  ∀ (s : State) (src : Address) (words : List Word) (c : Instr), Settled s → s.receives = true → s.mpt.ringSeq < seqMax →
    (c = .svcReplyArrival src words ∧ 1 ≤ words.length ∧ words.length ≤ 6
      ∨ c = .stateArrival src words ∧ stateFits words = true ∧ src = s.ownAddress
      ∨ (∃ target code, serviceOf c = some (src, target, code, words)) ∧ words.length ≤ 5 ∧ src = s.ownAddress
        ∧ (s.serves = false ∨ src ≠ 15)
      ∨ c = .demandArrival src words ∧ words.length ≤ 6 ∧ src = s.ownAddress
        ∧ (¬ (src = 0 ∧ words.length = 4) ∨ s.serves = false ∧ s.nsq.op ≠ .standby)) →
    ∃ t, exec c s = .next t ∧ t.ptb = s.ptb ∧ t.she = s.she ∧ t.stp.held0 = s.stp.held0 ∧ t.stp.held1 = s.stp.held1
      ∧ t.mpt.eeprom = s.mpt.eeprom ∧ t.mpt.copy = s.mpt.copy ∧ t.wau = s.wau
      ∧ (∀ y, y ≠ .clash → t.status y = s.status y)
      ∧ (src = s.ownAddress → t.status .clash = true
          ∧ (s.nsq.op = .active → t.nsq.op = .withdrawn ∧ t.pins.traction = false ∧ t.pins.ready = true)
          ∧ (s.nsq.op ≠ .active → t.nsq.op = s.nsq.op))
      ∧ (src ≠ s.ownAddress → t.status .clash = s.status .clash ∧ t.nsq.op = s.nsq.op ∧ KeptBut s t [.stu, .sli]
          ∧ PromptAtMost { s.sli with line := .waitIdle 0 } t.sli)

/-! ### Service requests -/

/-- Requests judged in the order of R182. A request that is not from the tool, is for another node, is a broadcast other
than IDENTIFY and CLEAR, or finds no reply place free has no effect; one that is refused changes nothing but its reply
place: UNSUPPORTED before REFUSED_MOVING, BAD_ITEM and BUSY. A part of READ_WEAR is read as log entry 13 says, and RESTART
and REBOOT find the node busy until the STANDBY flush has ended, after a cancelled hold too, as log entry 29 says. -/
def Obligations.RequestsAreJudgedInOrder : Prop :=
  ∀ (s : State) (c : Instr) (src target : Address) (code : Nat) (args : List Word), Settled s →
    serviceOf c = some (src, target, code, args) → args.length ≤ 5 → s.receives = true →
    (src ≠ s.ownAddress → s.serves = false ∨ src ≠ 15 ∨ (target ≠ s.ownAddress ∧ target ≠ 0)
        ∨ (target = 0 ∧ code ≠ 1 ∧ code ≠ 3) ∨ freePlace s.sli.replies = none →
      ∃ t, exec c s = .next t ∧ KeptBut s t [.stu, .sli] ∧ t.stu.set = s.stu.set
        ∧ PromptAtMost { s.sli with line := .waitIdle 0 } t.sli)
    ∧ ∀ n result, src = 15 → Reaches s target code n →
      (let item := ((wordAt args 0).extractLsb' 0 4).toNat
       let part := ((wordAt args 0).extractLsb' 8 8).toNat
       let bad := (code = 8 ∨ code = 9) ∧ (item = 0 ∨ s.wau.items.length < item) ∨ code = 8 ∧ 1 < part
         ∨ code = 10 ∧ 63 < (wordAt args 0).toNat ∨ code = 11 ∧ 62 < (wordAt args 0).toNat
       let moving := (code = 9 ∨ code = 11 ∨ code = 12 ∨ code = 13) ∧ s.given.parked = false
       let busy := (code = 10 ∨ code = 11) ∧ s.mpt.op ≠ .none ∨ code ≠ 1 ∧ code ≠ 2 ∧ s.nsq.pendingReset ≠ .none
         ∨ (code = 12 ∨ code = 13) ∧ s.waitsStandby = true
       let known := 1 ≤ code ∧ code ≤ 13
       ¬ known ∧ result = .unsupported ∨ known ∧ moving ∧ result = .refusedMoving
         ∨ known ∧ ¬ moving ∧ bad ∧ result = .badItem ∨ known ∧ ¬ moving ∧ ¬ bad ∧ busy ∧ result = .busy) →
      ∃ t, exec c s = .next t ∧ KeptBut s t [.stu, .sli] ∧ t.stu.set = s.stu.set
        ∧ ReplyJoined s t ⟨n, .queued, BitVec.ofNat 8 code, result, []⟩

/-- IDENTIFY and READ_WEAR answered at once with the data of Table 8.8-5, READ_WEAR for each item the role has and each
of the two parts (R127, R183). That item and part stand in READ_WEAR's word 1 where the argument word has them, and that the
bits to which the table gives no field are 0, are the model's choices (log entry 50). -/
def Obligations.IdentifyAndReadWearAnswerAtOnce : Prop :=
  ∀ (s : State) (target : Address) (args : List Word) (n : Nat) (role : Role), Settled s → args.length ≤ 5 →
    s.role = some role →
    (Reaches s target 1 n → ∃ t, exec (.identify 15 target args) s = .next t ∧ KeptBut s t [.stu, .sli]
        ∧ t.stu.set = s.stu.set
        ∧ ReplyJoined s t ⟨n, .queued, 1, .done, [0x0440, 0x0100,
            BitVec.ofNat 16 (role.code * 16384 + s.ownAddress.toNat * 1024 + s.nsq.cause.code * 128)]⟩)
    ∧ (Reaches s target 8 n → s.nsq.pendingReset = .none → ∀ (item part : Nat) (w : Word) (x : WearItem),
        args = [w] → w = BitVec.ofNat 16 (part * 256 + item) → 1 ≤ item → item < 16 → part ≤ 1 →
        s.wau.items[item - 1]? = some x →
        ∃ t, exec (.readWear 15 target args) s = .next t ∧ KeptBut s t [.stu, .sli] ∧ t.stu.set = s.stu.set
          ∧ ReplyJoined s t ⟨n, .queued, 8, .done, BitVec.ofNat 16 (item + part * 256 + x.state.code * 4096) ::
              (if part = 0 then [BitVec.ofNat 16 (x.acc / 65536), BitVec.ofNat 16 x.acc]
               else [imageWord s.mpt.copy (28 + 4 * item), imageWord s.mpt.copy (29 + 4 * item),
                 imageWord s.mpt.copy (30 + 4 * item), imageWord s.mpt.copy (31 + 4 * item)])⟩)

/-- READ_STATUS (R140, R183, Table 8.8-5): every status as held or carried, the role, the operating state, CLAMP, and the
role's own fields, the others 0; nothing is released. The slip kind bit in GRIP, where the machine has no kind, is free, and
the primary bit is 1 for the primary (both log entry 12). The bits to which the table gives no field are not stated (log
entry 50). -/
def Obligations.ReadStatusShowsTheNode : Prop :=
  ∀ (s : State) (target : Address) (args : List Word) (n : Nat) (role : Role), Settled s → args.length ≤ 5 →
    s.role = some role → Reaches s target 2 n →
    ∃ t w1 w2 w3 w4 w5, exec (.readStatus 15 target args) s = .next t ∧ KeptBut s t [.stu, .sli, .free]
      ∧ t.stu.set = s.stu.set ∧ ReplyJoined s t ⟨n, .queued, 2, .done, [w1, w2, w3, w4, w5]⟩
      ∧ (∀ x : Status, x.index < 16 →
          w1.getLsbD x.index = (s.status x || statusIn s.sli.state.carried x))
      ∧ (∀ x : Status, 16 ≤ x.index →
          w2.getLsbD (x.index - 16) = (s.status x || statusIn s.sli.state.carried x))
      ∧ (w3.extractLsb' 14 2).toNat = role.code ∧ (w3.extractLsb' 11 3).toNat = s.nsq.op.code
      ∧ w3.getLsbD 7 = s.she.clamp
      ∧ (role = .axle → (w3.extractLsb' 9 2).toNat = s.blu.slip.code ∧ (w3.extractLsb' 4 3).toNat = 0
          ∧ w3.getLsbD 3 = false ∧ (s.blu.slip.kind = some .braking → w3.getLsbD 8 = false)
          ∧ (s.blu.slip.kind = some .traction → w3.getLsbD 8 = true)
          ∧ w4 = BitVec.ofNat 16 s.blu.own.q ∧ w5 = BitVec.ofInt 16 s.blu.own.pAct)
      ∧ (role = .pack → (w3.extractLsb' 8 3).toNat = 0 ∧ (w3.extractLsb' 3 4).toNat = 0
          ∧ w4 = BitVec.ofNat 16 s.plu.own.soc ∧ w5 = BitVec.ofInt 16 s.plu.own.pAct)
      ∧ (role = .genset → (w3.extractLsb' 8 3).toNat = 0 ∧ (w3.extractLsb' 4 3).toNat = s.gsc.engine.code
          ∧ w3.getLsbD 3 = s.gsc.primary ∧ w4 = BitVec.ofNat 16 s.gsc.socMin ∧ w5 = BitVec.ofInt 16 s.gsc.ownPAct)

/-- An accepted CLEAR (R106, R132): every latched status clear but those whose standing condition of Table 7.2-1 holds,
the live and captured statuses and the force flags as before; an engine in FAULTED enters OFF with its start ring kept. The
operating state follows the withdrawing set. That a latched status which was clear is set where its standing condition holds
is log entry 20's. -/
def Obligations.ClearKeepsStandingConditions : Prop :=
  ∀ (s : State) (target : Address) (args : List Word) (n : Nat), Settled s → args.length ≤ 5 → Reaches s target 3 n →
    s.nsq.pendingReset = .none → s.mpt.ringSeq < seqMax →
    ∃ t, exec (.clear 15 target args) s = .next t
      ∧ t.status .clash = false ∧ t.status .memFault = false ∧ t.status .speedFault = false
      ∧ t.status .startFail = false ∧ t.status .stall = false ∧ t.status .strap = s.nsq.strapDiffers
      ∧ t.status .cfgDefault = s.mpt.copyDefault ∧ t.status .cfgCorrupt = s.mpt.recheckBad
      ∧ (t.status .stageLost = true ↔ 5 ≤ s.stp.fail0 ∨ 5 ≤ s.stp.fail1)
      ∧ (t.status .wearDue = true ↔ ∃ x ∈ s.wau.items, x.state = .due)
      ∧ (∀ y ∈ [Status.wearBlank, .partnerFault, .plausU, .plausSpeed, .demandLost, .linkQuiet, .linkNoisy, .tableFull,
            .shortBrake, .derate, .stageHot, .wearNear, .forcedFault, .forcedWarn], t.status y = s.status y)
      ∧ t.stu.forceFault = s.stu.forceFault ∧ t.stu.forceWarn = s.stu.forceWarn
      ∧ (s.nsq.op = .sync → t.nsq.op = .sync)
      ∧ (s.nsq.op ≠ .sync → t.nsq.op = if t.withdraws then .withdrawn else .active)
      ∧ (s.role = some .genset → s.gsc.engine = .faulted →
          t.gsc.engine = .off ∧ t.gsc.failures = 0 ∧ t.gsc.off = ⟨true, 0⟩ ∧ t.gsc.dwell = 20)
      ∧ (s.gsc.engine ≠ .faulted → t.nsq.op = s.nsq.op → t.gsc = s.gsc) ∧ t.gsc.starts = s.gsc.starts
      ∧ t.sli.replies = s.sli.replies ++ [⟨n, .queued, 3, .done, []⟩]
      ∧ t.ptb = s.ptb ∧ t.she = s.she ∧ t.wau = s.wau ∧ t.mpt.eeprom = s.mpt.eeprom

/-- The four force requests (R133): the flag and its status are set or cleared together, whatever they were, every other
status is as before, no operating state changes, and the answer is DONE. -/
def Obligations.ForceFlagsDriveTheirStatuses : Prop :=
  ∀ (s : State) (target : Address) (args : List Word) (n : Nat), Settled s → args.length ≤ 5 →
    s.nsq.pendingReset = .none → ∀ b : Bool,
    (∀ (c : Instr) (code : Nat), (c = .forceFault 15 target args ∧ b = true ∧ code = 4 ∨ c = .releaseFault 15 target args ∧ b = false ∧ code = 5) →
      Reaches s target code n → ∃ t, exec c s = .next t ∧ t.stu.forceFault = b ∧ t.stu.forceWarn = s.stu.forceWarn
        ∧ t.status .forcedFault = b ∧ (∀ y, y ≠ .forcedFault → t.status y = s.status y)
        ∧ KeptBut s t [.stu, .sli] ∧ ReplyJoined s t ⟨n, .queued, BitVec.ofNat 8 code, .done, []⟩)
    ∧ (∀ (c : Instr) (code : Nat), (c = .forceWarn 15 target args ∧ b = true ∧ code = 6 ∨ c = .releaseWarn 15 target args ∧ b = false ∧ code = 7) →
      Reaches s target code n → ∃ t, exec c s = .next t ∧ t.stu.forceWarn = b ∧ t.stu.forceFault = s.stu.forceFault
        ∧ t.status .forcedWarn = b ∧ (∀ y, y ≠ .forcedWarn → t.status y = s.status y)
        ∧ KeptBut s t [.stu, .sli] ∧ ReplyJoined s t ⟨n, .queued, BitVec.ofNat 8 code, .done, []⟩)

/-- An accepted WEAR_RESET (R125, R167): the item's accumulator and residue 0 and its state OK (where its near threshold is 0
too, as R125 step 3 says: log entry 46), the others untouched, the arming and hot flags kept; WEAR_NEAR follows and WEAR_DUE stays; q at a reset of A1 and d_w at a reset of S1 are 100 and are
otherwise held (R123, R124); at a reset of S1 the pack's limits and DERATE are formed again at once from the held record and
the new d_w (R72 to R79, a corrupted copy's tests in the order of log entry 36), and at no other; a flush whose snapshot is taken after the item was emptied is started, or set pending, and the reply waits for it (what its reserved place holds
until then is log entry 45's). -/
def Obligations.WearResetEmptiesItsItem : Prop :=
  ∀ (s : State) (target : Address) (w : Word) (item n : Nat), Settled s → Reaches s target 9 n →
    s.nsq.pendingReset = .none → s.given.parked = true → s.mpt.ringSeq < seqMax →
    item = (w.extractLsb' 0 4).toNat → 1 ≤ item → item ≤ s.wau.items.length →
    ∃ t, exec (.wearReset 15 target [w]) s = .next t
      ∧ t.wau.items.length = s.wau.items.length ∧ t.wau.items[item - 1]? = some ⟨0, 0, .ok⟩
      ∧ (∀ j, j ≠ item - 1 → t.wau.items[j]? = s.wau.items[j]?)
      ∧ t.wau.armA4 = s.wau.armA4 ∧ t.wau.armS3 = s.wau.armS3 ∧ t.wau.hot = s.wau.hot
      ∧ (s.role = some .genset → item = 2 → t.wau.runSeconds = 0)
      ∧ (s.role ≠ some .genset ∨ item ≠ 2 → t.wau.runSeconds = s.wau.runSeconds)
      ∧ (s.role = some .axle → item = 1 → t.wau.q = 100 ∧ t.blu.own.q = 100)
      ∧ (s.role = some .pack → item = 1 → t.wau.dw = 100)
      ∧ (s.role ≠ some .axle ∨ item ≠ 1 → t.wau.q = s.wau.q ∧ t.blu = s.blu)
      ∧ (s.role ≠ some .pack ∨ item ≠ 1 → t.wau.dw = s.wau.dw ∧ t.plu = s.plu ∧ t.status .derate = s.status .derate)
      ∧ (s.role = some .pack → item = 1 →
          (s.stp.held1 = none → t.plu.poF = 0 ∧ t.plu.paF = 0 ∧ t.plu.own.po = 0 ∧ t.plu.own.pa = 0)
          ∧ (∀ nib u soc tp ic id ip fault, s.stp.held1 = some ⟨nib, .monitor u soc tp ic id ip fault⟩ →
              let c := s.mpt.copy
              t.plu.pd0 = u * id / 1000 ∧ t.plu.poF = min t.plu.pd0 1000 ∧ t.plu.pa0 = u * ic / 1000
              ∧ (socMax c ≤ soc → t.plu.pa1 = 0)
              ∧ (soc < socMax c → socTaper c ≤ soc →
                  t.plu.pa1 = t.plu.pa0 * (socMax c - soc) / (socMax c - socTaper c))
              ∧ (soc < socMax c → soc < socTaper c → t.plu.pa1 = t.plu.pa0)
              ∧ (tp < -10 → t.plu.pa2 = 0) ∧ (-10 ≤ tp → tp < 0 → t.plu.pa2 = t.plu.pa1 / 2)
              ∧ (0 ≤ tp → t.plu.pa2 = t.plu.pa1) ∧ t.plu.paF = min t.plu.pa2 1000 ∧ t.plu.own.soc = soc
              ∧ (s.nsq.op = .active → fault = false → t.plu.own.po = t.plu.poF ∧ t.plu.own.pa = t.plu.paF)
              ∧ (s.nsq.op ≠ .active ∨ fault = true → t.plu.own.po = 0 ∧ t.plu.own.pa = 0)
              ∧ (t.status .derate = true ↔ t.plu.pa2 < t.plu.pa0)))
      ∧ (t.status .wearNear = true ↔ ∃ x ∈ t.wau.items, x.state ≠ .ok) ∧ t.status .wearDue = s.status .wearDue
      ∧ (∀ y, y ≠ .wearNear → y ≠ .derate → t.status y = s.status y)
      ∧ (s.mpt.op = .none → ∃ job, t.mpt.op = .flush job ∧ job.parties = [.wearReset n item]
          ∧ job.snapshot.accs = t.wau.items.map WearItem.acc)
      ∧ (s.mpt.op ≠ .none → t.mpt.op = s.mpt.op ∧ ∃ ps, t.mpt.pendingFlush = some ps ∧ .wearReset n item ∈ ps)
      ∧ t.mpt.eeprom = s.mpt.eeprom ∧ KeptBut s t [.wau, .stu, .sli, .mpt, .blu, .plu]
      ∧ ReplyJoined s t ⟨n, .reserved, 9, .done, []⟩

/-- The requests whose end comes later (R173, R182 to R184): CONFIG_READ and CONFIG_WRITE start their operation with the
reply place reserved (its content until then is log entry 45's), CONFIG_WRITE the polling of its writes too (log entry 49), RESTART and REBOOT become pending with their DONE reply queued and the 100 ms limit started. -/
def Obligations.LongRequestsAreStarted : Prop :=
  ∀ (s : State) (target : Address) (n : Nat) (w m v : Word) (args : List Word), Settled s → s.nsq.pendingReset = .none →
    args.length ≤ 5 →
    (Reaches s target 10 n → s.mpt.op = .none → w.toNat ≤ 63 →
      ∃ t, exec (.configRead 15 target [w]) s = .next t ∧ t.mpt = { s.mpt with op := .configRead (some n) w.toNat }
        ∧ KeptBut s t [.stu, .sli, .mpt] ∧ t.stu.set = s.stu.set ∧ ReplyJoined s t ⟨n, .reserved, 10, .done, []⟩)
    ∧ (Reaches s target 11 n → s.mpt.op = .none → s.given.parked = true → w.toNat ≤ 62 →
      ∃ t, exec (.configWrite 15 target [w, m, v]) s = .next t
        ∧ t.mpt = { s.mpt with op := .configWrite (some n) w.toNat m v, poll := ⟨true, 0⟩ }
        ∧ KeptBut s t [.stu, .sli, .mpt] ∧ t.stu.set = s.stu.set ∧ ReplyJoined s t ⟨n, .reserved, 11, .done, []⟩)
    ∧ (Reaches s target 12 n → s.given.parked = true → s.waitsStandby = false →
      ∃ t, exec (.restart 15 target args) s = .next t
        ∧ t.nsq = { s.nsq with pendingReset := .restart, limit := ⟨true, 0⟩ }
        ∧ KeptBut s t [.stu, .sli, .nsq] ∧ t.stu.set = s.stu.set ∧ ReplyJoined s t ⟨n, .queued, 12, .done, []⟩)
    ∧ (Reaches s target 13 n → s.given.parked = true → s.waitsStandby = false →
      ∃ t, exec (.reboot 15 target args) s = .next t
        ∧ t.nsq = { s.nsq with pendingReset := .reboot, limit := ⟨true, 0⟩ }
        ∧ KeptBut s t [.stu, .sli, .nsq] ∧ t.stu.set = s.stu.set ∧ ReplyJoined s t ⟨n, .queued, 13, .done, []⟩)

/-- The ends of the EEPROM requests (R173): CONFIG_READ answers the word of the EEPROM image, or MEM_FAIL; CONFIG_WRITE
writes the masked word and a check word changed by the same bits, and answers the new word, or MEM_FAIL with MEM_FAULT as it
was; a failure between the two writes leaves the new word and the old check word; bytes outside the two words are as before.
A pending flush starts in the same event (R167). A RESTART that emptied the reply place leaves the operation its end (R174).
A write fails only once its acknowledge polling has lasted 20 ms (R172, R173); one timer from the start of the operation
stands for both writes' polling, and the command before the limit has no effect (the model's choices, log entries 49 and 2).
What the word reads whose own write was not acknowledged is not stated: it is free (log entry 8). -/
def Obligations.EepromRequestsEndWithTheirWords : Prop :=
  ∀ (s : State) (p : Straps) (place : Option Nat) (n : Nat), Settled s →
    (s.mpt.pendingFlush ≠ none → s.mpt.ringSeq < seqMax) →
    (∀ ack, s.mpt.op = .configRead place n → ∃ t, exec (.configReadComplete ack p) s = .next t
        ∧ (s.mpt.pendingFlush = none →
            t.mpt = { s.mpt with op := .none, poll := t.mpt.poll } ∧ t.mpt.poll.running = false)
        ∧ (∀ ps, s.mpt.pendingFlush = some ps → t.mpt = { s.mpt with
            op := .flush ⟨snapshotOf s.role s.wau.items, 1, (s.mpt.ringSlot + 1) % 8, s.mpt.ringSeq + 1, 1, ps⟩
            pendingFlush := none, poll := ⟨true, 0⟩, torn := t.mpt.torn })
        ∧ KeptBut s t [.pins, .stu, .sli, .mpt] ∧ t.stu.set = s.stu.set ∧ t.sli.state = s.sli.state
        ∧ t.sli.replies = s.sli.replies.map (fun r =>
            if place = some r.place then
              { r with
                condition := .queued
                result := if ack then .done else .memFail
                data := if ack then [BitVec.ofNat 16 n, eepromWord s.mpt.eeprom n] else [] }
            else r))
    ∧ (∀ m v outcome, s.mpt.op = .configWrite place n m v → outcome = .wordFailed ∨ outcome = .checkFailed →
        s.mpt.poll.running = false ∨ s.mpt.poll.elapsed < 20 → exec (.configWriteComplete outcome p) s = .next s)
    ∧ (∀ m v outcome, s.mpt.op = .configWrite place n m v → n ≤ 62 → s.mpt.eeprom.wf = true →
        (outcome = .wordFailed ∨ outcome = .checkFailed → s.mpt.poll.running = true ∧ 20 ≤ s.mpt.poll.elapsed) →
        ∃ t, exec (.configWriteComplete outcome p) s = .next t ∧ t.mpt.copy = s.mpt.copy
          ∧ t.mpt.ringSlot = s.mpt.ringSlot ∧ t.mpt.ringSeq = s.mpt.ringSeq ∧ t.mpt.pendingFlush = none
          ∧ (s.mpt.pendingFlush = none → t.mpt.op = .none ∧ t.mpt.poll.running = false)
          ∧ (∀ ps, s.mpt.pendingFlush = some ps → t.mpt.poll = ⟨true, 0⟩ ∧ t.mpt.op = .flush
              ⟨snapshotOf s.role s.wau.items, 1, (s.mpt.ringSlot + 1) % 8, s.mpt.ringSeq + 1, 1, ps⟩)
          ∧ KeptBut s t [.pins, .stu, .sli, .mpt, .free] ∧ t.stu.set = s.stu.set ∧ t.sli.state = s.sli.state
          ∧ t.sli.replies = s.sli.replies.map (fun r =>
              if place = some r.place then
                { r with
                  condition := .queued
                  result := if outcome = .stored then .done else .memFail
                  data := if outcome = .stored then
                      [BitVec.ofNat 16 n, (eepromWord s.mpt.eeprom n &&& ~~~m) ||| (v &&& m)] else [] }
              else r)
          ∧ (outcome = .stored →
              eepromWord t.mpt.eeprom n = (eepromWord s.mpt.eeprom n &&& ~~~m) ||| (v &&& m)
              ∧ eepromWord t.mpt.eeprom 63
                = eepromWord s.mpt.eeprom 63 ^^^ eepromWord s.mpt.eeprom n ^^^ eepromWord t.mpt.eeprom n)
          ∧ (outcome = .readFailed → t.mpt.eeprom = s.mpt.eeprom)
          ∧ (outcome = .wordFailed → eepromWord t.mpt.eeprom 63 = eepromWord s.mpt.eeprom 63)
          ∧ (outcome = .checkFailed →
              eepromWord t.mpt.eeprom n = (eepromWord s.mpt.eeprom n &&& ~~~m) ||| (v &&& m)
              ∧ eepromWord t.mpt.eeprom 63 = eepromWord s.mpt.eeprom 63)
          ∧ ∀ a, a ≠ 2 * n → a ≠ 2 * n + 1 → a ≠ 126 → a ≠ 127 →
              Memory.read t.mpt.eeprom a = Memory.read s.mpt.eeprom a)

/-- RESTART and REBOOT proceed at the end of their DONE reply or at the reply limit, whichever comes first (R184): a
RESTART is taken at once, into SYNC with the sample, the running copy, the ring position and the wear accounts kept, every
record at the values of the reset tables (R37, R38, R69, R85, R109, R155, R166) and the timers of SYNC started, the
partners in reset and the Memory Port's operation running on, its polling with it, without its parties (R126, R141, R165,
R174, R175); a REBOOT requests a flush and waits on it. -/
def Obligations.ResetsProceedAfterTheirReply : Prop :=
  ∀ (s : State) (p : Straps) (c : Instr) (r : ReplyPlace), Settled s →
    (c = .attemptComplete p ∧ replyInFlight s.sli.replies = some r ∧ r.result = .done
        ∧ (s.nsq.pendingReset = .restart ∧ r.code = 12 ∨ s.nsq.pendingReset = .reboot ∧ r.code = 13)
      ∨ c = .replyLimitExpiry p ∧ s.nsq.limit.running = true ∧ 100 ≤ s.nsq.limit.elapsed) →
    (s.nsq.pendingReset = .restart → ∃ t, exec c s = .next t
        ∧ t.nsq.op = .sync ∧ t.nsq.cause = .restart ∧ t.nsq.sample = s.nsq.sample ∧ t.nsq.pendingReset = .none
        ∧ t.nsq.strapDiffers = s.nsq.strapDiffers ∧ t.pins.partnerReset = true ∧ t.pins.ready = false
        ∧ t.pins.traction = false ∧ t.stp.release = ⟨true, 0⟩ ∧ t.stp.exchange.running = false
        ∧ t.stp.settle = .stopped ∧ ResetRecords t ∧ SyncTimersStarted t
        ∧ t.mpt.copy = s.mpt.copy ∧ t.mpt.ringSlot = s.mpt.ringSlot ∧ t.mpt.ringSeq = s.mpt.ringSeq
        ∧ t.mpt.eeprom = s.mpt.eeprom ∧ (∀ job, s.mpt.op = .flush job → t.mpt.op = .flush { job with parties := [] })
        ∧ (∀ place n m v, s.mpt.op = .configWrite place n m v → t.mpt.op = .configWrite none n m v)
        ∧ t.mpt.poll = s.mpt.poll
        ∧ t.wau.items.map WearItem.acc = s.wau.items.map WearItem.acc
        ∧ t.wau.items.map WearItem.residue = s.wau.items.map WearItem.residue ∧ t.wau.runSeconds = s.wau.runSeconds
        ∧ t.wau.armA4 = false ∧ t.wau.armS3 = false ∧ t.wau.hot = false
        ∧ (∀ y ∈ [Status.cfgDefault, .cfgCorrupt, .memFault], t.status y = s.status y)
        ∧ (∀ y, y ∉ [Status.cfgDefault, .cfgCorrupt, .memFault, .wearNear, .wearDue] → t.status y = false))
    ∧ (s.nsq.pendingReset = .reboot → s.mpt.ringSeq < seqMax → ∃ t, exec c s = .next t
        ∧ t.nsq = { s.nsq with pendingReset := .rebootFlush, limit := ⟨false, 0⟩ }
        ∧ (s.mpt.op = .none → ∃ job, t.mpt.op = .flush job ∧ job.parties = [.reboot]
            ∧ job.snapshot.accs = s.wau.items.map WearItem.acc)
        ∧ (s.mpt.op ≠ .none → t.mpt.op = s.mpt.op ∧ ∃ ps, t.mpt.pendingFlush = some ps ∧ .reboot ∈ ps)
        ∧ t.mpt.eeprom = s.mpt.eeprom ∧ t.stu.set = s.stu.set ∧ KeptBut s t [.nsq, .pins, .stu, .sli, .mpt])

/-! ### The node's own frames -/

/-- The head of the queue is attempted (R131, R135, R149, R151): the STATE frame where one is queued, filled from the
records as they stand, its F and W bits formed from the status set with the carried set, every captured status set joining
the carried set; else the queued reply whose place was reserved first. -/
def Obligations.TheHeadIsAttempted : Prop :=
  ∀ s : State, Settled s → s.sli.line = .idle → s.serves = true → s.sli.silent = false → s.attempting = false →
    (∀ role, s.role = some role → s.sli.state.condition = .queued →
      ∃ t f h, exec .attemptStart s = .next t ∧ t.sli.sending = some f ∧ f.source = s.ownAddress ∧ f.kind = 1
        ∧ f.urgency = BitVec.ofNat 3 s.sli.state.urgency
        ∧ (role = .axle → f.words = [h, BitVec.ofNat 16 s.blu.own.pd, BitVec.ofNat 16 s.blu.own.pr,
            BitVec.ofNat 16 s.blu.own.fb, BitVec.ofNat 16 s.blu.own.q, BitVec.ofInt 16 s.blu.own.pAct]
            ∧ h.getLsbD 8 = s.blu.own.slip ∧ (h.extractLsb' 6 2).toNat = 0)
        ∧ (role = .pack → f.words = [h, BitVec.ofNat 16 s.plu.own.po, BitVec.ofNat 16 s.plu.own.pa,
            BitVec.ofNat 16 s.plu.own.soc, BitVec.ofInt 16 s.plu.own.pAct] ∧ (h.extractLsb' 6 3).toNat = 0)
        ∧ (role = .genset → f.words = [h, BitVec.ofNat 16 s.gsc.ownPo, BitVec.ofNat 16 s.gsc.ownPa,
            BitVec.ofInt 16 s.gsc.ownPAct] ∧ (h.extractLsb' 6 3).toNat = s.gsc.engine.code)
        ∧ (h.extractLsb' 14 2).toNat = role.code ∧ (h.extractLsb' 11 3).toNat = s.nsq.op.code
        ∧ (h.extractLsb' 0 6).toNat = 0
        ∧ (h.getLsbD 10 = true ↔ s.nsq.op ≠ .active ∨ s.status .forcedFault = true
            ∨ ∃ x : Status, x.index < 22 ∧ (imageWord s.mpt.copy 2 ++ imageWord s.mpt.copy 3).getLsbD x.index = true
              ∧ (s.status x = true ∨ statusIn s.sli.state.carried x = true))
        ∧ (h.getLsbD 9 = true ↔ reportEn s.mpt.copy = true ∧ (s.status .forcedWarn = true
            ∨ ∃ x : Status, x.index < 22 ∧ (imageWord s.mpt.copy 4 ++ imageWord s.mpt.copy 5).getLsbD x.index = true
              ∧ (s.status x = true ∨ statusIn s.sli.state.carried x = true)))
        ∧ (∀ y ∈ [Status.wearBlank, .plausU, .plausSpeed, .linkNoisy], t.status y = false
            ∧ statusIn t.sli.state.carried y = (statusIn s.sli.state.carried y || s.status y))
        ∧ (∀ y, y ∉ [Status.wearBlank, .plausU, .plausSpeed, .linkNoisy] → t.status y = s.status y
            ∧ statusIn t.sli.state.carried y = statusIn s.sli.state.carried y)
        ∧ t.sli.state.condition = .inFlight ∧ t.sli.state.followOn = s.sli.state.followOn
        ∧ t.sli.state.urgency = s.sli.state.urgency ∧ t.sli.line = .receive ∧ t.sli.replies = s.sli.replies
        ∧ KeptBut s t [.stu, .sli])
    ∧ (∀ r, s.sli.state.condition ≠ .queued → s.sli.replies.find? (fun x => x.condition == .queued) = some r →
      ∃ t f, exec .attemptStart s = .next t ∧ t.sli.sending = some f ∧ f.source = s.ownAddress ∧ f.kind = 3
        ∧ f.urgency = 6 ∧ (∃ h, f.words = h :: r.data ∧ (h.extractLsb' 12 4).toNat = 0 ∧ h.extractLsb' 4 8 = r.code
          ∧ (h.extractLsb' 0 4).toNat = r.result.code)
        ∧ t.sli.replies = s.sli.replies.map (fun x => if x.place = r.place then { x with condition := .inFlight } else x)
        ∧ t.sli.state = s.sli.state ∧ t.sli.line = .receive ∧ KeptBut s t [.sli])
    ∧ (s.sli.state.condition ≠ .queued → (∀ r ∈ s.sli.replies, r.condition ≠ .queued) →
      exec .attemptStart s = .next s)

/-- A frame that loses arbitration or is abandoned is queued again with its carried set, at urgency 1 where a prompt STATE
was asked for meanwhile (R150, R152); a loss leaves the failure count, an abandoned attempt raises it, and the eighth brings
SILENT with LINK_QUIET live (R153, R154). -/
def Obligations.UnfinishedAttemptsAreQueuedAgain : Prop :=
  ∀ s : State, Settled s → s.attempting = true →
    let q : LineUnit := { s.sli with
      state := if s.sli.state.condition = .inFlight then
          { condition := .queued
            urgency := if s.sli.state.followOn then 1 else s.sli.state.urgency
            followOn := false
            carried := s.sli.state.carried }
        else s.sli.state
      replies := s.sli.replies.map fun r => if r.condition = .inFlight then { r with condition := .queued } else r
      sending := none }
    (∃ t, exec .arbitrationLost s = .next t ∧ t.sli = q ∧ KeptBut s t [.sli])
    ∧ (s.sli.failures < 7 → ∃ t, exec .attemptAbandoned s = .next t ∧ t.sli = { q with failures := s.sli.failures + 1 }
        ∧ t.stu.set = s.stu.set ∧ KeptBut s t [.stu, .sli])
    ∧ (7 ≤ s.sli.failures → ∃ t, exec .attemptAbandoned s = .next t ∧ t.status .linkQuiet = true
        ∧ PromptAtMost { q with failures := 8, silent := true, silence := ⟨true, 0⟩ } t.sli
        ∧ (∀ y, y ≠ .linkQuiet → t.status y = s.status y) ∧ KeptBut s t [.stu, .sli])

/-- A completed attempt (R131, R150, R153): the failure count 0, the STATE place empty with its carried set released, or
queued at urgency 1 where a follow-on was asked for, a reply's place empty. A reply other than the DONE reply of the pending
RESTART or REBOOT does not let it proceed (log entry 30). The urgency of the emptied STATE place is log entry 44's. -/
def Obligations.CompletedAttemptsReleaseTheirFrame : Prop :=
  ∀ (s : State) (p : Straps), Settled s → s.attempting = true →
    (∀ r, replyInFlight s.sli.replies = some r → r.result ≠ .done ∨ s.nsq.pendingReset = .none
      ∨ s.nsq.pendingReset = .rebootFlush ∨ (r.code ≠ 12 ∧ r.code ≠ 13)) →
    ∃ t, exec (.attemptComplete p) s = .next t
      ∧ PromptAtMost { s.sli with
          line := .waitIdle 0
          state := if s.sli.state.condition ≠ .inFlight then s.sli.state
            else if s.sli.state.followOn then ⟨.queued, 1, false, 0⟩ else ⟨.empty, s.sli.state.urgency, false, 0⟩
          replies := s.sli.replies.filter fun r => r.condition != .inFlight
          sending := none
          failures := 0 } t.sli
      ∧ t.pins = { s.pins with straps := p } ∧ t.stu.set = s.stu.set ∧ KeptBut s t [.pins, .stu, .sli]

/-- Six expiries and events that move one block alone: the STATE period (R150), the silence timer with LINK_QUIET (R154),
the settle timer (R161), the release of the partners 10 ms after a RESTART (R165), the receiver's eighth idle bit (R142) and
the run timer (R97). -/
def Obligations.ExpiriesMoveTheirOwnBlock : Prop :=
  ∀ s : State, Settled s →
    (s.sli.period.running = true → 20 ≤ s.sli.period.elapsed → ∃ t, exec .statePeriodExpiry s = .next t
        ∧ t.sli = { s.sli with
            period := ⟨true, 0⟩
            state := if s.sli.state.condition = .empty then { s.sli.state with condition := .queued, urgency := 2 }
              else s.sli.state }
        ∧ KeptBut s t [.sli])
    ∧ (s.sli.silence.running = true → 200 ≤ s.sli.silence.elapsed → ∃ t, exec .silenceTimerExpiry s = .next t
        ∧ PromptAtMost { s.sli with silent := false, silence := ⟨false, 0⟩, failures := 0 } t.sli
        ∧ t.status .linkQuiet = false ∧ (∀ y, y ≠ .linkQuiet → t.status y = s.status y) ∧ KeptBut s t [.stu, .sli])
    ∧ (∀ e, s.stp.settle = .running e → 100 ≤ e → ∃ t, exec .settleTimerExpiry s = .next t
        ∧ t.stp = { s.stp with settle := .expired } ∧ KeptBut s t [.stp])
    ∧ (s.stp.release.running = true → 10 ≤ s.stp.release.elapsed → s.serves = true →
        ∃ t, exec .partnerResetRelease s = .next t ∧ t.pins = { s.pins with partnerReset := false }
          ∧ t.stp = { s.stp with release := ⟨false, 0⟩, exchange := ⟨true, 0⟩, settle := .running 0 }
          ∧ KeptBut s t [.pins, .stp])
    ∧ (∀ n, s.sli.line = .waitIdle n → ∃ t, exec .receiverIdle s = .next t ∧ t.sli = { s.sli with line := .idle }
        ∧ KeptBut s t [.sli])
    ∧ (s.serves = true → s.role = some .genset → s.gsc.run.running = true → 60000 ≤ s.gsc.run.elapsed →
        ∃ t, exec .runTimerExpiry s = .next t
          ∧ t.gsc = { s.gsc with run := ⟨false, s.gsc.run.elapsed⟩, runMet := true } ∧ KeptBut s t [.gsc])

/-! ### The Stage Port -/

/-- An exchange start (R157, R158, R163): the partner whose turn it is, its nibble raised, its slot's content in the
outgoing bytes, the slot kept; an empty slot sends the empty record. With partner 0 the own link voltage is sampled, and a
level between whole volts is rounded toward zero (log entry 26). -/
def Obligations.ExchangesServeThePartnersInTurn : Prop :=
  ∀ (s : State) (sense : Sense), s.serves = true → s.pins.partnerReset = false → s.stp.inFlight = none →
    s.stp.exchange.running = true → 1 ≤ s.stp.exchange.elapsed →
    ∃ t x nibble slot, exec (.exchangeStart sense) s = .next t ∧ KeptBut s t [.stp] ∧ t.stp.inFlight = some x
      ∧ x.partner = s.stp.turn ∧ t.stp.turn ≠ s.stp.turn ∧ t.stp.exchange = ⟨true, 0⟩
      ∧ t.stp.slot0 = s.stp.slot0 ∧ t.stp.slot1 = s.stp.slot1 ∧ t.stp.held0 = s.stp.held0 ∧ t.stp.held1 = s.stp.held1
      ∧ (s.stp.turn = .p0 → nibble = s.stp.seq0 + 1 ∧ t.stp.seq0 = nibble ∧ t.stp.seq1 = s.stp.seq1 ∧ slot = s.stp.slot0
          ∧ (sense = .openInput → x.sample = .outOfRange)
          ∧ (∀ mv, sense = .millivolts mv → (2600 < mv → x.sample = .outOfRange)
              ∧ (2500 ≤ mv → mv ≤ 2600 → x.sample = .volts 1000)
              ∧ (mv ≤ 2500 → x.sample = .volts (mv * 1000 / 2500))))
      ∧ (s.stp.turn = .p1 → nibble = s.stp.seq1 + 1 ∧ t.stp.seq1 = nibble ∧ t.stp.seq0 = s.stp.seq0 ∧ slot = s.stp.slot1)
      ∧ x.out.length = 16 ∧ xorBytes x.out = 0 ∧ (byteAt x.out 0).extractLsb' 4 4 = nibble
      ∧ (byteAt x.out 0).getLsbD 0 = slot.isSome
      ∧ (slot = none → ∀ i, 1 ≤ i → i ≤ 14 → byteAt x.out i = 0)
      ∧ (∀ m : Int, slot = some (.torque m) → pairAt x.out 2 = BitVec.ofInt 16 m)
      ∧ (∀ m, slot = some (.pressure m) → pairAt x.out 2 = BitVec.ofNat 16 m)
      ∧ (∀ m, slot = some (.generator m) → pairAt x.out 2 = BitVec.ofNat 16 m)
      ∧ (∀ u d c, slot = some (.converter u d c) → pairAt x.out 2 = BitVec.ofNat 16 u
          ∧ pairAt x.out 4 = BitVec.ofNat 16 d ∧ pairAt x.out 6 = BitVec.ofNat 16 c)
      ∧ (∀ e, slot = some (.engine e) → (byteAt x.out 2).toNat = e.code)

/-- A record that fails (R159, R161, R162): its check, its ready bit or, where a record of its partner is held, a repeated
nibble. Both held records, the held speed and the rejection count stay, the partner's failure count rises by 1 up to 255 but
while the settle timer runs, the fifth latches STAGE_LOST, and no other Stage Port status changes. -/
def Obligations.FailedRecordsAreDiscarded : Prop :=
  ∀ (s : State) (p : Partner) (out record : List Byte) (sample : OwnReading) (role : Role), FaultLaw s →
    s.serves = true → s.role = some role → s.stp.inFlight = some ⟨p, out, sample⟩ →
    (xorBytes record ≠ 0 ∨ (byteAt record 0).getLsbD 0 = false
      ∨ (p = .p0 ∧ ∃ h, s.stp.held0 = some h ∧ h.nibble = (byteAt record 0).extractLsb' 4 4)
      ∨ (p = .p1 ∧ ∃ h, s.stp.held1 = some h ∧ h.nibble = (byteAt record 0).extractLsb' 4 4)) →
    ∃ t, exec (.exchangeCompletion record) s = .next t ∧ t.stp.held0 = s.stp.held0 ∧ t.stp.held1 = s.stp.held1
      ∧ t.stp.heldSpeed = s.stp.heldSpeed ∧ t.stp.rejections = s.stp.rejections
      ∧ (∀ y ∈ [Status.partnerFault, .plausU, .plausSpeed, .speedFault], t.status y = s.status y)
      ∧ (p = .p0 → t.stp.fail1 = s.stp.fail1 ∧ t.stp.own = sample
          ∧ (∀ e, s.stp.settle = .running e → t.stp.fail0 = s.stp.fail0 ∧ t.status .stageLost = s.status .stageLost)
          ∧ ((∀ e, s.stp.settle ≠ .running e) → t.stp.fail0 = min (s.stp.fail0 + 1) 255
              ∧ (s.stp.fail0 = 4 → t.status .stageLost = true)
              ∧ (s.stp.fail0 ≠ 4 → t.status .stageLost = s.status .stageLost)))
      ∧ (p = .p1 → t.stp.fail0 = s.stp.fail0 ∧ t.stp.own = s.stp.own
          ∧ (∀ e, s.stp.settle = .running e → t.stp.fail1 = s.stp.fail1 ∧ t.status .stageLost = s.status .stageLost)
          ∧ ((∀ e, s.stp.settle ≠ .running e) → t.stp.fail1 = min (s.stp.fail1 + 1) 255
              ∧ (s.stp.fail1 = 4 → t.status .stageLost = true)
              ∧ (s.stp.fail1 ≠ 4 → t.status .stageLost = s.status .stageLost)))

/-- A good record of partner 0 (R160, R162, R163, R164): it is held with every field in range, its failure count 0, the
own reading that of the exchange; PARTNER_FAULT follows it, PLAUS_U is captured at a difference above 25 V from U_link as
brought into range (the model's choice, log entry 47), and, but in the PACK role, the speed, brought into range first (the
model's choice, log entry 48), is accepted or rejected against the held one, the fifth consecutive rejection letting it through with
SPEED_FAULT. A good record of partner 1 (R160, R162, Table 9.9-2): it is held with every field of the role in range, the
pack's current limits as log entry 25 reads them, its failure count 0; PARTNER_FAULT follows the held records, the pack
monitor's in the PACK role alone; what belongs to partner 0 is kept. -/
def Obligations.GoodPartner0RecordsAreHeld : Prop :=
  ∀ (s : State) (out record : List Byte) (sample : OwnReading) (role : Role), s.serves = true → s.role = some role →
    xorBytes record = 0 → (byteAt record 0).getLsbD 0 = true →
    (s.stp.inFlight = some ⟨.p0, out, sample⟩ →
      (∀ h, s.stp.held0 = some h → h.nibble ≠ (byteAt record 0).extractLsb' 4 4) →
      let received := max (-12000) (min (pairAt record 5).toInt 12000)
      ∃ t h, exec (.exchangeCompletion record) s = .next t ∧ t.stp.held0 = some h ∧ t.stp.held1 = s.stp.held1
        ∧ t.stp.fail0 = 0 ∧ t.stp.fail1 = s.stp.fail1 ∧ t.stp.own = sample
        ∧ h.nibble = (byteAt record 0).extractLsb' 4 4 ∧ h.uLink = min (pairAt record 1).toNat 1000
        ∧ h.pAct = max (-1000) (min (pairAt record 7).toInt 1000) ∧ h.ts = max (-40) (min (byteAt record 9).toInt 150)
        ∧ (h.fault = true ↔ byteAt record 10 ≠ 0)
        ∧ (role ≠ .pack → t.status .partnerFault = h.fault)
        ∧ (role = .pack → (t.status .partnerFault = true ↔ h.fault = true
            ∨ ∃ nib u soc tp ic id ip, s.stp.held1 = some ⟨nib, .monitor u soc tp ic id ip true⟩))
        ∧ (∀ u, sample = .volts u → (u + 25 < h.uLink ∨ h.uLink + 25 < u) → t.status .plausU = true)
        ∧ ((∀ u, sample = .volts u → u ≤ h.uLink + 25 ∧ h.uLink ≤ u + 25) → t.status .plausU = s.status .plausU)
        ∧ (role = .pack → h.n = received ∧ t.status .plausSpeed = s.status .plausSpeed
            ∧ t.status .speedFault = s.status .speedFault)
        ∧ (role ≠ .pack → t.stp.heldSpeed = some h.n
            ∧ (s.stp.heldSpeed = none ∨ (∃ v, s.stp.heldSpeed = some v ∧ (received - v).natAbs ≤ 150) →
                h.n = received ∧ t.stp.rejections = 0 ∧ t.status .plausSpeed = s.status .plausSpeed
                  ∧ t.status .speedFault = s.status .speedFault)
            ∧ (∀ v, s.stp.heldSpeed = some v → 150 < (received - v).natAbs → s.stp.rejections < 4 →
                h.n = v ∧ t.stp.rejections = s.stp.rejections + 1 ∧ t.status .plausSpeed = true
                  ∧ t.status .speedFault = s.status .speedFault)
            ∧ (∀ v, s.stp.heldSpeed = some v → 150 < (received - v).natAbs → 4 ≤ s.stp.rejections →
                h.n = received ∧ t.stp.rejections = 0 ∧ t.status .plausSpeed = true ∧ t.status .speedFault = true)))
    ∧ (s.stp.inFlight = some ⟨.p1, out, sample⟩ →
      (∀ h, s.stp.held1 = some h → h.nibble ≠ (byteAt record 0).extractLsb' 4 4) →
      let word (i : Nat) : Nat := (pairAt record i).toNat
      let amps (i : Nat) : Nat := (max 0 (min (pairAt record i).toInt 2000)).toNat
      let degrees : Int := max (-40) (min (byteAt record 5).toInt 150)
      ∃ t h, exec (.exchangeCompletion record) s = .next t ∧ t.stp.held1 = some h ∧ t.stp.held0 = s.stp.held0
        ∧ t.stp.fail1 = 0 ∧ t.stp.fail0 = s.stp.fail0 ∧ t.stp.own = s.stp.own ∧ t.stp.heldSpeed = s.stp.heldSpeed
        ∧ t.stp.rejections = s.stp.rejections ∧ h.nibble = (byteAt record 0).extractLsb' 4 4
        ∧ (role = .axle → h.data = .modulator (min (word 1) 1000) (min (word 3) 1200) (min (word 5) 1200)
            (decide (byteAt record 7 ≠ 0)))
        ∧ (role = .pack → h.data = .monitor (min (word 1) 1000) (min (word 3) 1000) degrees (amps 7) (amps 9)
            (max (-20000) (min (pairAt record 11).toInt 20000)) (decide (byteAt record 13 ≠ 0)))
        ∧ (role = .genset → (byteAt record 1 = 1 → h.data = .controller .cranking degrees)
            ∧ (byteAt record 1 = 2 → h.data = .controller .running degrees)
            ∧ (byteAt record 1 ≠ 1 → byteAt record 1 ≠ 2 → h.data = .controller .stopped degrees))
        ∧ (t.status .partnerFault = true ↔ role = .pack ∧ byteAt record 13 ≠ 0
            ∨ ∃ h0, s.stp.held0 = some h0 ∧ h0.fault = true)
        ∧ (∀ y ∈ [Status.plausU, .plausSpeed, .speedFault, .stageLost], t.status y = s.status y))

/-- The final exchanges of STANDBY (R165): an exchange in flight at entry is discarded at its completion and the one with
partner 0 begins; at its end the one with partner 1 begins, and at that end PARTNER_RESET is asserted. Of the Stage Port
only the phase, the sequence nibble of the partner served and the exchange in flight change: no held record, no count, no
turn and no status does. -/
def Obligations.FinalExchangesEndInPartnerReset : Prop :=
  ∀ (s : State) (record : List Byte) (role : Role),
    (s.nsq.op = .standby → s.role = some role → s.stp.final = .awaiting → s.stp.inFlight ≠ none →
      ∃ t, exec (.exchangeCompletion record) s = .next t ∧ KeptBut s t [.stp]
        ∧ t.stp = { s.stp with
            final := .partner0, seq0 := s.stp.seq0 + 1
            inFlight := some ⟨.p0, recordOfSlot (s.stp.seq0 + 1) s.stp.slot0, .none⟩ })
    ∧ (s.stp.final = .partner0 → ∃ t, exec .finalExchangeEnd s = .next t ∧ KeptBut s t [.stp]
        ∧ t.stp = { s.stp with
            final := .partner1, seq1 := s.stp.seq1 + 1
            inFlight := some ⟨.p1, recordOfSlot (s.stp.seq1 + 1) s.stp.slot1, .none⟩ })
    ∧ (s.stp.final = .partner1 → ∃ t, exec .finalExchangeEnd s = .next t ∧ KeptBut s t [.pins, .stp]
        ∧ t.pins = { s.pins with partnerReset := true } ∧ t.stp = { s.stp with final := .ended, inFlight := none })

/-! ### The role blocks at a completion -/

/-- The own capability record of an AXLE node after a completion with either partner (R46 to R48, R137): formed from the
held records, the slip machine, L and q as the completion leaves them, and 0 for Pd and Pr in any state but ACTIVE. -/
def Obligations.AxleCapabilitiesFollowTheirInputs : Prop :=
  ∀ (s : State) (p : Partner) (out record : List Byte) (sample : OwnReading), s.serves = true → s.role = some .axle →
    s.stp.inFlight = some ⟨p, out, sample⟩ →
    ∃ t, exec (.exchangeCompletion record) s = .next t
      ∧ (let c := s.mpt.copy
         let n := match t.stp.held0 with
           | some h => h.n
           | none => 0
         let h := match t.stp.held0 with
           | some x => if x.ts ≤ 70 then 100 else if 90 ≤ x.ts then 0 else (100 * (90 - x.ts) / 20).toNat
           | none => 0
         let lim := tMax c * max n.natAbs 300 / 9549
         let pdu := min (pdRated c) lim * h / 100
         let pru := min (prRated c) lim * h / 100
         (t.nsq.op ≠ .active → t.blu.own.pd = 0 ∧ t.blu.own.pr = 0)
         ∧ (t.nsq.op = .active → t.blu.slip = .grip → t.blu.own.pd = pdu ∧ t.blu.own.pr = pru)
         ∧ (t.nsq.op = .active → t.blu.slip = .slip .braking → t.blu.own.pd = pdu ∧ t.blu.own.pr = 0)
         ∧ (t.nsq.op = .active → t.blu.slip = .slip .traction → t.blu.own.pd = 0 ∧ t.blu.own.pr = pru)
         ∧ (t.nsq.op = .active → t.blu.slip = .recover .braking →
             t.blu.own.pd = pdu ∧ t.blu.own.pr = min pru t.blu.limitL)
         ∧ (t.nsq.op = .active → t.blu.slip = .recover .traction →
             t.blu.own.pd = min pdu t.blu.limitL ∧ t.blu.own.pr = pru))
      ∧ (t.stp.held1 = none → t.blu.own.fb = 0)
      ∧ (∀ nib a l r, t.stp.held1 = some ⟨nib, .modulator a l r true⟩ → t.blu.own.fb = 0)
      ∧ (∀ nib a l r, t.stp.held1 = some ⟨nib, .modulator a l r false⟩ → t.blu.own.fb = fbCfg s.mpt.copy)
      ∧ t.blu.own.q = t.wau.q ∧ (t.blu.own.slip = true ↔ t.blu.slip ≠ .grip)
      ∧ (∀ x, t.stp.held0 = some x → t.blu.own.pAct = x.pAct) ∧ (t.stp.held0 = none → t.blu.own.pAct = 0)

/-- An AXLE completion with partner 0 (R49 to R53, R56, R113): the droop factors from the own reading while it is in range,
else from the held record; the effective shares from the share record, the ramp, the factors, the own capabilities of the
completion and the torque limit (R46, R47); the ramp's mode and M, from UP to NONE where the share no longer exceeds M (R65,
R66); the torque setpoint in partner 0's slot; DERATE, STAGE_HOT from the held record's temperature (R47), and SHORT_BRAKE
from the share record and the friction clamp (R22, R54); the regenerated energy. The capabilities are those of the operating state before
that completion's own withdrawal (log entry 10), drive is tested before regeneration (log entry 40) and the droop tests are
made in the order of R49 where a corrupted copy lets two hold (log entry 36). -/
def Obligations.AxlePartner0CompletionFormsTorque : Prop :=
  ∀ (s : State) (out record : List Byte) (sample : OwnReading), s.serves = true → s.role = some .axle →
    s.stp.inFlight = some ⟨.p0, out, sample⟩ →
    ∃ t v base, exec (.exchangeCompletion record) s = .next t
      ∧ (let c := s.mpt.copy
         let n := match t.stp.held0 with
           | some h => h.n
           | none => 0
         let nEff := max n.natAbs 300
         let lim := tMax c * nEff / 9549
         let own := axleRecord c s.nsq.op t.stp.held0 t.stp.held1 s.wau.q s.blu.slip s.blu.limitL
         (∀ u, sample = .volts u → v = u)
         ∧ ((∀ u, sample ≠ .volts u) → (∀ h, t.stp.held0 = some h → v = h.uLink) ∧ (t.stp.held0 = none → v = 0))
         ∧ (uDk c ≤ v → t.blu.gd = 100) ∧ (v < uDk c → v ≤ uDm c → t.blu.gd = 0)
         ∧ (v < uDk c → uDm c < v → t.blu.gd = 100 * (v - uDm c) / (uDk c - uDm c))
         ∧ (v ≤ uRk c → t.blu.gr = 100) ∧ (uRk c < v → uRm c ≤ v → t.blu.gr = 0)
         ∧ (uRk c < v → v < uRm c → t.blu.gr = 100 * (uRm c - v) / (uRm c - uRk c))
         ∧ (s.blu.ramp = .none → base = s.she.d ∧ t.blu.ramp = .none ∧ t.blu.limitM = s.she.d)
         ∧ (s.blu.ramp = .down → base = s.blu.limitM ∧ t.blu.ramp = .down ∧ t.blu.limitM = s.blu.limitM)
         ∧ (s.blu.ramp = .up → s.she.d ≤ s.blu.limitM → base = s.she.d ∧ t.blu.ramp = .none ∧ t.blu.limitM = s.she.d)
         ∧ (s.blu.ramp = .up → s.blu.limitM < s.she.d →
             base = s.blu.limitM ∧ t.blu.ramp = .up ∧ t.blu.limitM = s.blu.limitM)
         ∧ (s.blu.slip.slipping = true → t.blu.dE = 0 ∧ t.blu.rE = 0)
         ∧ (s.blu.slip.slipping = false → t.blu.dE = min (min (base * t.blu.gd / 100) own.pd) lim)
         ∧ (s.blu.slip.slipping = false → s.demandLost = false →
             t.blu.rE = min (min (s.she.r * t.blu.gr / 100) own.pr) lim)
         ∧ (s.demandLost = true → t.blu.rE = 0 ∧ t.blu.fE = 0)
         ∧ (s.demandLost = false → t.blu.fE = min (s.she.f + (s.she.r - t.blu.rE)) own.fb)
         ∧ t.stp.slot0 = some (.torque t.blu.torque) ∧ t.blu.torque.natAbs ≤ tMax c
         ∧ (0 < t.blu.dE → t.blu.torque = ((t.blu.dE * 9549 / nEff : Nat) : Int))
         ∧ (t.blu.dE = 0 → 0 < t.blu.rE → t.blu.torque = -((t.blu.rE * 9549 / nEff : Nat) : Int))
         ∧ (t.blu.dE = 0 → t.blu.rE = 0 → t.blu.torque = 0)
         ∧ (t.status .shortBrake = true ↔
             s.she.shortBrake = true ∨ s.demandLost = false ∧ own.fb < s.she.f + (s.she.r - t.blu.rE))
         ∧ (t.status .derate = true ↔ t.blu.gd < 100 ∨ t.blu.gr < 100)
         ∧ (t.status .stageHot = true ↔ ∃ h, t.stp.held0 = some h ∧ 70 < h.ts))
      ∧ (∀ h i0 i2 i3 x, t.stp.held0 = some h → s.wau.items = [i0, x, i2, i3] → x.acc + 1 < accMax → x.residue < 1800000 →
          h.pAct.natAbs ≤ 1000 →
          ∃ x' : WearItem, t.wau.items = [i0, x', i2, i3] ∧ x'.residue < 1800000
            ∧ x'.acc * 1800000 + x'.residue = x.acc * 1800000 + x.residue + (if h.pAct < 0 then h.pAct.natAbs else 0))
      ∧ t.blu.slip = s.blu.slip ∧ t.blu.pressure = s.blu.pressure ∧ t.stp.slot1 = s.stp.slot1 ∧ t.she = s.she
      ∧ t.ptb = s.ptb ∧ t.mpt.copy = s.mpt.copy ∧ t.mpt.eeprom = s.mpt.eeprom

/-- An AXLE completion with partner 1 (R51 to R53, R57 to R62, R65, R66, R112, R115): the effective drive and regeneration
from the share record, the held droop factors, the ramp, and the capabilities and the slip state that the completion leaves,
both 0 in SLIP; the capabilities are those of the operating state before that completion's own withdrawal (log entry 10).
Where no modulator record is held the slip machine and the wear table keep what they hold and the friction capability is 0
(R48, R60). Where one is held: the slip machine first, an entry taking the regeneration or the drive away in the same completion, counting an episode and asking for a prompt
STATE; then the effective friction, SHORT_BRAKE from the share record and the friction clamp (R22, R54) and the pressure
setpoint, rounded half up, in partner 1's slot; then the pad energy. -/
def Obligations.AxlePartner1CompletionFormsPressure : Prop :=
  ∀ (s : State) (out record : List Byte) (sample : OwnReading), s.serves = true → s.role = some .axle →
    s.stp.inFlight = some ⟨.p1, out, sample⟩ →
    ∃ t base, exec (.exchangeCompletion record) s = .next t
      ∧ (let c := s.mpt.copy
         let n := match t.stp.held0 with
           | some h => h.n
           | none => 0
         let lim := tMax c * max n.natAbs 300 / 9549
         let own := axleRecord c s.nsq.op t.stp.held0 t.stp.held1 s.wau.q t.blu.slip t.blu.limitL
         (s.blu.ramp = .none → base = s.she.d ∧ t.blu.ramp = .none ∧ t.blu.limitM = s.she.d)
         ∧ (s.blu.ramp = .down → base = s.blu.limitM ∧ t.blu.ramp = .down ∧ t.blu.limitM = s.blu.limitM)
         ∧ (s.blu.ramp = .up → s.she.d ≤ s.blu.limitM → base = s.she.d ∧ t.blu.ramp = .none ∧ t.blu.limitM = s.she.d)
         ∧ (s.blu.ramp = .up → s.blu.limitM < s.she.d →
             base = s.blu.limitM ∧ t.blu.ramp = .up ∧ t.blu.limitM = s.blu.limitM)
         ∧ (t.blu.slip.slipping = true → t.blu.dE = 0 ∧ t.blu.rE = 0)
         ∧ (t.blu.slip.slipping = false → t.blu.dE = min (min (base * s.blu.gd / 100) own.pd) lim)
         ∧ (t.blu.slip.slipping = false → s.demandLost = false →
             t.blu.rE = min (min (s.she.r * s.blu.gr / 100) own.pr) lim)
         ∧ (s.demandLost = true → t.blu.rE = 0))
      ∧ (t.stp.held1 = none →
          t.blu.slip = s.blu.slip ∧ t.blu.limitL = s.blu.limitL ∧ t.blu.slipHold = s.blu.slipHold ∧ t.wau = s.wau
          ∧ t.blu.fE = 0
          ∧ (t.status .shortBrake = true ↔ s.she.shortBrake = true
              ∨ s.demandLost = false ∧ 0 < s.she.f + (s.she.r - t.blu.rE))
          ∧ (s.demandLost = true → t.blu.pressure = 0)
          ∧ (s.demandLost = false → 1 ≤ brakeGain s.mpt.copy →
              t.blu.pressure = if s.given.hold = true ∧ s.given.v < 10 then pHold s.mpt.copy else 0)
          ∧ t.stp.slot1 = some (.pressure t.blu.pressure) ∧ t.stp.slot0 = s.stp.slot0 ∧ t.blu.torque = s.blu.torque
          ∧ t.blu.gd = s.blu.gd ∧ t.blu.gr = s.blu.gr ∧ t.she = s.she ∧ t.ptb = s.ptb ∧ t.mpt.eeprom = s.mpt.eeprom)
      ∧ ∀ nib pFb left right fault, t.stp.held1 = some ⟨nib, .modulator pFb left right fault⟩ →
        let c := s.mpt.copy
        let w := (left + right) / 2
        let d := s.given.d
        let v := s.given.v
        let braking := d < 0 ∧ 50 ≤ v ∧ w < v * 88 / 100
        let traction := 0 < d ∧ v * 112 / 100 + 20 < w
        let recovered := w ≤ v + (v * 4 / 100 + 10) ∧ v ≤ w + (v * 4 / 100 + 10)
        let divisor := max v 36 * brakeGain c
        (s.blu.slip.slipping = false → braking → t.blu.slip = .slip .braking)
        ∧ (s.blu.slip.slipping = false → traction → t.blu.slip = .slip .traction)
        ∧ (s.blu.slip.slipping = false → braking ∨ traction → t.blu.limitL = 0 ∧ t.blu.slipHold = ⟨false, 0⟩
            ∧ t.blu.dE = 0 ∧ t.blu.rE = 0 ∧ t.sli.state.condition ≠ .empty
            ∧ (t.sli.state.condition = .queued → t.sli.state.urgency = 1)
            ∧ (t.sli.state.condition = .inFlight → t.sli.state.followOn = true))
        ∧ (s.blu.slip.slipping = false → ¬ braking → ¬ traction → t.blu.slip = s.blu.slip ∧ t.blu.limitL = s.blu.limitL
            ∧ t.blu.slipHold = s.blu.slipHold)
        ∧ (s.blu.slip.slipping = true → t.blu.slip = s.blu.slip ∧ t.blu.dE = 0 ∧ t.blu.rE = 0
            ∧ (recovered → s.blu.slipHold.running = false → t.blu.slipHold = ⟨true, 0⟩)
            ∧ (recovered → s.blu.slipHold.running = true → t.blu.slipHold = s.blu.slipHold)
            ∧ (¬ recovered → t.blu.slipHold = ⟨false, 0⟩))
        ∧ (s.demandLost = true → t.blu.rE = 0 ∧ t.blu.fE = 0 ∧ t.blu.pressure = 0)
        ∧ (s.demandLost = false → t.blu.fE = min (s.she.f + (s.she.r - t.blu.rE)) (if fault then 0 else fbCfg c))
        ∧ (t.status .shortBrake = true ↔ s.she.shortBrake = true
            ∨ s.demandLost = false ∧ (if fault then 0 else fbCfg c) < s.she.f + (s.she.r - t.blu.rE))
        ∧ (s.demandLost = false → 1 ≤ brakeGain c →
            let raw := min ((t.blu.fE * 36000 + divisor / 2) / divisor) (pMax c)
            t.blu.pressure = if s.given.hold = true ∧ v < 10 then max raw (pHold c) else raw)
        ∧ t.stp.slot1 = some (.pressure t.blu.pressure) ∧ t.stp.slot0 = s.stp.slot0 ∧ t.blu.torque = s.blu.torque
        ∧ t.blu.gd = s.blu.gd ∧ t.blu.gr = s.blu.gr ∧ t.she = s.she ∧ t.ptb = s.ptb ∧ t.mpt.eeprom = s.mpt.eeprom
        ∧ (∀ x i1 a3 a4, s.wau.items = [x, i1, a3, a4] → x.acc + 27 < accMax → a3.acc < accMax → a4.acc < accMax →
            x.residue < 1000000 → pFb ≤ 1000 → brakeGain c ≤ 400 → v ≤ 1200 →
            ∃ x' a3' a4' : WearItem, t.wau.items = [x', i1, a3', a4'] ∧ x'.residue < 1000000
              ∧ x'.acc * 1000000 + x'.residue = x.acc * 1000000 + x.residue + pFb * brakeGain c * v / 18
              ∧ (s.blu.slip.slipping = false → braking ∨ traction → a3'.acc = a3.acc + 1)
              ∧ (s.blu.slip.slipping = true ∨ (¬ braking ∧ ¬ traction) → a3' = a3)
              ∧ (600 < pFb → s.wau.armA4 = true → a4'.acc = a4.acc + 1 ∧ t.wau.armA4 = false)
              ∧ (600 < pFb → s.wau.armA4 = false → a4' = a4 ∧ t.wau.armA4 = false)
              ∧ (pFb < 500 → a4' = a4 ∧ t.wau.armA4 = true)
              ∧ (500 ≤ pFb → pFb ≤ 600 → a4' = a4 ∧ t.wau.armA4 = s.wau.armA4)
              ∧ (1 ≤ dueOf c 1 → x'.acc ≠ x.acc → t.wau.q = max 20 (100 - 80 * x'.acc / dueOf c 1)))

/-- The law of R54: after every completion of an AXLE node, with either partner, the effective regen plus the effective
friction is the braking share, except while SHORT_BRAKE or DEMAND_LOST is live. -/
def Obligations.EffectiveBrakingIsTheBrakingShare : Prop :=
  ∀ (s : State) (x : Exchange) (record : List Byte), s.serves = true → s.role = some .axle → s.stp.inFlight = some x →
    FactorLaw s → ∃ t, exec (.exchangeCompletion record) s = .next t
      ∧ (t.status .shortBrake = false → t.status .demandLost = false → t.blu.rE + t.blu.fE = t.she.r + t.she.f)

/-- The PACK role's completions (R71 to R78, R80, R114, R117): with partner 1, wear first, then the delivery and acceptance
limits from the held record in the order of R72 to R75, advertised in ACTIVE without a pack fault alone, with DERATE; with
partner 0, the converter's setpoints from the advertised limits, and STAGE_HOT. S3 is armed below both 900 and SOC_max and
counts at SOC_max (R117). The converter's setpoints are those of the operating state before that completion's own withdrawal
(log entry 10), and the tests of R73 are made in its order where a corrupted copy lets two hold (log entry 36). -/
def Obligations.PackCompletionsFormTheLimits : Prop :=
  ∀ (s : State) (out record : List Byte) (sample : OwnReading), s.serves = true → s.role = some .pack →
    (s.stp.inFlight = some ⟨.p1, out, sample⟩ → ∃ t, exec (.exchangeCompletion record) s = .next t
      ∧ (t.stp.held1 = none → t.plu.poF = 0 ∧ t.plu.paF = 0 ∧ t.plu.own.po = 0 ∧ t.plu.own.pa = 0 ∧ t.plu.own.soc = 0
          ∧ t.wau = s.wau)
      ∧ (∀ nib u soc tp ic id ip fault, t.stp.held1 = some ⟨nib, .monitor u soc tp ic id ip fault⟩ →
          let c := s.mpt.copy
          t.plu.pd0 = u * id / 1000 ∧ t.plu.poF = min (t.plu.pd0 * t.wau.dw / 100) 1000 ∧ t.plu.pa0 = u * ic / 1000
          ∧ (socMax c ≤ soc → t.plu.pa1 = 0)
          ∧ (soc < socMax c → socTaper c ≤ soc →
              t.plu.pa1 = t.plu.pa0 * (socMax c - soc) / (socMax c - socTaper c))
          ∧ (soc < socMax c → soc < socTaper c → t.plu.pa1 = t.plu.pa0)
          ∧ (tp < -10 → t.plu.pa2 = 0) ∧ (-10 ≤ tp → tp < 0 → t.plu.pa2 = t.plu.pa1 / 2)
          ∧ (0 ≤ tp → t.plu.pa2 = t.plu.pa1) ∧ t.plu.paF = min (t.plu.pa2 * t.wau.dw / 100) 1000
          ∧ t.plu.own.soc = soc
          ∧ (t.nsq.op = .active → fault = false → t.plu.own.po = t.plu.poF ∧ t.plu.own.pa = t.plu.paF)
          ∧ (t.nsq.op ≠ .active ∨ fault = true → t.plu.own.po = 0 ∧ t.plu.own.pa = 0)
          ∧ (t.status .derate = true ↔ t.plu.pa2 < t.plu.pa0)
          ∧ (∀ x h f, s.wau.items = [x, h, f] → x.residue < 36000000 → ip.natAbs ≤ 20000 → x.acc + 1 < accMax →
              f.acc < accMax → ∃ x' f' : WearItem, t.wau.items = [x', h, f'] ∧ x'.residue < 36000000
                ∧ x'.acc * 36000000 + x'.residue = x.acc * 36000000 + x.residue
                  + (if ip < 0 then ip.natAbs * (if 35 < tp then 4 else if 10 ≤ tp then 2 else 3) else 0)
                ∧ (s.wau.armS3 = true → socMax c ≤ soc → f'.acc = f.acc + 1 ∧ t.wau.armS3 = false)
                ∧ (s.wau.armS3 = false ∨ soc < socMax c → f' = f)
                ∧ (1 ≤ dueOf c 1 → x'.acc ≠ x.acc → t.wau.dw = max 70 (100 - 30 * x'.acc / dueOf c 1)))
          ∧ (soc < 900 → soc < socMax c → t.wau.armS3 = true)
          ∧ (¬ (soc < 900 ∧ soc < socMax c) → (t.wau.armS3 = true ↔ s.wau.armS3 = true ∧ soc < socMax c))
          ∧ (45 < tp → t.wau.hot = true) ∧ (tp ≤ 45 → t.wau.hot = s.wau.hot))
      ∧ t.stp.slot0 = s.stp.slot0 ∧ t.stp.slot1 = s.stp.slot1 ∧ t.ptb = s.ptb ∧ t.mpt.eeprom = s.mpt.eeprom)
    ∧ (s.stp.inFlight = some ⟨.p0, out, sample⟩ → ∃ t iDis iChg, exec (.exchangeCompletion record) s = .next t
      ∧ t.stp.slot0 = some (.converter (uRef s.mpt.copy) iDis iChg)
      ∧ (let r := packReading s.stp.held1
         let po := if s.nsq.op = .active ∧ r.fault = false then s.plu.poF else 0
         let pa := if s.nsq.op = .active ∧ r.fault = false then s.plu.paF else 0
         (r.uPack = 0 → iDis = 0 ∧ iChg = 0)
         ∧ (r.uPack ≠ 0 → iDis = po * 1000 / r.uPack ∧ iChg = pa * 1000 / r.uPack))
      ∧ (∀ h, t.stp.held0 = some h → t.plu.own.pAct = h.pAct) ∧ t.plu.poF = s.plu.poF ∧ t.plu.paF = s.plu.paF
      ∧ (t.status .stageHot = true ↔ ∃ h, t.stp.held0 = some h ∧ 70 < h.ts)
      ∧ t.stp.held1 = s.stp.held1 ∧ t.wau = s.wau ∧ t.ptb = s.ptb)

/-- The GENSET role's completions (R91, R96, R97, R99, R101 to R104, R108): with partner 0 the generator setpoint, formed
before that completion's own withdrawal (log entry 10), and at an entry to WITHDRAWN the engine's cooldown or the abandoned
attempt; with partner 1, the engine's moves on the controller's report, a failed record being read as the last good one
(R96): a start that ends in
WARMING, warm coolant, an unexpected stop with STALL, an early stop in COOLDOWN without it, and the adoption of a running
engine without an attempt; where SHUTDOWN is given it acts before that test and before an adoption, and finds the engine in
OFF where one is pending (log entry 16), and the warm timer is stopped where it takes the engine into COOLDOWN (log entry
18); while no record has been heard, no command is written (R158, log entry 41). -/
def Obligations.GensetCompletionsFollowTheEngine : Prop :=
  ∀ (s : State) (out record : List Byte) (sample : OwnReading), s.serves = true → s.role = some .genset →
    (s.stp.inFlight = some ⟨.p0, out, sample⟩ → s.mpt.ringSeq < seqMax → ∃ t m, exec (.exchangeCompletion record) s = .next t
      ∧ t.stp.slot0 = some (.generator m)
      ∧ (let h := match t.stp.held0 with
           | some x => if x.ts ≤ 70 then 100 else if 90 ≤ x.ts then 0 else (100 * (90 - x.ts) / 20).toNat
           | none => 0
         (s.nsq.op = .active → s.gsc.engine = .warming → m = min s.gsc.pSet (poRated s.mpt.copy * min 30 h / 100))
         ∧ (s.nsq.op = .active → s.gsc.engine = .running → m = min s.gsc.pSet (poRated s.mpt.copy * h / 100)))
      ∧ (s.nsq.op ≠ .active ∨ s.gsc.engine ≠ .warming ∧ s.gsc.engine ≠ .running → m = 0)
      ∧ (t.status .stageHot = true ↔ ∃ h, t.stp.held0 = some h ∧ 70 < h.ts) ∧ t.wau = s.wau ∧ t.ptb = s.ptb
      ∧ (s.nsq.op = .active → t.nsq.op = .withdrawn → t.gsc.ownPo = 0 ∧ t.gsc.ownPa = 0
          ∧ (s.gsc.engine = .warming ∨ s.gsc.engine = .running → t.gsc.engine = .cooldown ∧ t.gsc.cooldown = ⟨true, 0⟩
              ∧ t.gsc.pSet = 0 ∧ t.gsc.command = .run ∧ t.stp.slot1 = some (.engine .run))
          ∧ (s.gsc.engine = .cranking → t.gsc.engine = .off ∧ t.gsc.crank = ⟨false, 0⟩ ∧ t.gsc.off = ⟨true, 0⟩
              ∧ t.gsc.dwell = 20 ∧ t.gsc.failures = s.gsc.failures ∧ t.stp.slot1 = some (.engine .stop))
          ∧ (s.gsc.engine = .off ∨ s.gsc.engine = .cooldown ∨ s.gsc.engine = .faulted →
              t.gsc.engine = s.gsc.engine ∧ t.stp.slot1 = s.stp.slot1)))
    ∧ (s.stp.inFlight = some ⟨.p1, out, sample⟩ → Settled s → FaultLaw s → s.mpt.ringSeq < seqMax →
        (s.given.shutdown = false ∨ s.gsc.adoption = true ∧ s.gsc.engine = .off) → ∀ runs warm : Bool,
        (recordFails (s.stp.held1.map Partner1.nibble) record = false ∧ runs = decide (byteAt record 1 = 2)
            ∧ warm = decide (50 ≤ (byteAt record 5).toInt)
          ∨ recordFails (s.stp.held1.map Partner1.nibble) record = true ∧ s.gsc.adoption = false
            ∧ (s.stp.fail1 ≠ 4 ∨ s.nsq.op ≠ .active) ∧ ∃ nib e coolant,
              s.stp.held1 = some ⟨nib, .controller e coolant⟩ ∧ runs = decide (e = .running) ∧ warm = decide (50 ≤ coolant)) →
        ∃ t, exec (.exchangeCompletion record) s = .next t ∧ t.nsq.op = s.nsq.op
          ∧ t.stp.slot1 = some (.engine t.gsc.command) ∧ t.gsc.starts = s.gsc.starts ∧ t.gsc.adoption = false
          ∧ t.wau = s.wau
          ∧ ((s.gsc.adoption = false → s.gsc.engine = .cranking → runs → t.gsc.engine = .warming ∧ t.gsc.crank = ⟨false, 0⟩
                ∧ t.gsc.failures = 0 ∧ t.gsc.warm = ⟨true, 0⟩ ∧ t.gsc.run = ⟨true, 0⟩ ∧ t.gsc.runMet = false
                ∧ t.gsc.command = .run)
             ∧ (s.gsc.adoption = false → s.gsc.engine = .cranking → ¬ runs → t.gsc = s.gsc)
             ∧ (s.gsc.adoption = false → s.gsc.engine = .warming → runs → warm →
                 t.gsc.engine = .running ∧ t.gsc.warm = ⟨false, 0⟩ ∧ t.gsc.pSet = s.gsc.pSet ∧ t.gsc.run = s.gsc.run)
             ∧ (s.gsc.adoption = false → s.gsc.engine = .warming → runs → ¬ warm → t.gsc = s.gsc)
             ∧ (s.gsc.adoption = false → s.gsc.engine = .running → runs → t.gsc = s.gsc)
             ∧ (s.gsc.adoption = false → s.gsc.engine = .warming ∨ s.gsc.engine = .running → ¬ runs →
                 t.gsc.engine = .off ∧ t.status .stall = true ∧ t.gsc.dwell = 20 ∧ t.gsc.off = ⟨true, 0⟩
                   ∧ t.gsc.run = ⟨false, 0⟩ ∧ t.gsc.runMet = false ∧ t.gsc.pSet = 0 ∧ t.gsc.command = .stop
                   ∧ t.gsc.ownPo = 0 ∧ t.gsc.ownPa = 0 ∧ t.gsc.failures = s.gsc.failures)
             ∧ (s.gsc.adoption = false → s.gsc.engine = .cooldown → ¬ runs → t.gsc.engine = .off ∧ t.gsc.dwell = 20
                 ∧ t.gsc.cooldown = ⟨false, 0⟩ ∧ t.status .stall = s.status .stall)
             ∧ (s.gsc.adoption = false → s.gsc.engine = .cooldown → runs → t.gsc = s.gsc)
             ∧ (s.gsc.adoption = false → s.gsc.engine = .off ∨ s.gsc.engine = .faulted →
                 t.gsc = s.gsc)
             ∧ (s.gsc.adoption = true → s.gsc.engine = .off → runs → s.nsq.op ≠ .withdrawn → t.gsc.runMet = true
                 ∧ t.gsc.command = .run ∧ (warm → t.gsc.engine = .running)
                 ∧ (¬ warm → t.gsc.engine = .warming ∧ t.gsc.warm = ⟨true, 0⟩ ∧ t.gsc.run = s.gsc.run))
             ∧ (s.gsc.adoption = true → s.gsc.engine = .off → runs → s.nsq.op = .withdrawn →
                 t.gsc.engine = .cooldown ∧ t.gsc.cooldown = ⟨true, 0⟩ ∧ t.gsc.runMet = true)
             ∧ (s.gsc.adoption = true → s.gsc.engine = .off → ¬ runs → t.gsc.engine = .off)))
    ∧ (s.stp.inFlight = some ⟨.p1, out, sample⟩ → Settled s → FaultLaw s → s.mpt.ringSeq < seqMax →
        s.given.shutdown = true → s.gsc.adoption = false → ∀ runs : Bool,
        (recordFails (s.stp.held1.map Partner1.nibble) record = false ∧ runs = decide (byteAt record 1 = 2)
          ∨ recordFails (s.stp.held1.map Partner1.nibble) record = true ∧ (s.stp.fail1 ≠ 4 ∨ s.nsq.op ≠ .active)
            ∧ ∃ nib e coolant, s.stp.held1 = some ⟨nib, .controller e coolant⟩ ∧ runs = decide (e = .running)) →
        ∃ t, exec (.exchangeCompletion record) s = .next t ∧ t.nsq.op = s.nsq.op
          ∧ t.stp.slot1 = some (.engine t.gsc.command) ∧ t.gsc.starts = s.gsc.starts ∧ t.wau = s.wau
          ∧ t.gsc.failures = s.gsc.failures ∧ t.status .stall = s.status .stall
          ∧ ((s.gsc.engine = .warming ∨ s.gsc.engine = .running → runs → t.gsc.engine = .cooldown
                ∧ t.gsc.cooldown = ⟨true, 0⟩ ∧ t.gsc.warm = ⟨false, 0⟩ ∧ t.gsc.pSet = 0 ∧ t.gsc.ownPo = 0
                ∧ t.gsc.ownPa = 0 ∧ t.gsc.command = .run)
             ∧ (s.gsc.engine = .warming ∨ s.gsc.engine = .running ∨ s.gsc.engine = .cooldown → ¬ runs →
                t.gsc.engine = .off ∧ t.gsc.dwell = 20 ∧ t.gsc.off = ⟨true, 0⟩ ∧ t.gsc.command = .stop)
             ∧ (s.gsc.engine = .cranking → t.gsc.engine = .off ∧ t.gsc.crank = ⟨false, 0⟩ ∧ t.gsc.off = ⟨true, 0⟩
                ∧ t.gsc.dwell = 20 ∧ t.gsc.command = .stop)
             ∧ (s.gsc.engine = .cooldown → runs → t.gsc = s.gsc)
             ∧ (s.gsc.engine = .off ∨ s.gsc.engine = .faulted → t.gsc = s.gsc)))
    ∧ (s.stp.inFlight = some ⟨.p1, out, sample⟩ → recordFails none record = true → s.stp.held1 = none →
        s.gsc.engine = .off → ∃ t, exec (.exchangeCompletion record) s = .next t ∧ t.stp.slot1 = s.stp.slot1
          ∧ t.stp.held1 = none ∧ t.gsc.engine = .off ∧ t.gsc.adoption = s.gsc.adoption ∧ t.gsc.off = s.gsc.off)

/-! ### The role blocks' timers -/

/-- The ramp timer, the slip hold timer and the minute timer (R62, R63, R65 to R67, R116): M falls by 2 in DOWN and rises by
4 in UP; in RECOVER L rises by 1 and at the affected unslipped capability the machine enters GRIP; the slip hold's 300 ms
bring RECOVER with L = 0; at the end of a minute S2 rises by 1 where the hot flag is set, its state, WEAR_DUE and WEAR_NEAR
follow (R120 to R122), and the flag is cleared. -/
def Obligations.RoleTimersMoveTheirLimits : Prop :=
  ∀ s : State, s.serves = true →
    (s.role = some .axle → s.blu.rampTimer.running = true → 10 ≤ s.blu.rampTimer.elapsed → ∃ t, exec .rampTimerExpiry s = .next t
      ∧ KeptBut s t [.blu] ∧ t.blu.rampTimer = ⟨true, 0⟩ ∧ t.blu.ramp = s.blu.ramp
      ∧ (s.blu.ramp = .down → t.blu.limitM = s.blu.limitM - 2)
      ∧ (s.blu.ramp = .up → t.blu.limitM = min 1000 (s.blu.limitM + 4))
      ∧ (s.blu.ramp = .none → t.blu.limitM = s.blu.limitM)
      ∧ (∀ k, s.blu.slip = .recover k →
          let whole := match k with
            | .braking => prU s.mpt.copy s.stp.held0
            | .traction => pdU s.mpt.copy s.stp.held0
          (s.blu.limitL + 1 < whole → t.blu.slip = .recover k ∧ t.blu.limitL = s.blu.limitL + 1
            ∧ (k = .braking → s.nsq.op = .active → t.blu.own.pr = s.blu.limitL + 1)
            ∧ (k = .traction → s.nsq.op = .active → t.blu.own.pd = s.blu.limitL + 1))
          ∧ (whole ≤ s.blu.limitL + 1 → t.blu.slip = .grip ∧ t.blu.limitL = 0
            ∧ (s.nsq.op = .active → t.blu.own.pr = prU s.mpt.copy s.stp.held0
                ∧ t.blu.own.pd = pdU s.mpt.copy s.stp.held0)))
      ∧ ((∀ k, s.blu.slip ≠ .recover k) → t.blu.slip = s.blu.slip ∧ t.blu.limitL = s.blu.limitL ∧ t.blu.own = s.blu.own)
      ∧ t.blu.dE = s.blu.dE ∧ t.blu.rE = s.blu.rE ∧ t.blu.fE = s.blu.fE ∧ t.blu.slipHold = s.blu.slipHold)
    ∧ (s.role = some .axle → ∀ k, s.blu.slip = .slip k → s.blu.slipHold.running = true → 300 ≤ s.blu.slipHold.elapsed →
      ∃ t, exec .slipHoldTimerExpiry s = .next t ∧ KeptBut s t [.blu] ∧ t.blu.slip = .recover k ∧ t.blu.limitL = 0
        ∧ t.blu.slipHold = ⟨false, 0⟩ ∧ (k = .braking → t.blu.own.pr = 0) ∧ (k = .traction → t.blu.own.pd = 0)
        ∧ t.blu.own.slip = true ∧ t.blu.ramp = s.blu.ramp ∧ t.blu.limitM = s.blu.limitM)
    ∧ (s.role = some .pack → Settled s → s.wau.minute.running = true → 60000 ≤ s.wau.minute.elapsed →
      ∃ t, exec .minuteTimerExpiry s = .next t ∧ t.wau.minute = ⟨true, 0⟩ ∧ t.wau.hot = false
        ∧ (s.wau.hot = false → t.wau.items = s.wau.items)
        ∧ (s.wau.hot = true → ∀ s1 x s3, s.wau.items = [s1, x, s3] → x.acc < accMax →
            ∃ x', t.wau.items = [s1, x', s3] ∧ x'.acc = x.acc + 1
              ∧ (x'.state = .due ↔ dueOf s.mpt.copy 2 ≤ x'.acc)
              ∧ (x'.state = .due → x.state ≠ .due → t.status .wearDue = true)
              ∧ (t.status .wearNear = true ↔ ∃ y ∈ t.wau.items, y.state ≠ .ok))
        ∧ (∀ y, y ≠ .wearNear → y ≠ .wearDue → t.status y = s.status y) ∧ t.wau.dw = s.wau.dw
        ∧ KeptBut s t [.wau, .stu, .sli])

/-- A tick (R87 to R90, R94, R98, R100, R101, R103, R118): the clock, the start ring without readings 600 s old, the
net-load ring's newest 16 samples and their average rounded toward zero, SOCmin, the primary; SHUTDOWN first, an engine in
WARMING or RUNNING entering COOLDOWN and an attempt abandoned; else the stop test in RUNNING, under the run timer's outcome,
and the return test in COOLDOWN (its start want is the one of the start decision); P_set of an engine that stays in WARMING
or RUNNING, and the run minutes. That the warm timer is stopped where SHUTDOWN takes the engine into COOLDOWN is log entry
18's, the clock's end log entry 23's. -/
def Obligations.TicksTakeTheirSamples : Prop :=
  ∀ s : State, Settled s → s.serves = true → s.role = some .genset → s.gsc.tick.running = true →
    1000 ≤ s.gsc.tick.elapsed → s.gsc.clock < clockMax → s.mpt.ringSeq < seqMax →
    let sample : Int := ((s.ptb.entries.filter PeerEntry.live).map fun e => match e.part with
      | .axle p _ _ _ _ => p
      | _ => (0 : Int)).sum + s.given.aux
    let ring : List Int := if 16 ≤ s.gsc.netLoad.length then s.gsc.netLoad.tail ++ [sample] else s.gsc.netLoad ++ [sample]
    ∃ t, exec .tick s = .next t ∧ t.gsc.tick = ⟨true, 0⟩ ∧ t.gsc.clock = s.gsc.clock + 1 ∧ t.gsc.netLoad = ring
      ∧ t.gsc.nBar = ring.sum.tdiv ring.length
      ∧ (∀ e ∈ s.ptb.entries, e.live = true → ∀ po pa soc, e.part = .pack po pa soc → t.gsc.socMin ≤ soc)
      ∧ ((∃ e ∈ s.ptb.entries, e.live = true ∧ ∃ po pa soc, e.part = .pack po pa soc) →
          ∃ e ∈ s.ptb.entries, e.live = true ∧ ∃ po pa, e.part = .pack po pa t.gsc.socMin)
      ∧ ((∀ e ∈ s.ptb.entries, e.live = true → ∀ po pa soc, e.part ≠ .pack po pa soc) → t.gsc.socMin = 0)
      ∧ (t.gsc.primary = true ↔ ∀ e ∈ s.ptb.entries, e.live = true → ∀ po pa g, e.part = .genset po pa g →
          e.address < s.ownAddress → g = .faulted)
      ∧ (∀ r ∈ t.gsc.starts, t.gsc.clock - r < 600)
      ∧ (s.gsc.engine = t.gsc.engine → t.gsc.engine = .warming ∨ t.gsc.engine = .running →
          let want := t.gsc.nBar + ((gainK s.mpt.copy : Int) * (socTarget s.mpt.copy - t.gsc.socMin)).tdiv 10
          let h := heldThermal s.stp.held0
          let po := poRated s.mpt.copy * (if t.gsc.engine = .warming then min 30 h else h) / 100
          let count := ((s.ptb.entries.filter PeerEntry.live).filter fun e => match e.part with
            | .genset _ _ g => g == .running
            | _ => false).length + 1
          t.gsc.pSet = (max 0 (min want (po : Int))).toNat / count)
      ∧ (s.given.shutdown = false →
          let stop := socStop s.mpt.copy ≤ t.gsc.socMin ∧ t.gsc.nBar < pStop s.mpt.copy
            ∨ s.given.quiet = true ∧ socFloor s.mpt.copy + 100 ≤ t.gsc.socMin
          let back := startWant s.mpt.copy t.gsc (liveGensets s.ptb.entries) = true
            ∧ (s.given.quiet = false ∨ t.gsc.socMin < socFloor s.mpt.copy) ∧ s.nsq.op = .active
          (s.gsc.engine = .running → stop → s.gsc.runMet = true → t.gsc.engine = .cooldown
            ∧ t.gsc.cooldown = ⟨true, 0⟩ ∧ t.gsc.pSet = 0 ∧ t.gsc.command = .run ∧ t.gsc.ownPo = 0 ∧ t.gsc.ownPa = 0)
          ∧ (s.gsc.engine = .running → ¬ (stop ∧ s.gsc.runMet = true) → t.gsc.engine = .running)
          ∧ (s.gsc.engine = .cooldown → back → t.gsc.engine = .running ∧ t.gsc.cooldown = ⟨false, 0⟩
            ∧ t.gsc.starts = s.gsc.starts.filter (fun r => decide (s.gsc.clock + 1 - r < 600))
            ∧ t.gsc.run = s.gsc.run ∧ t.gsc.runMet = s.gsc.runMet ∧ t.wau.items[0]? = s.wau.items[0]?
            ∧ t.wau.items[2]? = s.wau.items[2]?)
          ∧ (s.gsc.engine = .cooldown → ¬ back → t.gsc.engine = .cooldown ∧ t.gsc.cooldown = s.gsc.cooldown)
          ∧ (s.gsc.engine = .cranking ∨ s.gsc.engine = .warming ∨ s.gsc.engine = .faulted →
            t.gsc.engine = s.gsc.engine))
      ∧ (s.given.shutdown = true →
          (s.gsc.engine = .warming ∨ s.gsc.engine = .running → t.gsc.engine = .cooldown ∧ t.gsc.cooldown = ⟨true, 0⟩
            ∧ t.gsc.warm = ⟨false, 0⟩ ∧ t.gsc.pSet = 0 ∧ t.gsc.command = .run)
          ∧ (s.gsc.engine = .cranking → t.gsc.engine = .off ∧ t.gsc.crank = ⟨false, 0⟩ ∧ t.gsc.off = ⟨true, 0⟩
            ∧ t.gsc.dwell = 20 ∧ t.gsc.command = .stop)
          ∧ (s.gsc.engine = .off ∨ s.gsc.engine = .cooldown ∨ s.gsc.engine = .faulted →
            t.gsc.engine = s.gsc.engine))
      ∧ (∀ g1 x g3, s.wau.items = [g1, x, g3] → x.acc < accMax →
          (t.gsc.engine = .off ∨ t.gsc.engine = .faulted → t.wau.runSeconds = s.wau.runSeconds ∧ t.wau.items[1]? = some x)
          ∧ (t.gsc.engine ≠ .off → t.gsc.engine ≠ .faulted → s.wau.runSeconds < 59 →
              t.wau.runSeconds = s.wau.runSeconds + 1 ∧ t.wau.items[1]? = some x)
          ∧ (t.gsc.engine ≠ .off → t.gsc.engine ≠ .faulted → 59 ≤ s.wau.runSeconds →
              t.wau.runSeconds = 0 ∧ ∃ x', t.wau.items[1]? = some x' ∧ x'.acc = x.acc + 1))
      ∧ t.ptb = s.ptb ∧ t.stp.held0 = s.stp.held0 ∧ t.stp.held1 = s.stp.held1 ∧ t.mpt.eeprom = s.mpt.eeprom
      ∧ t.mpt.copy = s.mpt.copy ∧ t.nsq.op = s.nsq.op

/-- The start decision of a tick in OFF (R92, R93, R95): an attempt exactly where the start want, the dwell, the budget,
the zone, the cranking of others, ACTIVE, SHUTDOWN and the engine's report all allow it; an attempt records its reading,
commands CRANK, starts the crank timer, stops the off timer and counts a start, and a cold one below 10 °C. -/
def Obligations.AttemptsNeedEveryStartCondition : Prop :=
  ∀ s : State, Settled s → s.serves = true → s.role = some .genset → s.gsc.tick.running = true →
    1000 ≤ s.gsc.tick.elapsed → s.gsc.clock < clockMax → s.gsc.engine = .off →
    let c := s.mpt.copy
    let gs := liveGensets s.ptb.entries
    let kept := s.gsc.starts.filter fun r => decide (s.gsc.clock + 1 - r < 600)
    ∃ t, exec .tick s = .next t
      ∧ (let want := if t.gsc.primary then
             t.gsc.socMin < socStart c ∨ (pStart c : Int) ≤ t.gsc.nBar ∧ t.gsc.socMin < socHi c
           else ∃ g ∈ gs, g.2.2 = .running ∧ (∀ x ∈ gs, x.2.2 ≠ .faulted → g.1 ≤ x.1)
             ∧ ((g.2.1 * 80 / 100 : Nat) : Int) ≤ t.gsc.nBar
         let allowed := s.gsc.dwell * 1000 ≤ s.gsc.off.elapsed ∧ kept.length < 6
           ∧ (s.given.quiet = false ∨ t.gsc.socMin < socFloor c) ∧ (∀ x ∈ gs, x.2.2 ≠ .cranking) ∧ s.nsq.op = .active
           ∧ s.given.shutdown = false
           ∧ ∃ nib e coolant, s.stp.held1 = some ⟨nib, .controller e coolant⟩ ∧ e ≠ .running
         (s.ptb.entries.map PeerEntry.address).Nodup →
           (want ∧ allowed → t.gsc.engine = .cranking ∧ t.gsc.starts = kept ++ [s.gsc.clock + 1]
             ∧ t.gsc.crank = ⟨true, 0⟩ ∧ t.gsc.off.running = false ∧ t.stp.slot1 = some (.engine .crank)
             ∧ t.gsc.command = .crank ∧ t.gsc.pSet = 0
             ∧ ∀ g1 g2 g3, s.wau.items = [g1, g2, g3] → g1.acc < accMax → g3.acc < accMax →
                 (∃ x, t.wau.items[0]? = some x ∧ x.acc = g1.acc + 1)
                 ∧ ∃ y, t.wau.items[2]? = some y ∧ ∀ nib e coolant, s.stp.held1 = some ⟨nib, .controller e coolant⟩ →
                   (coolant < 10 → y.acc = g3.acc + 1) ∧ (10 ≤ coolant → y = g3))
           ∧ (¬ (want ∧ allowed) → t.gsc.engine = .off ∧ t.gsc.starts = kept ∧ t.stp.slot1 = s.stp.slot1
             ∧ t.gsc.off = s.gsc.off))

/-- The engine's own timers (R96, R97, R101, R105): the crank timer's 3 s fail the attempt, the third in a row bringing
FAULTED with START_FAIL; the warm timer's 120 s bring RUNNING; the cooldown timer's 30 s bring OFF with a dwell of 20 s. -/
def Obligations.EngineTimersMoveTheEngine : Prop :=
  ∀ s : State, Settled s → s.serves = true → s.role = some .genset → s.mpt.ringSeq < seqMax →
    (s.gsc.engine = .cranking → s.gsc.crank.running = true → 3000 ≤ s.gsc.crank.elapsed →
      ∃ t, exec .crankTimerExpiry s = .next t ∧ t.gsc.pSet = 0 ∧ t.gsc.command = .stop ∧ t.gsc.crank = ⟨false, 0⟩
        ∧ t.stp.slot1 = some (.engine .stop) ∧ t.gsc.starts = s.gsc.starts ∧ t.nsq.op = s.nsq.op
        ∧ (s.gsc.failures < 2 → t.gsc.engine = .off ∧ t.gsc.failures = s.gsc.failures + 1 ∧ t.gsc.off = ⟨true, 0⟩
            ∧ t.gsc.dwell = 10 ∧ t.stu.set = s.stu.set)
        ∧ (2 ≤ s.gsc.failures → t.gsc.engine = .faulted ∧ t.gsc.failures = 3 ∧ t.status .startFail = true
            ∧ t.gsc.off = s.gsc.off ∧ ∀ y, y ≠ .startFail → t.status y = s.status y)
        ∧ KeptBut s t [.gsc, .stp, .stu, .sli, .mpt] ∧ t.mpt.eeprom = s.mpt.eeprom)
    ∧ (s.gsc.engine = .warming → s.gsc.warm.running = true → 120000 ≤ s.gsc.warm.elapsed →
      ∃ t, exec .warmTimerExpiry s = .next t ∧ t.gsc.engine = .running ∧ t.gsc.warm = ⟨false, 0⟩ ∧ t.gsc.command = .run
        ∧ t.gsc.pSet = s.gsc.pSet ∧ t.gsc.run = s.gsc.run ∧ t.stp.slot1 = some (.engine .run)
        ∧ (s.nsq.op = .active → t.gsc.ownPo = poRated s.mpt.copy * heldThermal s.stp.held0 / 100
            ∧ t.gsc.ownPa = paAbsorb s.mpt.copy)
        ∧ KeptBut s t [.gsc, .stp])
    ∧ (s.gsc.engine = .cooldown → s.gsc.cooldown.running = true → 30000 ≤ s.gsc.cooldown.elapsed →
      ∃ t, exec .cooldownTimerExpiry s = .next t ∧ t.gsc.engine = .off ∧ t.gsc.command = .stop
        ∧ t.gsc.off = ⟨true, 0⟩ ∧ t.gsc.dwell = 20 ∧ t.gsc.cooldown = ⟨false, 0⟩ ∧ t.stp.slot1 = some (.engine .stop)
        ∧ t.gsc.starts = s.gsc.starts ∧ t.nsq.op = s.nsq.op ∧ t.stu.set = s.stu.set ∧ t.mpt.eeprom = s.mpt.eeprom)


/-! ### The periodic checks and the Memory Port -/

/-- The two 100 ms checks: the recheck of the running copy (R169) with CFG_CORRUPT and the strap check (R179) with STRAP,
each latched at a mismatch and its result recorded; a copy that fails its check already is found corrupt again, whatever the
command brings (R169). A storage upset found by a recheck is log entry 21's. -/
def Obligations.ChecksLatchAndRecord : Prop :=
  ∀ (s : State) (p : Straps) (upset : Option (BitVec 6 × Word)), Settled s →
    (s.serves = true ∨ s.nsq.op = .standby → s.mpt.recheck.running = true → 100 ≤ s.mpt.recheck.elapsed →
      s.mpt.ringSeq < seqMax → ∃ t, exec (.recheckTimerExpiry upset) s = .next t ∧ t.mpt.recheck = ⟨true, 0⟩
        ∧ (upset = none → t.mpt.copy = s.mpt.copy)
        ∧ (s.mpt.copy.foldl (· ^^^ ·) 0 ≠ 0xA55A#16 → t.mpt.copy = s.mpt.copy ∧ t.mpt.recheckBad = true)
        ∧ (∀ y, y ≠ .cfgCorrupt → t.status y = s.status y)
        ∧ (t.mpt.recheckBad = true ↔ t.mpt.copy.foldl (· ^^^ ·) 0 ≠ 0xA55A#16)
        ∧ (t.mpt.recheckBad = true → t.status .cfgCorrupt = true ∧ t.nsq.op ≠ .active)
        ∧ (t.mpt.recheckBad = false → t.status .cfgCorrupt = s.status .cfgCorrupt ∧ t.nsq.op = s.nsq.op)
        ∧ t.mpt.eeprom = s.mpt.eeprom ∧ t.ptb = s.ptb ∧ t.she = s.she ∧ t.wau = s.wau)
    ∧ (s.serves = true → s.nsq.strapCheck.running = true → 100 ≤ s.nsq.strapCheck.elapsed →
      ∃ t, exec (.strapCheckExpiry p) s = .next t ∧ t.nsq.strapCheck = ⟨true, 0⟩ ∧ t.nsq.sample = s.nsq.sample
        ∧ (t.nsq.strapDiffers = true ↔ p ≠ s.nsq.sample) ∧ (p ≠ s.nsq.sample → t.status .strap = true)
        ∧ (p = s.nsq.sample → t.status .strap = s.status .strap) ∧ (∀ y, y ≠ .strap → t.status y = s.status y)
        ∧ t.nsq.op = s.nsq.op ∧ KeptBut s t [.nsq, .pins, .stu, .sli])

/-- A flush from its start to its success (R127, R167, R171, R172, Table 10.3-1): the timer's expiry starts it with the
snapshot of the table, its first attempt into the slot after the ring position; each stored page is in the EEPROM and no
other byte is touched; the second page moves the ring position and ends it. At the end a WEAR_RESET that waits is answered
DONE with its item (R125) and a pending flush starts with the table as it then stands (R167); a REBOOT that waits is taken,
after a success or a failure (R175, R176, R184), with every status and the F value cleared (R141) and every record at the
values of the reset tables (R37, R38, R69, R85, R109, R155, R166). -/
def Obligations.FlushesWriteTheNextSlot : Prop :=
  ∀ (s : State) (p : Straps), Settled s →
    (s.nsq.op = .active ∨ s.nsq.op = .withdrawn → s.mpt.flush.running = true → 300000 ≤ s.mpt.flush.elapsed →
      s.mpt.ringSeq < seqMax → ∃ t, exec .flushTimerExpiry s = .next t ∧ t.mpt.flush = ⟨true, 0⟩
        ∧ (s.mpt.op = .none → t.mpt.op = .flush ⟨snapshotOf s.role s.wau.items, 1, (s.mpt.ringSlot + 1) % 8,
            s.mpt.ringSeq + 1, 1, []⟩ ∧ t.mpt.poll = ⟨true, 0⟩)
        ∧ (s.mpt.op ≠ .none → t.mpt.op = s.mpt.op ∧ t.mpt.pendingFlush = some (s.mpt.pendingFlush.getD []))
        ∧ t.mpt.eeprom = s.mpt.eeprom ∧ t.mpt.ringSlot = s.mpt.ringSlot ∧ KeptBut s t [.mpt, .stu])
    ∧ (∀ job role, s.mpt.op = .flush job → s.role = some role → s.mpt.eeprom.wf = true → job.page = 1 →
        ∃ t, exec (.pageStored p) s = .next t ∧ t.mpt.op = .flush { job with page := 2 } ∧ t.mpt.poll = ⟨true, 0⟩
          ∧ t.mpt.ringSlot = s.mpt.ringSlot ∧ t.mpt.ringSeq = s.mpt.ringSeq
          ∧ (∀ i, i < 32 → Memory.read t.mpt.eeprom (slotAddress job.slot + i) = (slotBytes role job.seq job.snapshot).getD i 0)
          ∧ (∀ a, (a < slotAddress job.slot ∨ slotAddress job.slot + 32 ≤ a) →
              Memory.read t.mpt.eeprom a = Memory.read s.mpt.eeprom a)
          ∧ KeptBut s t [.mpt, .pins, .stu])
    ∧ (∀ job role, s.mpt.op = .flush job → s.role = some role → s.mpt.eeprom.wf = true → job.page = 2 →
        ∀ place item, (job.parties = [] ∨ job.parties = [.wearReset place item]) →
        (s.mpt.pendingFlush ≠ none → job.seq < seqMax) →
        ∃ t, exec (.pageStored p) s = .next t ∧ t.mpt.pendingFlush = none
          ∧ (s.mpt.pendingFlush = none → t.mpt.op = .none)
          ∧ (∀ ps, s.mpt.pendingFlush = some ps → t.mpt.poll = ⟨true, 0⟩ ∧ t.mpt.op = .flush
              ⟨snapshotOf s.role s.wau.items, 1, (job.slot + 1) % 8, job.seq + 1, 1, ps⟩)
          ∧ (job.parties = [] → t.sli = s.sli)
          ∧ (job.parties = [.wearReset place item] → t.sli = { s.sli with
              replies := s.sli.replies.map fun r =>
                if r.place = place then
                  { r with condition := .queued, result := .done, data := [BitVec.ofNat 16 item] }
                else r })
          ∧ t.mpt.ringSlot = job.slot ∧ t.mpt.ringSeq = job.seq
          ∧ (∀ i, 32 ≤ i → i < 64 →
              Memory.read t.mpt.eeprom (slotAddress job.slot + i) = (slotBytes role job.seq job.snapshot).getD i 0)
          ∧ (∀ a, (a < slotAddress job.slot + 32 ∨ slotAddress job.slot + 64 ≤ a) →
              Memory.read t.mpt.eeprom a = Memory.read s.mpt.eeprom a)
          ∧ t.stu.set = s.stu.set ∧ KeptBut s t [.mpt, .pins, .stu, .sli])
    ∧ (∀ job c, s.mpt.op = .flush job → job.parties = [.reboot] →
        (c = .pageStored p ∧ job.page = 2
          ∨ c = .pageTimeout p ∧ job.attempt = 2 ∧ s.mpt.poll.running = true ∧ 20 ≤ s.mpt.poll.elapsed) →
        ∃ t, exec c s = .next t ∧ t.nsq.sample = p ∧ t.nsq.cause = .reboot ∧ t.nsq.pendingReset = .none
          ∧ (strapRole p ≠ none → t.nsq.op = .boot ∧ t.mpt.op = .bootLoad ∧ t.pins.partnerReset = true)
          ∧ (strapRole p = none → t.nsq.op = .mute ∧ t.mpt.op = .none ∧ t.pins.partnerReset = false)
          ∧ t.pins.ready = false ∧ t.pins.traction = false ∧ t.stu.set = 0 ∧ t.stu.fValue = false
          ∧ t.sli.state.condition = .empty ∧ ResetRecords t ∧ SyncTimersStopped t
          ∧ t.mpt.pendingFlush = none)

/-- A page that is not acknowledged within 20 ms (R172, R125): the first attempt's failure begins the second, with the same
snapshot, in the slot after the next; the second's, and a first whose second attempt would pass the sequence limit (log
entry 24), ends the flush in failure with MEM_FAULT and the ring position as it was. A WEAR_RESET that waits is answered
MEM_FAIL, and a pending flush starts from the same ring position with the table as it then stands (R167). The page's own
bytes are free (log entry 7) and every other byte is as before. -/
def Obligations.FailedPagesAreRetriedOnce : Prop :=
  ∀ (s : State) (p : Straps) (job : FlushJob), Settled s → s.mpt.op = .flush job → s.mpt.poll.running = true →
    20 ≤ s.mpt.poll.elapsed → s.mpt.eeprom.wf = true →
    (job.attempt = 1 → s.mpt.ringSeq + 2 ≤ seqMax → ∃ t, exec (.pageTimeout p) s = .next t
        ∧ t.mpt.op = .flush { job with attempt := 2, slot := (s.mpt.ringSlot + 2) % 8, seq := s.mpt.ringSeq + 2, page := 1 }
        ∧ t.mpt.ringSlot = s.mpt.ringSlot ∧ t.mpt.ringSeq = s.mpt.ringSeq ∧ t.mpt.poll = ⟨true, 0⟩
        ∧ t.stu.set = s.stu.set ∧ KeptBut s t [.mpt, .pins, .stu, .free]
        ∧ ∀ a, (a < pageAddress job.slot job.page ∨ pageAddress job.slot job.page + 32 ≤ a) →
            Memory.read t.mpt.eeprom a = Memory.read s.mpt.eeprom a)
    ∧ (∀ n item, (job.attempt = 2 ∨ job.attempt = 1 ∧ seqMax < s.mpt.ringSeq + 2) →
        (job.parties = [] ∨ job.parties = [.wearReset n item]) →
        (s.mpt.pendingFlush ≠ none → s.mpt.ringSeq < seqMax) →
        ∃ t, exec (.pageTimeout p) s = .next t ∧ t.status .memFault = true ∧ t.mpt.pendingFlush = none
          ∧ (s.mpt.pendingFlush = none → t.mpt.op = .none)
          ∧ (∀ ps, s.mpt.pendingFlush = some ps → t.mpt.poll = ⟨true, 0⟩ ∧ t.mpt.op = .flush
              ⟨snapshotOf s.role s.wau.items, 1, (s.mpt.ringSlot + 1) % 8, s.mpt.ringSeq + 1, 1, ps⟩)
          ∧ t.mpt.ringSlot = s.mpt.ringSlot ∧ t.mpt.ringSeq = s.mpt.ringSeq
          ∧ (∀ y, y ≠ .memFault → t.status y = s.status y) ∧ KeptBut s t [.mpt, .pins, .stu, .sli, .free]
          ∧ (job.parties = [] → t.sli.replies = s.sli.replies)
          ∧ (job.parties = [.wearReset n item] → t.sli.replies = s.sli.replies.map (fun r =>
              if r.place = n then { r with condition := .queued, result := .memFail, data := [] } else r))
          ∧ ∀ a, (a < pageAddress job.slot job.page ∨ pageAddress job.slot job.page + 32 ≤ a) →
              Memory.read t.mpt.eeprom a = Memory.read s.mpt.eeprom a)

/-! ### SYNC and STANDBY -/

/-- SYNC is left at the SYNC timer's expiry where a demand record is present, else at the first DEMAND arrival after it
(R136, R137, R171, R178): into ACTIVE where no withdrawing status is set, else into WITHDRAWN, with the lines and the flush
timer. A DEMAND arrival before that expiry makes the record present and leaves the node in SYNC. -/
def Obligations.SyncIsLeftOnADemand : Prop :=
  ∀ (s : State) (w1 w2 w3 w4 : Word), s.nsq.op = .sync → s.mpt.ringSeq < seqMax →
    (∀ e, s.nsq.sync = .running e → 100 ≤ e → s.ptb.demand.present = false →
      ∃ t, exec .syncTimerExpiry s = .next t ∧ t.nsq = { s.nsq with sync := .expired } ∧ KeptBut s t [.nsq, .stu, .sli]
        ∧ t.stu.set = s.stu.set)
    ∧ (∀ e, s.nsq.sync = .running e → s.receives = true → ∃ t, exec (.demandArrival 0 [w1, w2, w3, w4]) s = .next t
        ∧ t.nsq.op = .sync ∧ t.nsq.sync = .running e ∧ t.ptb.demand.present = true ∧ t.pins = s.pins ∧ t.mpt = s.mpt
        ∧ t.stp = s.stp)
    ∧ (∀ c, (c = .syncTimerExpiry ∧ s.ptb.demand.present = true ∧ (∃ e, s.nsq.sync = .running e ∧ 100 ≤ e)
          ∨ c = .demandArrival 0 [w1, w2, w3, w4] ∧ s.receives = true ∧ s.ownAddress ≠ 0 ∧ s.nsq.sync = .expired) →
      ∃ t, exec c s = .next t ∧ t.nsq.op = (if s.withdraws then .withdrawn else .active) ∧ t.pins.ready = true
        ∧ t.pins.traction = !s.withdraws ∧ t.mpt.flush = ⟨true, 0⟩ ∧ t.nsq.sync = .expired
        ∧ t.sli.state.condition ≠ .empty ∧ t.withdraws = s.withdraws ∧ t.mpt.eeprom = s.mpt.eeprom
        ∧ t.nsq.sample = s.nsq.sample ∧ t.ptb.entries = s.ptb.entries ∧ t.mpt.copy = s.mpt.copy)

/-- The shutdown hold and STANDBY (R180, R181): a DEMAND with SHUTDOWN and PARKED starts the hold's timer, one lacking
either ends the hold; at the 2 s expiry the hold is met, and where the other conditions hold a flush is requested, the
operating state kept, and no second flush where the STANDBY flush of a cancelled hold still runs (log entry 29); when that
flush ends, in success or in failure with MEM_FAULT, the node enters STANDBY with its lines down, its timers stopped and the
first final exchange begun. -/
def Obligations.ShutdownLeadsToStandby : Prop :=
  ∀ (s : State) (p : Straps) (w1 w2 w3 w4 : Word), Settled s → s.mpt.ringSeq < seqMax →
    (s.serves = true → s.receives = true → s.ownAddress ≠ 0 → s.nsq.op ≠ .sync →
      ∃ t, exec (.demandArrival 0 [w1, w2, w3, w4]) s = .next t
        ∧ (w4.getLsbD 0 = true → w4.getLsbD 2 = true → s.nsq.hold.running = false → s.nsq.holdMet = false →
            t.nsq = { s.nsq with hold := ⟨true, 0⟩ })
        ∧ (w4.getLsbD 0 = true → w4.getLsbD 2 = true → s.nsq.hold.running = true ∨ s.nsq.holdMet = true → t.nsq = s.nsq)
        ∧ (w4.getLsbD 0 = false ∨ w4.getLsbD 2 = false → t.nsq = { s.nsq with hold := ⟨false, 0⟩, holdMet := false }))
    ∧ (s.serves = true → s.nsq.hold.running = true → 2000 ≤ s.nsq.hold.elapsed →
      ∃ t, exec .shutdownHoldExpiry s = .next t
        ∧ t.nsq = { s.nsq with hold := ⟨false, s.nsq.hold.elapsed⟩, holdMet := true }
        ∧ (let ready := s.nsq.op ≠ .sync ∧ s.nsq.pendingReset = .none
             ∧ (s.role = some .genset → s.gsc.engine = .off) ∧ s.waitsStandby = false
           (ready → s.mpt.op = .none → ∃ job, t.mpt.op = .flush job ∧ job.parties = [.standby])
           ∧ (ready → s.mpt.op ≠ .none → t.mpt.op = s.mpt.op ∧ ∃ ps, t.mpt.pendingFlush = some ps ∧ .standby ∈ ps)
           ∧ (¬ ready → t.mpt = s.mpt))
        ∧ KeptBut s t [.nsq, .stu, .mpt] ∧ t.stu.set = s.stu.set ∧ t.mpt.eeprom = s.mpt.eeprom)
    ∧ (∀ job c, s.mpt.op = .flush job → job.parties = [.standby] → s.mpt.pendingFlush = none →
        (c = .pageStored p ∧ job.page = 2
          ∨ c = .pageTimeout p ∧ job.attempt = 2 ∧ s.mpt.poll.running = true ∧ 20 ≤ s.mpt.poll.elapsed) →
        s.nsq.pendingReset = .none → s.nsq.op = .active ∨ s.nsq.op = .withdrawn →
        (s.role = some .genset → s.gsc.engine = .off) →
        ∃ t, exec c s = .next t
          ∧ (c = .pageStored p → t.stu.set = s.stu.set) ∧ (c = .pageTimeout p → t.status .memFault = true)
          ∧ (s.nsq.holdMet = false → t.nsq = s.nsq ∧ KeptBut s t [.mpt, .pins, .stu, .sli, .free]
              ∧ (c = .pageStored p → KeptBut s t [.mpt, .pins, .stu]))
          ∧ (s.nsq.holdMet = true → t.nsq.op = .standby ∧ t.pins.ready = false ∧ t.pins.traction = false
              ∧ t.nsq.strapCheck.running = false ∧ t.nsq.hold.running = false ∧ t.nsq.limit.running = false
              ∧ t.nsq.sync = .stopped ∧ t.ptb.demandTimer.running = false ∧ (∀ e ∈ t.ptb.entries, e.ageTimer.running = false)
              ∧ t.ptb.entries.map PeerEntry.part = s.ptb.entries.map PeerEntry.part ∧ t.ptb.demand = s.ptb.demand
              ∧ t.sli.period.running = false ∧ t.mpt.flush.running = false ∧ t.wau.minute.running = false
              ∧ t.wau.items = s.wau.items ∧ t.stp.exchange.running = false ∧ t.stp.settle = .stopped
              ∧ (s.stp.inFlight = none → t.stp.final = .partner0 ∧ ∃ x, t.stp.inFlight = some x ∧ x.partner = .p0)
              ∧ (s.stp.inFlight ≠ none → t.stp.final = .awaiting ∧ t.stp.inFlight = s.stp.inFlight)
              ∧ (s.role = some .axle → t.stp.slot0 = some (.torque 0) ∧ t.stp.slot1 = some (.pressure 0)
                  ∧ t.blu.dE = 0 ∧ t.blu.rE = 0 ∧ t.blu.fE = 0 ∧ t.blu.rampTimer.running = false
                  ∧ t.blu.slipHold.running = false)
              ∧ (s.role = some .pack → t.stp.slot0 = some (.converter (uRef s.mpt.copy) 0 0)
                  ∧ t.plu.own.po = 0 ∧ t.plu.own.pa = 0)
              ∧ (s.role = some .genset → t.stp.slot1 = some (.engine .stop) ∧ t.stp.slot0 = some (.generator 0)
                  ∧ t.gsc.tick.running = false ∧ t.gsc.off.running = false)))

/-! ### Laws that every step keeps -/

/-- The law of R31 and the transmit queue's of R148, from any state that has them: at most 12 entries, no two with the same
address, none with the node's own; reply places 1 to 3, no two the same. -/
def Obligations.EveryStepKeepsTheTableAndTheQueue : Prop :=
  ∀ s t : State, TableLaw s → QueueLaw s → step s = .next t → TableLaw t ∧ QueueLaw t

/-- The law of R137 with R136, R135's F value and R162, from any state that has them: the operating state agrees with the
withdrawing set and the F value held is the F bit (R138), READY and TRACTION_ENABLE agree with the operating state,
each role's Pd, Pr, Po and Pa are 0 outside ACTIVE and outside that role (R45, R70, R86), PARTNER_FAULT follows the held
records, the droop factors stay within 100 (Table 3.1-1, R49). -/
def Obligations.EveryStepKeepsTheWithdrawalLaws : Prop :=
  ∀ s t : State, Settled s → LinesLaw s → AdvertisedLaw s → FaultLaw s → FactorLaw s → step s = .next t →
    Settled t ∧ LinesLaw t ∧ AdvertisedLaw t ∧ FaultLaw t ∧ FactorLaw t

/-- The EEPROM under every step and command (R172 to R174): its canonical form is kept; a command changes no byte but those
of the page it stores or leaves torn, or of the word of a CONFIG_WRITE and word 63, the addresses the meanings store to; the
flush in flight writes one of the two slots after the ring position, which every step keeps, so no byte of the slot at the
ring position changes while a flush is in flight; and the ring position is the valid slot with the greatest sequence number
(R170, R172), which every step keeps but a boot load in which some slot's read is not acknowledged. That a slot whose write
did not end stays invalid is the model's flag (log entry 7); that a cut of supply may touch both words of a CONFIG_WRITE in
flight is log entry 8's. -/
def Obligations.TheNewestSlotIsSpared : Prop :=
  ∀ s : State,
    (s.mpt.eeprom.wf = true →
      (∀ t, step s = .next t → t.mpt.eeprom.wf = true)
      ∧ (∀ c t, exec c s = .next t → ∀ a, ¬ storesTo s c a → Memory.read t.mpt.eeprom a = Memory.read s.mpt.eeprom a))
    ∧ (RingLaw s → ∀ t, step s = .next t → RingLaw t)
    ∧ (s.mpt.eeprom.wf = true → RingLaw s → NewestLaw s →
        (∀ ack acks, s.pending.head? = some (.bootLoadComplete ack acks) → acks = 0xFF) →
        ∀ t, step s = .next t → NewestLaw t)
    ∧ (s.mpt.eeprom.wf = true → RingLaw s → ∀ c t job, exec c s = .next t → s.mpt.op = .flush job →
        ∀ a, inSlot s.mpt.ringSlot a → Memory.read t.mpt.eeprom a = Memory.read s.mpt.eeprom a)

/-- The law of R76: a PACK node whose held record shows a full or frozen pack has no formed acceptance and advertises none;
every step keeps it, but a recheck that finds a storage upset (log entry 21), which may change SOC_max under the record. -/
def Obligations.AFullOrFrozenPackAcceptsNothing : Prop :=
  (∀ s t : State, PackLaw s → (∀ u c, s.pending.head? = some c → c ≠ .recheckTimerExpiry (some u)) → step s = .next t →
      PackLaw t)
  ∧ ∀ s : State, PackLaw s → s.role = some .pack → s.stp.held1.isSome = true → fullOrFrozen s → s.plu.own.pa = 0

/-- The law of R95: a step that brings the engine into CRANKING finds it in OFF in ACTIVE with at least the required dwell
elapsed and fewer than 6 readings younger than 600 s, and every step keeps the start ring at 6 readings or fewer; the
engine enters OFF with the off timer at 0 and a dwell of 20 s, or of 10 s from a failed attempt; and a step that stays in OFF
keeps the dwell, its off timer rising only where time passes, by a millisecond, unless a reset or a new entry into OFF puts
it to 0. That time passes in the steps on an empty queue alone is the model's choice (log entries 1 and 39); beyond the end of
the clock's range see log entry 23. -/
def Obligations.StartsKeepTheirDwellAndBudget : Prop :=
  ∀ s t : State, StartLaw s → step s = .next t →
    StartLaw t
    ∧ (s.gsc.engine ≠ .cranking → t.gsc.engine = .cranking → s.gsc.clock < clockMax →
        s.gsc.engine = .off ∧ s.nsq.op = .active ∧ s.gsc.dwell * 1000 ≤ s.gsc.off.elapsed
          ∧ (s.gsc.starts.filter fun r => decide (s.gsc.clock + 1 - r < 600)).length < 6
          ∧ t.gsc.starts.getLast? = some t.gsc.clock)
    ∧ (s.gsc.engine ≠ .off → t.gsc.engine = .off →
        t.gsc.off.elapsed = 0 ∧ (t.gsc.dwell = 20 ∨ s.gsc.engine = .cranking ∧ t.gsc.dwell = 10))
    ∧ (s.gsc.engine = .off → t.gsc.engine = .off →
        t.gsc.off.elapsed = 0 ∧ (t.gsc.dwell = 20 ∨ t.gsc.dwell = s.gsc.dwell)
        ∨ t.gsc.dwell = s.gsc.dwell ∧ (s.pending ≠ [] → t.gsc.off.elapsed = s.gsc.off.elapsed)
          ∧ (s.pending = [] →
              t.gsc.off.elapsed = if s.gsc.off.running then s.gsc.off.elapsed + 1 else s.gsc.off.elapsed))

/-- The law of R119: a wear accumulator never decreases but by an accepted WEAR_RESET, or where the node passes into BOOT or
MUTE or loads its table; and the q advertised and the d_w held derive from the current A1 and S1 (R123, R124), which every
step keeps (DeriveLaw; a corrupted copy is log entry 21's). -/
def Obligations.WearNeverDecreases : Prop :=
  (∀ (s t : State) (c : Instr), exec c s = .next t → (∀ src target args, c ≠ .wearReset src target args) →
    s.nsq.op ≠ .boot → t.nsq.op ≠ .boot → t.nsq.op ≠ .mute →
    (∀ x ∈ s.wau.items, x.acc ≤ accMax) →
    t.wau.items.length = s.wau.items.length
      ∧ ∀ (i : Nat) (x y : WearItem), s.wau.items[i]? = some x → t.wau.items[i]? = some y → x.acc ≤ y.acc ∧ y.acc ≤ accMax)
  ∧ ∀ s t : State, DeriveLaw s → step s = .next t → DeriveLaw t

/-- State.reset meets every law above: those of the peer table (R31, R37), of the transmit queue (R148, R155), of the
operating state, the lines and the capabilities (R135 to R138, R141; R45, R69, R70, R85, R86, R109), of the held records
(R162, R166), of the droop factors (Table 3.1-1, R49, R69), of the pack's acceptance (R76, R85), of the start ring (R94,
R109), of q and d_w (R119, R123, R124, R126), and of the ring position and the EEPROM (R170, R172, R174); it is in BOOT
(R175, R177). The values that the manual does not give are the model's: a blank EEPROM (log entry 4), the straps of AXLE 1
(log entry 5), the table, q, d_w, the running copy and the ring position before the boot load (log entry 6), the empty queue
(log entry 39). -/
def Obligations.ResetMeetsTheLaws : Prop :=
  TableLaw State.reset ∧ QueueLaw State.reset ∧ Settled State.reset ∧ LinesLaw State.reset ∧ AdvertisedLaw State.reset
    ∧ FaultLaw State.reset ∧ FactorLaw State.reset ∧ State.reset.mpt.eeprom.wf = true ∧ RingLaw State.reset
    ∧ PackLaw State.reset ∧ StartLaw State.reset ∧ DeriveLaw State.reset ∧ NewestLaw State.reset ∧ State.reset.nsq.op = .boot ∧ State.reset.pending = []

/-! ### Encodings -/

/-- A STATE frame the node sends is judged good by a receiver and arrives as the STATE payload it was filled with (R143 to
R145, R151); an AXLE, PACK or GENSET peer then holds the values of the sender's own capability record and its operating
state (R28, R29). -/
def Obligations.SentStateFramesAreReadBack : Prop :=
  ∀ (s : State) (role : Role), s.role = some role →
    (s.stateFrame role).arrival = .stateArrival s.ownAddress (s.statePayload role)
    ∧ reportedOfPayload (s.statePayload role) = .known s.nsq.op
    ∧ (role = .axle → s.blu.own.pd ≤ 1000 → s.blu.own.pr ≤ 1000 → s.blu.own.fb ≤ 1000 → s.blu.own.q ≤ 100 →
        -1000 ≤ s.blu.own.pAct → s.blu.own.pAct ≤ 1000 →
        rolePartOfPayload (s.statePayload role)
          = .axle s.blu.own.pAct s.blu.own.pd s.blu.own.pr s.blu.own.fb s.blu.own.q)
    ∧ (role = .pack → s.plu.own.po ≤ 1000 → s.plu.own.pa ≤ 1000 → s.plu.own.soc ≤ 1000 →
        rolePartOfPayload (s.statePayload role) = .pack s.plu.own.po s.plu.own.pa s.plu.own.soc)
    ∧ (role = .genset → s.gsc.ownPo ≤ 1000 → s.gsc.ownPa ≤ 1000 →
        rolePartOfPayload (s.statePayload role) = .genset s.gsc.ownPo s.gsc.ownPa s.gsc.engine)

/-- A slot written whole passes the role and check tests of a load and gives back its sequence number and its snapshot (R127,
R170, Table 10.3-1), wherever it stands in the ring. The load asks besides that its reads are acknowledged and that the
model's flag for a write that did not end is clear (log entry 7); the order of the bytes is log entry 9's and that of the
bits of a byte in the check log entry 42's. -/
def Obligations.WrittenSlotsAreReadBack : Prop :=
  ∀ (m : Memory) (k seq : Nat) (role : Role) (p : Snapshot), m.wf = true → k < 8 → seq ≤ seqMax →
    p.accs.length = itemCount role → (∀ a ∈ p.accs, a ≤ accMax) → p.resA1 ≤ accMax → p.resA2 ≤ accMax →
    p.resS1 ≤ accMax →
    let slot := slotBytes role seq p
    let m' := Memory.writeAll (Memory.writeAll m (pageAddress k 1) (pageOf slot 1)) (pageAddress k 2) (pageOf slot 2)
    readSlot m' k = slot ∧ slotValid role (readSlot m' k) = true ∧ slotSeq (readSlot m' k) = seq
      ∧ slotSnapshot role (readSlot m' k) = p
end

