-- ==== Sys2Proof/Laws/State.lean ====
section
/-! SUPPORT. One lemma for each block and each update of a block, and for what is read from one block alone. -/

namespace Sys2Proof.Machine

@[simp] theorem State.setNsq_nsq (s : State) (b : Sequencer) : (s.setNsq b).nsq = b := rfl
@[simp] theorem State.setNsq_pins (s : State) (b : Sequencer) : (s.setNsq b).pins = s.pins := rfl
@[simp] theorem State.setNsq_stu (s : State) (b : Sequencer) : (s.setNsq b).stu = s.stu := rfl
@[simp] theorem State.setNsq_ptb (s : State) (b : Sequencer) : (s.setNsq b).ptb = s.ptb := rfl
@[simp] theorem State.setNsq_she (s : State) (b : Sequencer) : (s.setNsq b).she = s.she := rfl
@[simp] theorem State.setNsq_blu (s : State) (b : Sequencer) : (s.setNsq b).blu = s.blu := rfl
@[simp] theorem State.setNsq_plu (s : State) (b : Sequencer) : (s.setNsq b).plu = s.plu := rfl
@[simp] theorem State.setNsq_gsc (s : State) (b : Sequencer) : (s.setNsq b).gsc = s.gsc := rfl
@[simp] theorem State.setNsq_wau (s : State) (b : Sequencer) : (s.setNsq b).wau = s.wau := rfl
@[simp] theorem State.setNsq_sli (s : State) (b : Sequencer) : (s.setNsq b).sli = s.sli := rfl
@[simp] theorem State.setNsq_stp (s : State) (b : Sequencer) : (s.setNsq b).stp = s.stp := rfl
@[simp] theorem State.setNsq_mpt (s : State) (b : Sequencer) : (s.setNsq b).mpt = s.mpt := rfl
@[simp] theorem State.setNsq_free (s : State) (b : Sequencer) : (s.setNsq b).free = s.free := rfl
@[simp] theorem State.setNsq_pending (s : State) (b : Sequencer) : (s.setNsq b).pending = s.pending := rfl
@[simp] theorem State.setNsq_withdraws (s : State) (b : Sequencer) : (s.setNsq b).withdraws = s.withdraws := rfl
@[simp] theorem State.setNsq_demandLost (s : State) (b : Sequencer) : (s.setNsq b).demandLost = s.demandLost := rfl
@[simp] theorem State.setNsq_attempting (s : State) (b : Sequencer) : (s.setNsq b).attempting = s.attempting := rfl
@[simp] theorem State.setNsq_receives (s : State) (b : Sequencer) : (s.setNsq b).receives = s.receives := rfl

@[simp] theorem State.setPins_nsq (s : State) (b : PinLevels) : (s.setPins b).nsq = s.nsq := rfl
@[simp] theorem State.setPins_pins (s : State) (b : PinLevels) : (s.setPins b).pins = b := rfl
@[simp] theorem State.setPins_stu (s : State) (b : PinLevels) : (s.setPins b).stu = s.stu := rfl
@[simp] theorem State.setPins_ptb (s : State) (b : PinLevels) : (s.setPins b).ptb = s.ptb := rfl
@[simp] theorem State.setPins_she (s : State) (b : PinLevels) : (s.setPins b).she = s.she := rfl
@[simp] theorem State.setPins_blu (s : State) (b : PinLevels) : (s.setPins b).blu = s.blu := rfl
@[simp] theorem State.setPins_plu (s : State) (b : PinLevels) : (s.setPins b).plu = s.plu := rfl
@[simp] theorem State.setPins_gsc (s : State) (b : PinLevels) : (s.setPins b).gsc = s.gsc := rfl
@[simp] theorem State.setPins_wau (s : State) (b : PinLevels) : (s.setPins b).wau = s.wau := rfl
@[simp] theorem State.setPins_sli (s : State) (b : PinLevels) : (s.setPins b).sli = s.sli := rfl
@[simp] theorem State.setPins_stp (s : State) (b : PinLevels) : (s.setPins b).stp = s.stp := rfl
@[simp] theorem State.setPins_mpt (s : State) (b : PinLevels) : (s.setPins b).mpt = s.mpt := rfl
@[simp] theorem State.setPins_free (s : State) (b : PinLevels) : (s.setPins b).free = s.free := rfl
@[simp] theorem State.setPins_pending (s : State) (b : PinLevels) : (s.setPins b).pending = s.pending := rfl
@[simp] theorem State.setPins_role (s : State) (b : PinLevels) : (s.setPins b).role = s.role := rfl
@[simp] theorem State.setPins_ownAddress (s : State) (b : PinLevels) : (s.setPins b).ownAddress = s.ownAddress := rfl
@[simp] theorem State.setPins_serves (s : State) (b : PinLevels) : (s.setPins b).serves = s.serves := rfl
@[simp] theorem State.setPins_withdraws (s : State) (b : PinLevels) : (s.setPins b).withdraws = s.withdraws := rfl
@[simp] theorem State.setPins_demandLost (s : State) (b : PinLevels) : (s.setPins b).demandLost = s.demandLost := rfl
@[simp] theorem State.setPins_attempting (s : State) (b : PinLevels) : (s.setPins b).attempting = s.attempting := rfl
@[simp] theorem State.setPins_receives (s : State) (b : PinLevels) : (s.setPins b).receives = s.receives := rfl

@[simp] theorem State.setStu_nsq (s : State) (b : StatusUnit) : (s.setStu b).nsq = s.nsq := rfl
@[simp] theorem State.setStu_pins (s : State) (b : StatusUnit) : (s.setStu b).pins = s.pins := rfl
@[simp] theorem State.setStu_stu (s : State) (b : StatusUnit) : (s.setStu b).stu = b := rfl
@[simp] theorem State.setStu_ptb (s : State) (b : StatusUnit) : (s.setStu b).ptb = s.ptb := rfl
@[simp] theorem State.setStu_she (s : State) (b : StatusUnit) : (s.setStu b).she = s.she := rfl
@[simp] theorem State.setStu_blu (s : State) (b : StatusUnit) : (s.setStu b).blu = s.blu := rfl
@[simp] theorem State.setStu_plu (s : State) (b : StatusUnit) : (s.setStu b).plu = s.plu := rfl
@[simp] theorem State.setStu_gsc (s : State) (b : StatusUnit) : (s.setStu b).gsc = s.gsc := rfl
@[simp] theorem State.setStu_wau (s : State) (b : StatusUnit) : (s.setStu b).wau = s.wau := rfl
@[simp] theorem State.setStu_sli (s : State) (b : StatusUnit) : (s.setStu b).sli = s.sli := rfl
@[simp] theorem State.setStu_stp (s : State) (b : StatusUnit) : (s.setStu b).stp = s.stp := rfl
@[simp] theorem State.setStu_mpt (s : State) (b : StatusUnit) : (s.setStu b).mpt = s.mpt := rfl
@[simp] theorem State.setStu_free (s : State) (b : StatusUnit) : (s.setStu b).free = s.free := rfl
@[simp] theorem State.setStu_pending (s : State) (b : StatusUnit) : (s.setStu b).pending = s.pending := rfl
@[simp] theorem State.setStu_role (s : State) (b : StatusUnit) : (s.setStu b).role = s.role := rfl
@[simp] theorem State.setStu_ownAddress (s : State) (b : StatusUnit) : (s.setStu b).ownAddress = s.ownAddress := rfl
@[simp] theorem State.setStu_serves (s : State) (b : StatusUnit) : (s.setStu b).serves = s.serves := rfl
@[simp] theorem State.setStu_attempting (s : State) (b : StatusUnit) : (s.setStu b).attempting = s.attempting := rfl
@[simp] theorem State.setStu_receives (s : State) (b : StatusUnit) : (s.setStu b).receives = s.receives := rfl

@[simp] theorem State.setPtb_nsq (s : State) (b : PeerTable) : (s.setPtb b).nsq = s.nsq := rfl
@[simp] theorem State.setPtb_pins (s : State) (b : PeerTable) : (s.setPtb b).pins = s.pins := rfl
@[simp] theorem State.setPtb_stu (s : State) (b : PeerTable) : (s.setPtb b).stu = s.stu := rfl
@[simp] theorem State.setPtb_ptb (s : State) (b : PeerTable) : (s.setPtb b).ptb = b := rfl
@[simp] theorem State.setPtb_she (s : State) (b : PeerTable) : (s.setPtb b).she = s.she := rfl
@[simp] theorem State.setPtb_blu (s : State) (b : PeerTable) : (s.setPtb b).blu = s.blu := rfl
@[simp] theorem State.setPtb_plu (s : State) (b : PeerTable) : (s.setPtb b).plu = s.plu := rfl
@[simp] theorem State.setPtb_gsc (s : State) (b : PeerTable) : (s.setPtb b).gsc = s.gsc := rfl
@[simp] theorem State.setPtb_wau (s : State) (b : PeerTable) : (s.setPtb b).wau = s.wau := rfl
@[simp] theorem State.setPtb_sli (s : State) (b : PeerTable) : (s.setPtb b).sli = s.sli := rfl
@[simp] theorem State.setPtb_stp (s : State) (b : PeerTable) : (s.setPtb b).stp = s.stp := rfl
@[simp] theorem State.setPtb_mpt (s : State) (b : PeerTable) : (s.setPtb b).mpt = s.mpt := rfl
@[simp] theorem State.setPtb_free (s : State) (b : PeerTable) : (s.setPtb b).free = s.free := rfl
@[simp] theorem State.setPtb_pending (s : State) (b : PeerTable) : (s.setPtb b).pending = s.pending := rfl
@[simp] theorem State.setPtb_role (s : State) (b : PeerTable) : (s.setPtb b).role = s.role := rfl
@[simp] theorem State.setPtb_ownAddress (s : State) (b : PeerTable) : (s.setPtb b).ownAddress = s.ownAddress := rfl
@[simp] theorem State.setPtb_serves (s : State) (b : PeerTable) : (s.setPtb b).serves = s.serves := rfl
@[simp] theorem State.setPtb_withdraws (s : State) (b : PeerTable) : (s.setPtb b).withdraws = s.withdraws := rfl
@[simp] theorem State.setPtb_demandLost (s : State) (b : PeerTable) : (s.setPtb b).demandLost = s.demandLost := rfl
@[simp] theorem State.setPtb_attempting (s : State) (b : PeerTable) : (s.setPtb b).attempting = s.attempting := rfl
@[simp] theorem State.setPtb_receives (s : State) (b : PeerTable) : (s.setPtb b).receives = s.receives := rfl

@[simp] theorem State.setShe_nsq (s : State) (b : ShareRecord) : (s.setShe b).nsq = s.nsq := rfl
@[simp] theorem State.setShe_pins (s : State) (b : ShareRecord) : (s.setShe b).pins = s.pins := rfl
@[simp] theorem State.setShe_stu (s : State) (b : ShareRecord) : (s.setShe b).stu = s.stu := rfl
@[simp] theorem State.setShe_ptb (s : State) (b : ShareRecord) : (s.setShe b).ptb = s.ptb := rfl
@[simp] theorem State.setShe_she (s : State) (b : ShareRecord) : (s.setShe b).she = b := rfl
@[simp] theorem State.setShe_blu (s : State) (b : ShareRecord) : (s.setShe b).blu = s.blu := rfl
@[simp] theorem State.setShe_plu (s : State) (b : ShareRecord) : (s.setShe b).plu = s.plu := rfl
@[simp] theorem State.setShe_gsc (s : State) (b : ShareRecord) : (s.setShe b).gsc = s.gsc := rfl
@[simp] theorem State.setShe_wau (s : State) (b : ShareRecord) : (s.setShe b).wau = s.wau := rfl
@[simp] theorem State.setShe_sli (s : State) (b : ShareRecord) : (s.setShe b).sli = s.sli := rfl
@[simp] theorem State.setShe_stp (s : State) (b : ShareRecord) : (s.setShe b).stp = s.stp := rfl
@[simp] theorem State.setShe_mpt (s : State) (b : ShareRecord) : (s.setShe b).mpt = s.mpt := rfl
@[simp] theorem State.setShe_free (s : State) (b : ShareRecord) : (s.setShe b).free = s.free := rfl
@[simp] theorem State.setShe_pending (s : State) (b : ShareRecord) : (s.setShe b).pending = s.pending := rfl
@[simp] theorem State.setShe_role (s : State) (b : ShareRecord) : (s.setShe b).role = s.role := rfl
@[simp] theorem State.setShe_ownAddress (s : State) (b : ShareRecord) : (s.setShe b).ownAddress = s.ownAddress := rfl
@[simp] theorem State.setShe_serves (s : State) (b : ShareRecord) : (s.setShe b).serves = s.serves := rfl
@[simp] theorem State.setShe_withdraws (s : State) (b : ShareRecord) : (s.setShe b).withdraws = s.withdraws := rfl
@[simp] theorem State.setShe_demandLost (s : State) (b : ShareRecord) : (s.setShe b).demandLost = s.demandLost := rfl
@[simp] theorem State.setShe_attempting (s : State) (b : ShareRecord) : (s.setShe b).attempting = s.attempting := rfl
@[simp] theorem State.setShe_receives (s : State) (b : ShareRecord) : (s.setShe b).receives = s.receives := rfl

@[simp] theorem State.setBlu_nsq (s : State) (b : BlendUnit) : (s.setBlu b).nsq = s.nsq := rfl
@[simp] theorem State.setBlu_pins (s : State) (b : BlendUnit) : (s.setBlu b).pins = s.pins := rfl
@[simp] theorem State.setBlu_stu (s : State) (b : BlendUnit) : (s.setBlu b).stu = s.stu := rfl
@[simp] theorem State.setBlu_ptb (s : State) (b : BlendUnit) : (s.setBlu b).ptb = s.ptb := rfl
@[simp] theorem State.setBlu_she (s : State) (b : BlendUnit) : (s.setBlu b).she = s.she := rfl
@[simp] theorem State.setBlu_blu (s : State) (b : BlendUnit) : (s.setBlu b).blu = b := rfl
@[simp] theorem State.setBlu_plu (s : State) (b : BlendUnit) : (s.setBlu b).plu = s.plu := rfl
@[simp] theorem State.setBlu_gsc (s : State) (b : BlendUnit) : (s.setBlu b).gsc = s.gsc := rfl
@[simp] theorem State.setBlu_wau (s : State) (b : BlendUnit) : (s.setBlu b).wau = s.wau := rfl
@[simp] theorem State.setBlu_sli (s : State) (b : BlendUnit) : (s.setBlu b).sli = s.sli := rfl
@[simp] theorem State.setBlu_stp (s : State) (b : BlendUnit) : (s.setBlu b).stp = s.stp := rfl
@[simp] theorem State.setBlu_mpt (s : State) (b : BlendUnit) : (s.setBlu b).mpt = s.mpt := rfl
@[simp] theorem State.setBlu_free (s : State) (b : BlendUnit) : (s.setBlu b).free = s.free := rfl
@[simp] theorem State.setBlu_pending (s : State) (b : BlendUnit) : (s.setBlu b).pending = s.pending := rfl
@[simp] theorem State.setBlu_role (s : State) (b : BlendUnit) : (s.setBlu b).role = s.role := rfl
@[simp] theorem State.setBlu_ownAddress (s : State) (b : BlendUnit) : (s.setBlu b).ownAddress = s.ownAddress := rfl
@[simp] theorem State.setBlu_serves (s : State) (b : BlendUnit) : (s.setBlu b).serves = s.serves := rfl
@[simp] theorem State.setBlu_withdraws (s : State) (b : BlendUnit) : (s.setBlu b).withdraws = s.withdraws := rfl
@[simp] theorem State.setBlu_demandLost (s : State) (b : BlendUnit) : (s.setBlu b).demandLost = s.demandLost := rfl
@[simp] theorem State.setBlu_attempting (s : State) (b : BlendUnit) : (s.setBlu b).attempting = s.attempting := rfl
@[simp] theorem State.setBlu_receives (s : State) (b : BlendUnit) : (s.setBlu b).receives = s.receives := rfl

@[simp] theorem State.setPlu_nsq (s : State) (b : PackUnit) : (s.setPlu b).nsq = s.nsq := rfl
@[simp] theorem State.setPlu_pins (s : State) (b : PackUnit) : (s.setPlu b).pins = s.pins := rfl
@[simp] theorem State.setPlu_stu (s : State) (b : PackUnit) : (s.setPlu b).stu = s.stu := rfl
@[simp] theorem State.setPlu_ptb (s : State) (b : PackUnit) : (s.setPlu b).ptb = s.ptb := rfl
@[simp] theorem State.setPlu_she (s : State) (b : PackUnit) : (s.setPlu b).she = s.she := rfl
@[simp] theorem State.setPlu_blu (s : State) (b : PackUnit) : (s.setPlu b).blu = s.blu := rfl
@[simp] theorem State.setPlu_plu (s : State) (b : PackUnit) : (s.setPlu b).plu = b := rfl
@[simp] theorem State.setPlu_gsc (s : State) (b : PackUnit) : (s.setPlu b).gsc = s.gsc := rfl
@[simp] theorem State.setPlu_wau (s : State) (b : PackUnit) : (s.setPlu b).wau = s.wau := rfl
@[simp] theorem State.setPlu_sli (s : State) (b : PackUnit) : (s.setPlu b).sli = s.sli := rfl
@[simp] theorem State.setPlu_stp (s : State) (b : PackUnit) : (s.setPlu b).stp = s.stp := rfl
@[simp] theorem State.setPlu_mpt (s : State) (b : PackUnit) : (s.setPlu b).mpt = s.mpt := rfl
@[simp] theorem State.setPlu_free (s : State) (b : PackUnit) : (s.setPlu b).free = s.free := rfl
@[simp] theorem State.setPlu_pending (s : State) (b : PackUnit) : (s.setPlu b).pending = s.pending := rfl
@[simp] theorem State.setPlu_role (s : State) (b : PackUnit) : (s.setPlu b).role = s.role := rfl
@[simp] theorem State.setPlu_ownAddress (s : State) (b : PackUnit) : (s.setPlu b).ownAddress = s.ownAddress := rfl
@[simp] theorem State.setPlu_serves (s : State) (b : PackUnit) : (s.setPlu b).serves = s.serves := rfl
@[simp] theorem State.setPlu_withdraws (s : State) (b : PackUnit) : (s.setPlu b).withdraws = s.withdraws := rfl
@[simp] theorem State.setPlu_demandLost (s : State) (b : PackUnit) : (s.setPlu b).demandLost = s.demandLost := rfl
@[simp] theorem State.setPlu_attempting (s : State) (b : PackUnit) : (s.setPlu b).attempting = s.attempting := rfl
@[simp] theorem State.setPlu_receives (s : State) (b : PackUnit) : (s.setPlu b).receives = s.receives := rfl

@[simp] theorem State.setGsc_nsq (s : State) (b : Genset) : (s.setGsc b).nsq = s.nsq := rfl
@[simp] theorem State.setGsc_pins (s : State) (b : Genset) : (s.setGsc b).pins = s.pins := rfl
@[simp] theorem State.setGsc_stu (s : State) (b : Genset) : (s.setGsc b).stu = s.stu := rfl
@[simp] theorem State.setGsc_ptb (s : State) (b : Genset) : (s.setGsc b).ptb = s.ptb := rfl
@[simp] theorem State.setGsc_she (s : State) (b : Genset) : (s.setGsc b).she = s.she := rfl
@[simp] theorem State.setGsc_blu (s : State) (b : Genset) : (s.setGsc b).blu = s.blu := rfl
@[simp] theorem State.setGsc_plu (s : State) (b : Genset) : (s.setGsc b).plu = s.plu := rfl
@[simp] theorem State.setGsc_gsc (s : State) (b : Genset) : (s.setGsc b).gsc = b := rfl
@[simp] theorem State.setGsc_wau (s : State) (b : Genset) : (s.setGsc b).wau = s.wau := rfl
@[simp] theorem State.setGsc_sli (s : State) (b : Genset) : (s.setGsc b).sli = s.sli := rfl
@[simp] theorem State.setGsc_stp (s : State) (b : Genset) : (s.setGsc b).stp = s.stp := rfl
@[simp] theorem State.setGsc_mpt (s : State) (b : Genset) : (s.setGsc b).mpt = s.mpt := rfl
@[simp] theorem State.setGsc_free (s : State) (b : Genset) : (s.setGsc b).free = s.free := rfl
@[simp] theorem State.setGsc_pending (s : State) (b : Genset) : (s.setGsc b).pending = s.pending := rfl
@[simp] theorem State.setGsc_role (s : State) (b : Genset) : (s.setGsc b).role = s.role := rfl
@[simp] theorem State.setGsc_ownAddress (s : State) (b : Genset) : (s.setGsc b).ownAddress = s.ownAddress := rfl
@[simp] theorem State.setGsc_serves (s : State) (b : Genset) : (s.setGsc b).serves = s.serves := rfl
@[simp] theorem State.setGsc_withdraws (s : State) (b : Genset) : (s.setGsc b).withdraws = s.withdraws := rfl
@[simp] theorem State.setGsc_demandLost (s : State) (b : Genset) : (s.setGsc b).demandLost = s.demandLost := rfl
@[simp] theorem State.setGsc_attempting (s : State) (b : Genset) : (s.setGsc b).attempting = s.attempting := rfl
@[simp] theorem State.setGsc_receives (s : State) (b : Genset) : (s.setGsc b).receives = s.receives := rfl

@[simp] theorem State.setWau_nsq (s : State) (b : Wear) : (s.setWau b).nsq = s.nsq := rfl
@[simp] theorem State.setWau_pins (s : State) (b : Wear) : (s.setWau b).pins = s.pins := rfl
@[simp] theorem State.setWau_stu (s : State) (b : Wear) : (s.setWau b).stu = s.stu := rfl
@[simp] theorem State.setWau_ptb (s : State) (b : Wear) : (s.setWau b).ptb = s.ptb := rfl
@[simp] theorem State.setWau_she (s : State) (b : Wear) : (s.setWau b).she = s.she := rfl
@[simp] theorem State.setWau_blu (s : State) (b : Wear) : (s.setWau b).blu = s.blu := rfl
@[simp] theorem State.setWau_plu (s : State) (b : Wear) : (s.setWau b).plu = s.plu := rfl
@[simp] theorem State.setWau_gsc (s : State) (b : Wear) : (s.setWau b).gsc = s.gsc := rfl
@[simp] theorem State.setWau_wau (s : State) (b : Wear) : (s.setWau b).wau = b := rfl
@[simp] theorem State.setWau_sli (s : State) (b : Wear) : (s.setWau b).sli = s.sli := rfl
@[simp] theorem State.setWau_stp (s : State) (b : Wear) : (s.setWau b).stp = s.stp := rfl
@[simp] theorem State.setWau_mpt (s : State) (b : Wear) : (s.setWau b).mpt = s.mpt := rfl
@[simp] theorem State.setWau_free (s : State) (b : Wear) : (s.setWau b).free = s.free := rfl
@[simp] theorem State.setWau_pending (s : State) (b : Wear) : (s.setWau b).pending = s.pending := rfl
@[simp] theorem State.setWau_role (s : State) (b : Wear) : (s.setWau b).role = s.role := rfl
@[simp] theorem State.setWau_ownAddress (s : State) (b : Wear) : (s.setWau b).ownAddress = s.ownAddress := rfl
@[simp] theorem State.setWau_serves (s : State) (b : Wear) : (s.setWau b).serves = s.serves := rfl
@[simp] theorem State.setWau_withdraws (s : State) (b : Wear) : (s.setWau b).withdraws = s.withdraws := rfl
@[simp] theorem State.setWau_demandLost (s : State) (b : Wear) : (s.setWau b).demandLost = s.demandLost := rfl
@[simp] theorem State.setWau_attempting (s : State) (b : Wear) : (s.setWau b).attempting = s.attempting := rfl
@[simp] theorem State.setWau_receives (s : State) (b : Wear) : (s.setWau b).receives = s.receives := rfl

@[simp] theorem State.setSli_nsq (s : State) (b : LineUnit) : (s.setSli b).nsq = s.nsq := rfl
@[simp] theorem State.setSli_pins (s : State) (b : LineUnit) : (s.setSli b).pins = s.pins := rfl
@[simp] theorem State.setSli_stu (s : State) (b : LineUnit) : (s.setSli b).stu = s.stu := rfl
@[simp] theorem State.setSli_ptb (s : State) (b : LineUnit) : (s.setSli b).ptb = s.ptb := rfl
@[simp] theorem State.setSli_she (s : State) (b : LineUnit) : (s.setSli b).she = s.she := rfl
@[simp] theorem State.setSli_blu (s : State) (b : LineUnit) : (s.setSli b).blu = s.blu := rfl
@[simp] theorem State.setSli_plu (s : State) (b : LineUnit) : (s.setSli b).plu = s.plu := rfl
@[simp] theorem State.setSli_gsc (s : State) (b : LineUnit) : (s.setSli b).gsc = s.gsc := rfl
@[simp] theorem State.setSli_wau (s : State) (b : LineUnit) : (s.setSli b).wau = s.wau := rfl
@[simp] theorem State.setSli_sli (s : State) (b : LineUnit) : (s.setSli b).sli = b := rfl
@[simp] theorem State.setSli_stp (s : State) (b : LineUnit) : (s.setSli b).stp = s.stp := rfl
@[simp] theorem State.setSli_mpt (s : State) (b : LineUnit) : (s.setSli b).mpt = s.mpt := rfl
@[simp] theorem State.setSli_free (s : State) (b : LineUnit) : (s.setSli b).free = s.free := rfl
@[simp] theorem State.setSli_pending (s : State) (b : LineUnit) : (s.setSli b).pending = s.pending := rfl
@[simp] theorem State.setSli_role (s : State) (b : LineUnit) : (s.setSli b).role = s.role := rfl
@[simp] theorem State.setSli_ownAddress (s : State) (b : LineUnit) : (s.setSli b).ownAddress = s.ownAddress := rfl
@[simp] theorem State.setSli_serves (s : State) (b : LineUnit) : (s.setSli b).serves = s.serves := rfl
@[simp] theorem State.setSli_withdraws (s : State) (b : LineUnit) : (s.setSli b).withdraws = s.withdraws := rfl
@[simp] theorem State.setSli_demandLost (s : State) (b : LineUnit) : (s.setSli b).demandLost = s.demandLost := rfl

@[simp] theorem State.setStp_nsq (s : State) (b : StagePort) : (s.setStp b).nsq = s.nsq := rfl
@[simp] theorem State.setStp_pins (s : State) (b : StagePort) : (s.setStp b).pins = s.pins := rfl
@[simp] theorem State.setStp_stu (s : State) (b : StagePort) : (s.setStp b).stu = s.stu := rfl
@[simp] theorem State.setStp_ptb (s : State) (b : StagePort) : (s.setStp b).ptb = s.ptb := rfl
@[simp] theorem State.setStp_she (s : State) (b : StagePort) : (s.setStp b).she = s.she := rfl
@[simp] theorem State.setStp_blu (s : State) (b : StagePort) : (s.setStp b).blu = s.blu := rfl
@[simp] theorem State.setStp_plu (s : State) (b : StagePort) : (s.setStp b).plu = s.plu := rfl
@[simp] theorem State.setStp_gsc (s : State) (b : StagePort) : (s.setStp b).gsc = s.gsc := rfl
@[simp] theorem State.setStp_wau (s : State) (b : StagePort) : (s.setStp b).wau = s.wau := rfl
@[simp] theorem State.setStp_sli (s : State) (b : StagePort) : (s.setStp b).sli = s.sli := rfl
@[simp] theorem State.setStp_stp (s : State) (b : StagePort) : (s.setStp b).stp = b := rfl
@[simp] theorem State.setStp_mpt (s : State) (b : StagePort) : (s.setStp b).mpt = s.mpt := rfl
@[simp] theorem State.setStp_free (s : State) (b : StagePort) : (s.setStp b).free = s.free := rfl
@[simp] theorem State.setStp_pending (s : State) (b : StagePort) : (s.setStp b).pending = s.pending := rfl
@[simp] theorem State.setStp_role (s : State) (b : StagePort) : (s.setStp b).role = s.role := rfl
@[simp] theorem State.setStp_ownAddress (s : State) (b : StagePort) : (s.setStp b).ownAddress = s.ownAddress := rfl
@[simp] theorem State.setStp_serves (s : State) (b : StagePort) : (s.setStp b).serves = s.serves := rfl
@[simp] theorem State.setStp_withdraws (s : State) (b : StagePort) : (s.setStp b).withdraws = s.withdraws := rfl
@[simp] theorem State.setStp_demandLost (s : State) (b : StagePort) : (s.setStp b).demandLost = s.demandLost := rfl
@[simp] theorem State.setStp_attempting (s : State) (b : StagePort) : (s.setStp b).attempting = s.attempting := rfl
@[simp] theorem State.setStp_receives (s : State) (b : StagePort) : (s.setStp b).receives = s.receives := rfl

@[simp] theorem State.setMpt_nsq (s : State) (b : MemoryPort) : (s.setMpt b).nsq = s.nsq := rfl
@[simp] theorem State.setMpt_pins (s : State) (b : MemoryPort) : (s.setMpt b).pins = s.pins := rfl
@[simp] theorem State.setMpt_stu (s : State) (b : MemoryPort) : (s.setMpt b).stu = s.stu := rfl
@[simp] theorem State.setMpt_ptb (s : State) (b : MemoryPort) : (s.setMpt b).ptb = s.ptb := rfl
@[simp] theorem State.setMpt_she (s : State) (b : MemoryPort) : (s.setMpt b).she = s.she := rfl
@[simp] theorem State.setMpt_blu (s : State) (b : MemoryPort) : (s.setMpt b).blu = s.blu := rfl
@[simp] theorem State.setMpt_plu (s : State) (b : MemoryPort) : (s.setMpt b).plu = s.plu := rfl
@[simp] theorem State.setMpt_gsc (s : State) (b : MemoryPort) : (s.setMpt b).gsc = s.gsc := rfl
@[simp] theorem State.setMpt_wau (s : State) (b : MemoryPort) : (s.setMpt b).wau = s.wau := rfl
@[simp] theorem State.setMpt_sli (s : State) (b : MemoryPort) : (s.setMpt b).sli = s.sli := rfl
@[simp] theorem State.setMpt_stp (s : State) (b : MemoryPort) : (s.setMpt b).stp = s.stp := rfl
@[simp] theorem State.setMpt_mpt (s : State) (b : MemoryPort) : (s.setMpt b).mpt = b := rfl
@[simp] theorem State.setMpt_free (s : State) (b : MemoryPort) : (s.setMpt b).free = s.free := rfl
@[simp] theorem State.setMpt_pending (s : State) (b : MemoryPort) : (s.setMpt b).pending = s.pending := rfl
@[simp] theorem State.setMpt_role (s : State) (b : MemoryPort) : (s.setMpt b).role = s.role := rfl
@[simp] theorem State.setMpt_ownAddress (s : State) (b : MemoryPort) : (s.setMpt b).ownAddress = s.ownAddress := rfl
@[simp] theorem State.setMpt_serves (s : State) (b : MemoryPort) : (s.setMpt b).serves = s.serves := rfl
@[simp] theorem State.setMpt_withdraws (s : State) (b : MemoryPort) : (s.setMpt b).withdraws = s.withdraws := rfl
@[simp] theorem State.setMpt_demandLost (s : State) (b : MemoryPort) : (s.setMpt b).demandLost = s.demandLost := rfl
@[simp] theorem State.setMpt_attempting (s : State) (b : MemoryPort) : (s.setMpt b).attempting = s.attempting := rfl
@[simp] theorem State.setMpt_receives (s : State) (b : MemoryPort) : (s.setMpt b).receives = s.receives := rfl

@[simp] theorem State.setFree_nsq (s : State) (b : Nat) : (s.setFree b).nsq = s.nsq := rfl
@[simp] theorem State.setFree_pins (s : State) (b : Nat) : (s.setFree b).pins = s.pins := rfl
@[simp] theorem State.setFree_stu (s : State) (b : Nat) : (s.setFree b).stu = s.stu := rfl
@[simp] theorem State.setFree_ptb (s : State) (b : Nat) : (s.setFree b).ptb = s.ptb := rfl
@[simp] theorem State.setFree_she (s : State) (b : Nat) : (s.setFree b).she = s.she := rfl
@[simp] theorem State.setFree_blu (s : State) (b : Nat) : (s.setFree b).blu = s.blu := rfl
@[simp] theorem State.setFree_plu (s : State) (b : Nat) : (s.setFree b).plu = s.plu := rfl
@[simp] theorem State.setFree_gsc (s : State) (b : Nat) : (s.setFree b).gsc = s.gsc := rfl
@[simp] theorem State.setFree_wau (s : State) (b : Nat) : (s.setFree b).wau = s.wau := rfl
@[simp] theorem State.setFree_sli (s : State) (b : Nat) : (s.setFree b).sli = s.sli := rfl
@[simp] theorem State.setFree_stp (s : State) (b : Nat) : (s.setFree b).stp = s.stp := rfl
@[simp] theorem State.setFree_mpt (s : State) (b : Nat) : (s.setFree b).mpt = s.mpt := rfl
@[simp] theorem State.setFree_free (s : State) (b : Nat) : (s.setFree b).free = b := rfl
@[simp] theorem State.setFree_pending (s : State) (b : Nat) : (s.setFree b).pending = s.pending := rfl
@[simp] theorem State.setFree_role (s : State) (b : Nat) : (s.setFree b).role = s.role := rfl
@[simp] theorem State.setFree_ownAddress (s : State) (b : Nat) : (s.setFree b).ownAddress = s.ownAddress := rfl
@[simp] theorem State.setFree_serves (s : State) (b : Nat) : (s.setFree b).serves = s.serves := rfl
@[simp] theorem State.setFree_withdraws (s : State) (b : Nat) : (s.setFree b).withdraws = s.withdraws := rfl
@[simp] theorem State.setFree_demandLost (s : State) (b : Nat) : (s.setFree b).demandLost = s.demandLost := rfl
@[simp] theorem State.setFree_attempting (s : State) (b : Nat) : (s.setFree b).attempting = s.attempting := rfl
@[simp] theorem State.setFree_receives (s : State) (b : Nat) : (s.setFree b).receives = s.receives := rfl

@[simp] theorem State.setPending_nsq (s : State) (b : List Instr) : (s.setPending b).nsq = s.nsq := rfl
@[simp] theorem State.setPending_pins (s : State) (b : List Instr) : (s.setPending b).pins = s.pins := rfl
@[simp] theorem State.setPending_stu (s : State) (b : List Instr) : (s.setPending b).stu = s.stu := rfl
@[simp] theorem State.setPending_ptb (s : State) (b : List Instr) : (s.setPending b).ptb = s.ptb := rfl
@[simp] theorem State.setPending_she (s : State) (b : List Instr) : (s.setPending b).she = s.she := rfl
@[simp] theorem State.setPending_blu (s : State) (b : List Instr) : (s.setPending b).blu = s.blu := rfl
@[simp] theorem State.setPending_plu (s : State) (b : List Instr) : (s.setPending b).plu = s.plu := rfl
@[simp] theorem State.setPending_gsc (s : State) (b : List Instr) : (s.setPending b).gsc = s.gsc := rfl
@[simp] theorem State.setPending_wau (s : State) (b : List Instr) : (s.setPending b).wau = s.wau := rfl
@[simp] theorem State.setPending_sli (s : State) (b : List Instr) : (s.setPending b).sli = s.sli := rfl
@[simp] theorem State.setPending_stp (s : State) (b : List Instr) : (s.setPending b).stp = s.stp := rfl
@[simp] theorem State.setPending_mpt (s : State) (b : List Instr) : (s.setPending b).mpt = s.mpt := rfl
@[simp] theorem State.setPending_free (s : State) (b : List Instr) : (s.setPending b).free = s.free := rfl
@[simp] theorem State.setPending_pending (s : State) (b : List Instr) : (s.setPending b).pending = b := rfl
@[simp] theorem State.setPending_role (s : State) (b : List Instr) : (s.setPending b).role = s.role := rfl
@[simp] theorem State.setPending_ownAddress (s : State) (b : List Instr) : (s.setPending b).ownAddress = s.ownAddress := rfl
@[simp] theorem State.setPending_serves (s : State) (b : List Instr) : (s.setPending b).serves = s.serves := rfl
@[simp] theorem State.setPending_withdraws (s : State) (b : List Instr) : (s.setPending b).withdraws = s.withdraws := rfl
@[simp] theorem State.setPending_demandLost (s : State) (b : List Instr) : (s.setPending b).demandLost = s.demandLost := rfl
@[simp] theorem State.setPending_attempting (s : State) (b : List Instr) : (s.setPending b).attempting = s.attempting := rfl
@[simp] theorem State.setPending_receives (s : State) (b : List Instr) : (s.setPending b).receives = s.receives := rfl

/-- An update of `nsq` by its own value changes nothing. -/
theorem State.setNsq_self (s : State) : s.setNsq s.nsq = s := rfl

/-- An update of `pins` by its own value changes nothing. -/
theorem State.setPins_self (s : State) : s.setPins s.pins = s := rfl

/-- An update of `stu` by its own value changes nothing. -/
theorem State.setStu_self (s : State) : s.setStu s.stu = s := rfl

/-- An update of `ptb` by its own value changes nothing. -/
theorem State.setPtb_self (s : State) : s.setPtb s.ptb = s := rfl

/-- An update of `she` by its own value changes nothing. -/
theorem State.setShe_self (s : State) : s.setShe s.she = s := rfl

/-- An update of `blu` by its own value changes nothing. -/
theorem State.setBlu_self (s : State) : s.setBlu s.blu = s := rfl

/-- An update of `plu` by its own value changes nothing. -/
theorem State.setPlu_self (s : State) : s.setPlu s.plu = s := rfl

/-- An update of `gsc` by its own value changes nothing. -/
theorem State.setGsc_self (s : State) : s.setGsc s.gsc = s := rfl

/-- An update of `wau` by its own value changes nothing. -/
theorem State.setWau_self (s : State) : s.setWau s.wau = s := rfl

/-- An update of `sli` by its own value changes nothing. -/
theorem State.setSli_self (s : State) : s.setSli s.sli = s := rfl

/-- An update of `stp` by its own value changes nothing. -/
theorem State.setStp_self (s : State) : s.setStp s.stp = s := rfl

/-- An update of `mpt` by its own value changes nothing. -/
theorem State.setMpt_self (s : State) : s.setMpt s.mpt = s := rfl

/-- An update of `free` by its own value changes nothing. -/
theorem State.setFree_self (s : State) : s.setFree s.free = s := rfl

/-- An update of `pending` by its own value changes nothing. -/
theorem State.setPending_self (s : State) : s.setPending s.pending = s := rfl

/-- Two states that agree in every block are equal. -/
theorem State.eq_of_blocks {s t : State} (h1 : s.nsq = t.nsq) (h2 : s.pins = t.pins) (h3 : s.stu = t.stu)
    (h4 : s.ptb = t.ptb) (h5 : s.she = t.she) (h6 : s.blu = t.blu) (h7 : s.plu = t.plu) (h8 : s.gsc = t.gsc)
    (h9 : s.wau = t.wau) (h10 : s.sli = t.sli) (h11 : s.stp = t.stp) (h12 : s.mpt = t.mpt) (h13 : s.free = t.free)
    (h14 : s.pending = t.pending) : s = t := by
  cases s; cases t; simp_all

end Sys2Proof.Machine
end

