-- ==== Sys2Proof/Laws/Memory.lean ====
section
/-! SUPPORT. The EEPROM: every operation keeps the canonical form, a read after a write gives the byte written, and a
write leaves every other byte alone. -/

namespace Sys2Proof.Machine

@[simp] theorem Memory.read_nil (a : Nat) : Memory.read [] a = blankByte := rfl

theorem Memory.risingFrom_mono {lo hi : Nat} {m : Memory} (h : lo ≤ hi) (hm : Memory.risingFrom hi m = true) :
    Memory.risingFrom lo m = true := by
  cases m with
  | nil => rfl
  | cons p m =>
    obtain ⟨b, v⟩ := p
    simp only [Memory.risingFrom, Bool.and_eq_true, decide_eq_true_eq] at hm ⊢
    exact ⟨⟨by omega, hm.1.2⟩, hm.2⟩

/-- Below the first listed address every byte is blank. -/
theorem Memory.read_below {lo a : Nat} {m : Memory} (hm : Memory.risingFrom lo m = true) (h : a < lo) :
    Memory.read m a = blankByte := by
  induction m generalizing lo with
  | nil => rfl
  | cons p m ih =>
    obtain ⟨b, v⟩ := p
    simp only [Memory.risingFrom, Bool.and_eq_true, decide_eq_true_eq] at hm
    have hb : ¬ b = a := by omega
    simp only [Memory.read, hb, if_false]
    exact ih hm.2 (by omega)

theorem Memory.erase_rising {lo : Nat} {m : Memory} (a : Nat) (hm : Memory.risingFrom lo m = true) :
    Memory.risingFrom lo (Memory.erase m a) = true := by
  induction m generalizing lo with
  | nil => rfl
  | cons p m ih =>
    obtain ⟨b, v⟩ := p
    simp only [Memory.risingFrom, Bool.and_eq_true, decide_eq_true_eq] at hm
    by_cases hb : b = a
    · simp only [Memory.erase, hb, if_true]
      exact Memory.risingFrom_mono (by omega) hm.2
    · simp only [Memory.erase, hb, if_false, Memory.risingFrom, Bool.and_eq_true, decide_eq_true_eq]
      exact ⟨hm.1, ih hm.2⟩

/-- Inserting a byte that is not blank, at an address not listed, keeps the rising order. -/
theorem Memory.insert_rising {lo a : Nat} {m : Memory} {w : Byte} (hw : w ≠ blankByte) (hlo : lo ≤ a)
    (hm : Memory.risingFrom lo m = true) (ha : Memory.read m a = blankByte) :
    Memory.risingFrom lo (Memory.insert m a w) = true := by
  induction m generalizing lo with
  | nil => simp [Memory.insert, Memory.risingFrom, hlo, hw]
  | cons p m ih =>
    obtain ⟨b, v⟩ := p
    simp only [Memory.risingFrom, Bool.and_eq_true, decide_eq_true_eq] at hm
    by_cases hb : a < b
    · simp only [Memory.insert, hb, if_true, Memory.risingFrom, Bool.and_eq_true, decide_eq_true_eq]
      exact ⟨⟨hlo, hw⟩, ⟨by omega, hm.1.2⟩, hm.2⟩
    · simp only [Memory.insert, hb, if_false, Memory.risingFrom, Bool.and_eq_true, decide_eq_true_eq]
      refine ⟨hm.1, ?_⟩
      by_cases hab : b = a
      · exact absurd (by simpa [Memory.read, hab] using ha) hm.1.2
      · refine ih (by omega) hm.2 ?_
        simpa [Memory.read, hab] using ha

theorem Memory.read_erase {lo : Nat} {m : Memory} (a b : Nat) (hm : Memory.risingFrom lo m = true) :
    Memory.read (Memory.erase m a) b = if b = a then blankByte else Memory.read m b := by
  induction m generalizing lo with
  | nil => simp [Memory.erase]
  | cons p m ih =>
    obtain ⟨c, v⟩ := p
    simp only [Memory.risingFrom, Bool.and_eq_true, decide_eq_true_eq] at hm
    by_cases hc : c = a
    · simp only [Memory.erase, hc, if_true]
      by_cases hb : b = a
      · simp only [hb, if_true]
        exact Memory.read_below hm.2 (by omega)
      · have : ¬ a = b := fun h => hb h.symm
        simp [Memory.read, hb, this]
    · simp only [Memory.erase, hc, if_false, Memory.read]
      by_cases hb : c = b
      · have : ¬ b = a := by omega
        simp [hb, this]
      · simp only [hb, if_false]
        exact ih hm.2

theorem Memory.read_insert {a : Nat} {m : Memory} (b : Nat) (w : Byte) (ha : Memory.read m a = blankByte)
    {lo : Nat} (hm : Memory.risingFrom lo m = true) :
    Memory.read (Memory.insert m a w) b = if b = a then w else Memory.read m b := by
  induction m generalizing lo with
  | nil =>
    by_cases hb : b = a
    · simp [Memory.insert, Memory.read, hb]
    · have : ¬ a = b := fun h => hb h.symm
      simp [Memory.insert, Memory.read, hb, this]
  | cons p m ih =>
    obtain ⟨c, v⟩ := p
    simp only [Memory.risingFrom, Bool.and_eq_true, decide_eq_true_eq] at hm
    by_cases hac : a < c
    · simp only [Memory.insert, hac, if_true, Memory.read]
      by_cases hb : b = a
      · simp [hb]
      · have : ¬ a = b := fun h => hb h.symm
        simp [hb, this]
    · simp only [Memory.insert, hac, if_false, Memory.read]
      by_cases hca : c = a
      · exact absurd (by simpa [Memory.read, hca] using ha) hm.1.2
      · have ha' : Memory.read m a = blankByte := by simpa [Memory.read, hca] using ha
        by_cases hb : c = b
        · have : ¬ b = a := by omega
          simp [hb, this]
        · simp only [hb, if_false]
          exact ih ha' hm.2

/-- A write keeps the canonical form. -/
theorem Memory.write_wf {m : Memory} (a : Nat) (w : Byte) (h : m.wf = true) : (Memory.write m a w).wf = true := by
  unfold Memory.write Memory.wf at *
  split
  · exact Memory.erase_rising a h
  · next hw =>
    exact Memory.insert_rising hw (Nat.zero_le a) (Memory.erase_rising a h) (by rw [Memory.read_erase a a h]; simp)

/-- A read after a write: the byte written at its address, the byte before elsewhere. -/
theorem Memory.read_write {m : Memory} (a b : Nat) (w : Byte) (h : m.wf = true) :
    Memory.read (Memory.write m a w) b = if b = a then w else Memory.read m b := by
  unfold Memory.write
  have h' : Memory.risingFrom 0 m = true := h
  split
  · next hw => rw [Memory.read_erase a b h', hw]
  · rw [Memory.read_insert b w (by rw [Memory.read_erase a a h']; simp) (Memory.erase_rising a h'),
      Memory.read_erase a b h']
    split <;> rfl

/-- Writing bytes from an address upward keeps the canonical form. -/
theorem Memory.writeAll_wf {m : Memory} (a : Nat) (ws : List Byte) (h : m.wf = true) :
    (Memory.writeAll m a ws).wf = true := by
  induction ws generalizing m a with
  | nil => exact h
  | cons w ws ih => exact ih (a + 1) (Memory.write_wf a w h)

/-- A read after bytes are written from `a` upward: inside the run the byte written, outside it the byte before. -/
theorem Memory.read_writeAll {m : Memory} (a b : Nat) (ws : List Byte) (h : m.wf = true) :
    Memory.read (Memory.writeAll m a ws) b
      = if a ≤ b ∧ b < a + ws.length then ws.getD (b - a) 0 else Memory.read m b := by
  induction ws generalizing m a with
  | nil =>
    simp [Memory.writeAll]
  | cons w ws ih =>
    rw [Memory.writeAll, ih (a + 1) (Memory.write_wf a w h), Memory.read_write a b w h]
    by_cases hb : b = a
    · subst hb
      simp
    · by_cases hin : a + 1 ≤ b ∧ b < a + 1 + ws.length
      · have h2 : a ≤ b ∧ b < a + (w :: ws).length := by simp only [List.length_cons]; omega
        simp only [hin, h2, and_self, if_true]
        have : b - a = (b - (a + 1)) + 1 := by omega
        rw [this]; rfl
      · have h2 : ¬ (a ≤ b ∧ b < a + (w :: ws).length) := by simp only [List.length_cons]; omega
        simp only [hin, h2, hb, if_false]

/-- A byte outside the run written reads as before. -/
theorem Memory.read_writeAll_outside {m : Memory} {a b : Nat} {ws : List Byte} (h : m.wf = true)
    (hb : b < a ∨ a + ws.length ≤ b) : Memory.read (Memory.writeAll m a ws) b = Memory.read m b := by
  rw [Memory.read_writeAll a b ws h, if_neg (by omega)]

@[simp] theorem bytesOfWord_length (w : Word) : (bytesOfWord w).length = 2 := rfl

@[simp] theorem tornBytes_length (k n : Nat) : (tornBytes k n).length = n := by simp [tornBytes]

/-- Writing a word of the image keeps the canonical form. -/
theorem writeEepromWord_wf {m : Memory} (n : Nat) (w : Word) (h : m.wf = true) : (writeEepromWord m n w).wf = true :=
  Memory.writeAll_wf _ _ h

/-- The memory of State.reset is canonical. -/
theorem reset_memory_wf : State.reset.mpt.eeprom.wf = true := rfl

/-- Two canonical memories that read alike are equal. -/
theorem Memory.eq_of_read {lo : Nat} {m n : Memory} (hm : Memory.risingFrom lo m = true)
    (hn : Memory.risingFrom lo n = true) (h : ∀ a, Memory.read m a = Memory.read n a) : m = n := by
  induction m generalizing lo n with
  | nil =>
    cases n with
    | nil => rfl
    | cons p n =>
      obtain ⟨b, v⟩ := p
      simp only [Memory.risingFrom, Bool.and_eq_true, decide_eq_true_eq] at hn
      have := h b
      simp [Memory.read] at this
      exact absurd this.symm hn.1.2
  | cons p m ih =>
    obtain ⟨b, v⟩ := p
    simp only [Memory.risingFrom, Bool.and_eq_true, decide_eq_true_eq] at hm
    cases n with
    | nil =>
      have := h b
      simp [Memory.read] at this
      exact absurd this hm.1.2
    | cons q n =>
      obtain ⟨c, w⟩ := q
      simp only [Memory.risingFrom, Bool.and_eq_true, decide_eq_true_eq] at hn
      have hbc : b = c := by
        rcases Nat.lt_trichotomy b c with hlt | heq | hgt
        · have hb := h b
          have hcb : ¬ c = b := by omega
          simp only [Memory.read, if_true, hcb, if_false] at hb
          rw [Memory.read_below hn.2 (by omega)] at hb
          exact absurd hb hm.1.2
        · exact heq
        · have hc := h c
          have hbc : ¬ b = c := by omega
          simp only [Memory.read, if_true, hbc, if_false] at hc
          rw [Memory.read_below hm.2 (by omega)] at hc
          exact absurd hc.symm hn.1.2
      subst hbc
      have hv : v = w := by simpa [Memory.read] using h b
      subst hv
      have htail : m = n := by
        refine ih hm.2 hn.2 fun a => ?_
        by_cases hab : b = a
        · rw [Memory.read_below hm.2 (by omega), Memory.read_below hn.2 (by omega)]
        · simpa [Memory.read, hab] using h a
      rw [htail]

end Sys2Proof.Machine
end

