-- ==== Sys2Proof/Laws/Status.lean ====
section
/-! SUPPORT. The status set: what a status reads after another is put. -/

namespace Sys2Proof.Machine

theorem Status.index_eq_ctorIdx (x : Status) : x.index = x.ctorIdx := by cases x <;> rfl

theorem Status.index_lt (x : Status) : x.index < 24 := by cases x <;> decide

/-- Statuses are told apart by their indices. -/
theorem Status.index_inj {x y : Status} : x.index = y.index ↔ x = y := by
  constructor
  · intro h
    rw [Status.index_eq_ctorIdx, Status.index_eq_ctorIdx] at h
    rw [← Status.ofNat_ctorIdx x, ← Status.ofNat_ctorIdx y, h]
  · rintro rfl; rfl

/-- A status reads as put, and every other as before. -/
theorem statusIn_statusPut (σ : StatusSet) (x y : Status) (b : Bool) :
    statusIn (statusPut σ x b) y = if x = y then b else statusIn σ y := by
  have hx := x.index_lt
  have hy := y.index_lt
  have hbit : (1#24 <<< x.index).getLsbD y.index = decide (x = y) := by
    rw [BitVec.getLsbD_shiftLeft]
    by_cases hxy : x = y
    · subst hxy; simp [hx]
    · have : x.index ≠ y.index := fun h => hxy (Status.index_inj.mp h)
      simp only [hxy, decide_false]
      by_cases hlt : y.index < x.index
      · simp [hlt]
      · have : y.index - x.index ≠ 0 := by omega
        simp [this]
  cases b
  · simp only [statusIn, statusPut, Bool.false_eq_true, if_false, BitVec.getLsbD_and, BitVec.getLsbD_not, hbit]
    by_cases hxy : x = y <;> simp [hxy, hy]
  · simp only [statusIn, statusPut, if_true, BitVec.getLsbD_or, hbit]
    by_cases hxy : x = y <;> simp [hxy]

@[simp] theorem statusIn_statusPut_self (σ : StatusSet) (x : Status) (b : Bool) :
    statusIn (statusPut σ x b) x = b := by rw [statusIn_statusPut, if_pos rfl]

/-- Two sets with the same 24 statuses are equal. -/
theorem statusSet_ext {σ τ : StatusSet} (h : ∀ x, statusIn σ x = statusIn τ x) : σ = τ := by
  apply BitVec.eq_of_getLsbD_eq
  intro i hi
  interval_cases i
  · exact h .clash
  · exact h .strap
  · exact h .cfgDefault
  · exact h .cfgCorrupt
  · exact h .memFault
  · exact h .wearBlank
  · exact h .stageLost
  · exact h .partnerFault
  · exact h .plausU
  · exact h .plausSpeed
  · exact h .speedFault
  · exact h .demandLost
  · exact h .linkQuiet
  · exact h .linkNoisy
  · exact h .tableFull
  · exact h .shortBrake
  · exact h .derate
  · exact h .stageHot
  · exact h .wearNear
  · exact h .wearDue
  · exact h .startFail
  · exact h .stall
  · exact h .forcedFault
  · exact h .forcedWarn

end Sys2Proof.Machine
end

