-- ==== Sys2Proof/Laws/Ops.lean ====
section
/-! SUPPORT. What each shared operation can change: one lemma for each block that a one-block operation leaves alone, and
for the operations that reach across blocks what they answer. -/

namespace Sys2Proof.Machine

/-! ### putStatus -/

@[simp] theorem State.putStatus_nsq (s : State) (x : Status) (v : Bool) : (s.putStatus x v).nsq = s.nsq := rfl
@[simp] theorem State.putStatus_pins (s : State) (x : Status) (v : Bool) : (s.putStatus x v).pins = s.pins := rfl
@[simp] theorem State.putStatus_ptb (s : State) (x : Status) (v : Bool) : (s.putStatus x v).ptb = s.ptb := rfl
@[simp] theorem State.putStatus_she (s : State) (x : Status) (v : Bool) : (s.putStatus x v).she = s.she := rfl
@[simp] theorem State.putStatus_blu (s : State) (x : Status) (v : Bool) : (s.putStatus x v).blu = s.blu := rfl
@[simp] theorem State.putStatus_plu (s : State) (x : Status) (v : Bool) : (s.putStatus x v).plu = s.plu := rfl
@[simp] theorem State.putStatus_gsc (s : State) (x : Status) (v : Bool) : (s.putStatus x v).gsc = s.gsc := rfl
@[simp] theorem State.putStatus_wau (s : State) (x : Status) (v : Bool) : (s.putStatus x v).wau = s.wau := rfl
@[simp] theorem State.putStatus_sli (s : State) (x : Status) (v : Bool) : (s.putStatus x v).sli = s.sli := rfl
@[simp] theorem State.putStatus_stp (s : State) (x : Status) (v : Bool) : (s.putStatus x v).stp = s.stp := rfl
@[simp] theorem State.putStatus_mpt (s : State) (x : Status) (v : Bool) : (s.putStatus x v).mpt = s.mpt := rfl
@[simp] theorem State.putStatus_free (s : State) (x : Status) (v : Bool) : (s.putStatus x v).free = s.free := rfl
@[simp] theorem State.putStatus_pending (s : State) (x : Status) (v : Bool) : (s.putStatus x v).pending = s.pending := rfl
@[simp] theorem State.putStatus_role (s : State) (x : Status) (v : Bool) : (s.putStatus x v).role = s.role := rfl
@[simp] theorem State.putStatus_ownAddress (s : State) (x : Status) (v : Bool) : (s.putStatus x v).ownAddress = s.ownAddress := rfl
@[simp] theorem State.putStatus_serves (s : State) (x : Status) (v : Bool) : (s.putStatus x v).serves = s.serves := rfl
@[simp] theorem State.putStatus_waitsStandby (s : State) (x : Status) (v : Bool) : (s.putStatus x v).waitsStandby = s.waitsStandby := rfl
@[simp] theorem State.putStatus_attempting (s : State) (x : Status) (v : Bool) : (s.putStatus x v).attempting = s.attempting := rfl
@[simp] theorem State.putStatus_receives (s : State) (x : Status) (v : Bool) : (s.putStatus x v).receives = s.receives := rfl

/-! ### requestPrompt -/

@[simp] theorem State.requestPrompt_nsq (s : State) : (s.requestPrompt).nsq = s.nsq := rfl
@[simp] theorem State.requestPrompt_pins (s : State) : (s.requestPrompt).pins = s.pins := rfl
@[simp] theorem State.requestPrompt_stu (s : State) : (s.requestPrompt).stu = s.stu := rfl
@[simp] theorem State.requestPrompt_ptb (s : State) : (s.requestPrompt).ptb = s.ptb := rfl
@[simp] theorem State.requestPrompt_she (s : State) : (s.requestPrompt).she = s.she := rfl
@[simp] theorem State.requestPrompt_blu (s : State) : (s.requestPrompt).blu = s.blu := rfl
@[simp] theorem State.requestPrompt_plu (s : State) : (s.requestPrompt).plu = s.plu := rfl
@[simp] theorem State.requestPrompt_gsc (s : State) : (s.requestPrompt).gsc = s.gsc := rfl
@[simp] theorem State.requestPrompt_wau (s : State) : (s.requestPrompt).wau = s.wau := rfl
@[simp] theorem State.requestPrompt_stp (s : State) : (s.requestPrompt).stp = s.stp := rfl
@[simp] theorem State.requestPrompt_mpt (s : State) : (s.requestPrompt).mpt = s.mpt := rfl
@[simp] theorem State.requestPrompt_free (s : State) : (s.requestPrompt).free = s.free := rfl
@[simp] theorem State.requestPrompt_pending (s : State) : (s.requestPrompt).pending = s.pending := rfl
@[simp] theorem State.requestPrompt_role (s : State) : (s.requestPrompt).role = s.role := rfl
@[simp] theorem State.requestPrompt_ownAddress (s : State) : (s.requestPrompt).ownAddress = s.ownAddress := rfl
@[simp] theorem State.requestPrompt_serves (s : State) : (s.requestPrompt).serves = s.serves := rfl
@[simp] theorem State.requestPrompt_withdraws (s : State) : (s.requestPrompt).withdraws = s.withdraws := rfl
@[simp] theorem State.requestPrompt_demandLost (s : State) : (s.requestPrompt).demandLost = s.demandLost := rfl
@[simp] theorem State.requestPrompt_given (s : State) : (s.requestPrompt).given = s.given := rfl
@[simp] theorem State.requestPrompt_waitsStandby (s : State) : (s.requestPrompt).waitsStandby = s.waitsStandby := rfl

/-! ### frameEnds -/

@[simp] theorem State.frameEnds_nsq (s : State) : (s.frameEnds).nsq = s.nsq := rfl
@[simp] theorem State.frameEnds_pins (s : State) : (s.frameEnds).pins = s.pins := rfl
@[simp] theorem State.frameEnds_stu (s : State) : (s.frameEnds).stu = s.stu := rfl
@[simp] theorem State.frameEnds_ptb (s : State) : (s.frameEnds).ptb = s.ptb := rfl
@[simp] theorem State.frameEnds_she (s : State) : (s.frameEnds).she = s.she := rfl
@[simp] theorem State.frameEnds_blu (s : State) : (s.frameEnds).blu = s.blu := rfl
@[simp] theorem State.frameEnds_plu (s : State) : (s.frameEnds).plu = s.plu := rfl
@[simp] theorem State.frameEnds_gsc (s : State) : (s.frameEnds).gsc = s.gsc := rfl
@[simp] theorem State.frameEnds_wau (s : State) : (s.frameEnds).wau = s.wau := rfl
@[simp] theorem State.frameEnds_stp (s : State) : (s.frameEnds).stp = s.stp := rfl
@[simp] theorem State.frameEnds_mpt (s : State) : (s.frameEnds).mpt = s.mpt := rfl
@[simp] theorem State.frameEnds_free (s : State) : (s.frameEnds).free = s.free := rfl
@[simp] theorem State.frameEnds_pending (s : State) : (s.frameEnds).pending = s.pending := rfl
@[simp] theorem State.frameEnds_role (s : State) : (s.frameEnds).role = s.role := rfl
@[simp] theorem State.frameEnds_ownAddress (s : State) : (s.frameEnds).ownAddress = s.ownAddress := rfl
@[simp] theorem State.frameEnds_serves (s : State) : (s.frameEnds).serves = s.serves := rfl
@[simp] theorem State.frameEnds_withdraws (s : State) : (s.frameEnds).withdraws = s.withdraws := rfl
@[simp] theorem State.frameEnds_demandLost (s : State) : (s.frameEnds).demandLost = s.demandLost := rfl
@[simp] theorem State.frameEnds_given (s : State) : (s.frameEnds).given = s.given := rfl
@[simp] theorem State.frameEnds_waitsStandby (s : State) : (s.frameEnds).waitsStandby = s.waitsStandby := rfl

/-! ### reply -/

@[simp] theorem State.reply_nsq (s : State) (n : Nat) (r : ReplyResult) (d : List Word) : (s.reply n r d).nsq = s.nsq := rfl
@[simp] theorem State.reply_pins (s : State) (n : Nat) (r : ReplyResult) (d : List Word) : (s.reply n r d).pins = s.pins := rfl
@[simp] theorem State.reply_stu (s : State) (n : Nat) (r : ReplyResult) (d : List Word) : (s.reply n r d).stu = s.stu := rfl
@[simp] theorem State.reply_ptb (s : State) (n : Nat) (r : ReplyResult) (d : List Word) : (s.reply n r d).ptb = s.ptb := rfl
@[simp] theorem State.reply_she (s : State) (n : Nat) (r : ReplyResult) (d : List Word) : (s.reply n r d).she = s.she := rfl
@[simp] theorem State.reply_blu (s : State) (n : Nat) (r : ReplyResult) (d : List Word) : (s.reply n r d).blu = s.blu := rfl
@[simp] theorem State.reply_plu (s : State) (n : Nat) (r : ReplyResult) (d : List Word) : (s.reply n r d).plu = s.plu := rfl
@[simp] theorem State.reply_gsc (s : State) (n : Nat) (r : ReplyResult) (d : List Word) : (s.reply n r d).gsc = s.gsc := rfl
@[simp] theorem State.reply_wau (s : State) (n : Nat) (r : ReplyResult) (d : List Word) : (s.reply n r d).wau = s.wau := rfl
@[simp] theorem State.reply_stp (s : State) (n : Nat) (r : ReplyResult) (d : List Word) : (s.reply n r d).stp = s.stp := rfl
@[simp] theorem State.reply_mpt (s : State) (n : Nat) (r : ReplyResult) (d : List Word) : (s.reply n r d).mpt = s.mpt := rfl
@[simp] theorem State.reply_free (s : State) (n : Nat) (r : ReplyResult) (d : List Word) : (s.reply n r d).free = s.free := rfl
@[simp] theorem State.reply_pending (s : State) (n : Nat) (r : ReplyResult) (d : List Word) : (s.reply n r d).pending = s.pending := rfl
@[simp] theorem State.reply_role (s : State) (n : Nat) (r : ReplyResult) (d : List Word) : (s.reply n r d).role = s.role := rfl
@[simp] theorem State.reply_ownAddress (s : State) (n : Nat) (r : ReplyResult) (d : List Word) : (s.reply n r d).ownAddress = s.ownAddress := rfl
@[simp] theorem State.reply_serves (s : State) (n : Nat) (r : ReplyResult) (d : List Word) : (s.reply n r d).serves = s.serves := rfl
@[simp] theorem State.reply_withdraws (s : State) (n : Nat) (r : ReplyResult) (d : List Word) : (s.reply n r d).withdraws = s.withdraws := rfl
@[simp] theorem State.reply_demandLost (s : State) (n : Nat) (r : ReplyResult) (d : List Word) : (s.reply n r d).demandLost = s.demandLost := rfl
@[simp] theorem State.reply_given (s : State) (n : Nat) (r : ReplyResult) (d : List Word) : (s.reply n r d).given = s.given := rfl
@[simp] theorem State.reply_waitsStandby (s : State) (n : Nat) (r : ReplyResult) (d : List Word) : (s.reply n r d).waitsStandby = s.waitsStandby := rfl

/-! ### writeSlot0 -/

@[simp] theorem State.writeSlot0_nsq (s : State) (p : Setpoint) : (s.writeSlot0 p).nsq = s.nsq := rfl
@[simp] theorem State.writeSlot0_pins (s : State) (p : Setpoint) : (s.writeSlot0 p).pins = s.pins := rfl
@[simp] theorem State.writeSlot0_stu (s : State) (p : Setpoint) : (s.writeSlot0 p).stu = s.stu := rfl
@[simp] theorem State.writeSlot0_ptb (s : State) (p : Setpoint) : (s.writeSlot0 p).ptb = s.ptb := rfl
@[simp] theorem State.writeSlot0_she (s : State) (p : Setpoint) : (s.writeSlot0 p).she = s.she := rfl
@[simp] theorem State.writeSlot0_blu (s : State) (p : Setpoint) : (s.writeSlot0 p).blu = s.blu := rfl
@[simp] theorem State.writeSlot0_plu (s : State) (p : Setpoint) : (s.writeSlot0 p).plu = s.plu := rfl
@[simp] theorem State.writeSlot0_gsc (s : State) (p : Setpoint) : (s.writeSlot0 p).gsc = s.gsc := rfl
@[simp] theorem State.writeSlot0_wau (s : State) (p : Setpoint) : (s.writeSlot0 p).wau = s.wau := rfl
@[simp] theorem State.writeSlot0_sli (s : State) (p : Setpoint) : (s.writeSlot0 p).sli = s.sli := rfl
@[simp] theorem State.writeSlot0_mpt (s : State) (p : Setpoint) : (s.writeSlot0 p).mpt = s.mpt := rfl
@[simp] theorem State.writeSlot0_free (s : State) (p : Setpoint) : (s.writeSlot0 p).free = s.free := rfl
@[simp] theorem State.writeSlot0_pending (s : State) (p : Setpoint) : (s.writeSlot0 p).pending = s.pending := rfl
@[simp] theorem State.writeSlot0_role (s : State) (p : Setpoint) : (s.writeSlot0 p).role = s.role := rfl
@[simp] theorem State.writeSlot0_ownAddress (s : State) (p : Setpoint) : (s.writeSlot0 p).ownAddress = s.ownAddress := rfl
@[simp] theorem State.writeSlot0_serves (s : State) (p : Setpoint) : (s.writeSlot0 p).serves = s.serves := rfl
@[simp] theorem State.writeSlot0_withdraws (s : State) (p : Setpoint) : (s.writeSlot0 p).withdraws = s.withdraws := rfl
@[simp] theorem State.writeSlot0_demandLost (s : State) (p : Setpoint) : (s.writeSlot0 p).demandLost = s.demandLost := rfl
@[simp] theorem State.writeSlot0_given (s : State) (p : Setpoint) : (s.writeSlot0 p).given = s.given := rfl
@[simp] theorem State.writeSlot0_waitsStandby (s : State) (p : Setpoint) : (s.writeSlot0 p).waitsStandby = s.waitsStandby := rfl
@[simp] theorem State.writeSlot0_attempting (s : State) (p : Setpoint) : (s.writeSlot0 p).attempting = s.attempting := rfl
@[simp] theorem State.writeSlot0_receives (s : State) (p : Setpoint) : (s.writeSlot0 p).receives = s.receives := rfl

/-! ### writeSlot1 -/

@[simp] theorem State.writeSlot1_nsq (s : State) (p : Setpoint) : (s.writeSlot1 p).nsq = s.nsq := rfl
@[simp] theorem State.writeSlot1_pins (s : State) (p : Setpoint) : (s.writeSlot1 p).pins = s.pins := rfl
@[simp] theorem State.writeSlot1_stu (s : State) (p : Setpoint) : (s.writeSlot1 p).stu = s.stu := rfl
@[simp] theorem State.writeSlot1_ptb (s : State) (p : Setpoint) : (s.writeSlot1 p).ptb = s.ptb := rfl
@[simp] theorem State.writeSlot1_she (s : State) (p : Setpoint) : (s.writeSlot1 p).she = s.she := rfl
@[simp] theorem State.writeSlot1_blu (s : State) (p : Setpoint) : (s.writeSlot1 p).blu = s.blu := rfl
@[simp] theorem State.writeSlot1_plu (s : State) (p : Setpoint) : (s.writeSlot1 p).plu = s.plu := rfl
@[simp] theorem State.writeSlot1_gsc (s : State) (p : Setpoint) : (s.writeSlot1 p).gsc = s.gsc := rfl
@[simp] theorem State.writeSlot1_wau (s : State) (p : Setpoint) : (s.writeSlot1 p).wau = s.wau := rfl
@[simp] theorem State.writeSlot1_sli (s : State) (p : Setpoint) : (s.writeSlot1 p).sli = s.sli := rfl
@[simp] theorem State.writeSlot1_mpt (s : State) (p : Setpoint) : (s.writeSlot1 p).mpt = s.mpt := rfl
@[simp] theorem State.writeSlot1_free (s : State) (p : Setpoint) : (s.writeSlot1 p).free = s.free := rfl
@[simp] theorem State.writeSlot1_pending (s : State) (p : Setpoint) : (s.writeSlot1 p).pending = s.pending := rfl
@[simp] theorem State.writeSlot1_role (s : State) (p : Setpoint) : (s.writeSlot1 p).role = s.role := rfl
@[simp] theorem State.writeSlot1_ownAddress (s : State) (p : Setpoint) : (s.writeSlot1 p).ownAddress = s.ownAddress := rfl
@[simp] theorem State.writeSlot1_serves (s : State) (p : Setpoint) : (s.writeSlot1 p).serves = s.serves := rfl
@[simp] theorem State.writeSlot1_withdraws (s : State) (p : Setpoint) : (s.writeSlot1 p).withdraws = s.withdraws := rfl
@[simp] theorem State.writeSlot1_demandLost (s : State) (p : Setpoint) : (s.writeSlot1 p).demandLost = s.demandLost := rfl
@[simp] theorem State.writeSlot1_given (s : State) (p : Setpoint) : (s.writeSlot1 p).given = s.given := rfl
@[simp] theorem State.writeSlot1_waitsStandby (s : State) (p : Setpoint) : (s.writeSlot1 p).waitsStandby = s.waitsStandby := rfl
@[simp] theorem State.writeSlot1_attempting (s : State) (p : Setpoint) : (s.writeSlot1 p).attempting = s.attempting := rfl
@[simp] theorem State.writeSlot1_receives (s : State) (p : Setpoint) : (s.writeSlot1 p).receives = s.receives := rfl

/-! ### pinStraps -/

@[simp] theorem State.pinStraps_nsq (s : State) (p : Straps) : (s.pinStraps p).nsq = s.nsq := rfl
@[simp] theorem State.pinStraps_stu (s : State) (p : Straps) : (s.pinStraps p).stu = s.stu := rfl
@[simp] theorem State.pinStraps_ptb (s : State) (p : Straps) : (s.pinStraps p).ptb = s.ptb := rfl
@[simp] theorem State.pinStraps_she (s : State) (p : Straps) : (s.pinStraps p).she = s.she := rfl
@[simp] theorem State.pinStraps_blu (s : State) (p : Straps) : (s.pinStraps p).blu = s.blu := rfl
@[simp] theorem State.pinStraps_plu (s : State) (p : Straps) : (s.pinStraps p).plu = s.plu := rfl
@[simp] theorem State.pinStraps_gsc (s : State) (p : Straps) : (s.pinStraps p).gsc = s.gsc := rfl
@[simp] theorem State.pinStraps_wau (s : State) (p : Straps) : (s.pinStraps p).wau = s.wau := rfl
@[simp] theorem State.pinStraps_sli (s : State) (p : Straps) : (s.pinStraps p).sli = s.sli := rfl
@[simp] theorem State.pinStraps_stp (s : State) (p : Straps) : (s.pinStraps p).stp = s.stp := rfl
@[simp] theorem State.pinStraps_mpt (s : State) (p : Straps) : (s.pinStraps p).mpt = s.mpt := rfl
@[simp] theorem State.pinStraps_free (s : State) (p : Straps) : (s.pinStraps p).free = s.free := rfl
@[simp] theorem State.pinStraps_pending (s : State) (p : Straps) : (s.pinStraps p).pending = s.pending := rfl
@[simp] theorem State.pinStraps_role (s : State) (p : Straps) : (s.pinStraps p).role = s.role := rfl
@[simp] theorem State.pinStraps_ownAddress (s : State) (p : Straps) : (s.pinStraps p).ownAddress = s.ownAddress := rfl
@[simp] theorem State.pinStraps_serves (s : State) (p : Straps) : (s.pinStraps p).serves = s.serves := rfl
@[simp] theorem State.pinStraps_withdraws (s : State) (p : Straps) : (s.pinStraps p).withdraws = s.withdraws := rfl
@[simp] theorem State.pinStraps_demandLost (s : State) (p : Straps) : (s.pinStraps p).demandLost = s.demandLost := rfl
@[simp] theorem State.pinStraps_given (s : State) (p : Straps) : (s.pinStraps p).given = s.given := rfl
@[simp] theorem State.pinStraps_waitsStandby (s : State) (p : Straps) : (s.pinStraps p).waitsStandby = s.waitsStandby := rfl
@[simp] theorem State.pinStraps_attempting (s : State) (p : Straps) : (s.pinStraps p).attempting = s.attempting := rfl
@[simp] theorem State.pinStraps_receives (s : State) (p : Straps) : (s.pinStraps p).receives = s.receives := rfl

/-! ### cancelHold -/

@[simp] theorem State.cancelHold_pins (s : State) : (s.cancelHold).pins = s.pins := rfl
@[simp] theorem State.cancelHold_stu (s : State) : (s.cancelHold).stu = s.stu := rfl
@[simp] theorem State.cancelHold_ptb (s : State) : (s.cancelHold).ptb = s.ptb := rfl
@[simp] theorem State.cancelHold_she (s : State) : (s.cancelHold).she = s.she := rfl
@[simp] theorem State.cancelHold_blu (s : State) : (s.cancelHold).blu = s.blu := rfl
@[simp] theorem State.cancelHold_plu (s : State) : (s.cancelHold).plu = s.plu := rfl
@[simp] theorem State.cancelHold_gsc (s : State) : (s.cancelHold).gsc = s.gsc := rfl
@[simp] theorem State.cancelHold_wau (s : State) : (s.cancelHold).wau = s.wau := rfl
@[simp] theorem State.cancelHold_sli (s : State) : (s.cancelHold).sli = s.sli := rfl
@[simp] theorem State.cancelHold_stp (s : State) : (s.cancelHold).stp = s.stp := rfl
@[simp] theorem State.cancelHold_mpt (s : State) : (s.cancelHold).mpt = s.mpt := rfl
@[simp] theorem State.cancelHold_free (s : State) : (s.cancelHold).free = s.free := rfl
@[simp] theorem State.cancelHold_pending (s : State) : (s.cancelHold).pending = s.pending := rfl
@[simp] theorem State.cancelHold_role (s : State) : (s.cancelHold).role = s.role := rfl
@[simp] theorem State.cancelHold_ownAddress (s : State) : (s.cancelHold).ownAddress = s.ownAddress := rfl
@[simp] theorem State.cancelHold_serves (s : State) : (s.cancelHold).serves = s.serves := rfl
@[simp] theorem State.cancelHold_withdraws (s : State) : (s.cancelHold).withdraws = s.withdraws := rfl
@[simp] theorem State.cancelHold_demandLost (s : State) : (s.cancelHold).demandLost = s.demandLost := rfl
@[simp] theorem State.cancelHold_given (s : State) : (s.cancelHold).given = s.given := rfl
@[simp] theorem State.cancelHold_waitsStandby (s : State) : (s.cancelHold).waitsStandby = s.waitsStandby := rfl
@[simp] theorem State.cancelHold_attempting (s : State) : (s.cancelHold).attempting = s.attempting := rfl
@[simp] theorem State.cancelHold_receives (s : State) : (s.cancelHold).receives = s.receives := rfl

/-! ### reportShortBrake -/

@[simp] theorem State.reportShortBrake_nsq (s : State) : (s.reportShortBrake).nsq = s.nsq := rfl
@[simp] theorem State.reportShortBrake_pins (s : State) : (s.reportShortBrake).pins = s.pins := rfl
@[simp] theorem State.reportShortBrake_ptb (s : State) : (s.reportShortBrake).ptb = s.ptb := rfl
@[simp] theorem State.reportShortBrake_she (s : State) : (s.reportShortBrake).she = s.she := rfl
@[simp] theorem State.reportShortBrake_blu (s : State) : (s.reportShortBrake).blu = s.blu := rfl
@[simp] theorem State.reportShortBrake_plu (s : State) : (s.reportShortBrake).plu = s.plu := rfl
@[simp] theorem State.reportShortBrake_gsc (s : State) : (s.reportShortBrake).gsc = s.gsc := rfl
@[simp] theorem State.reportShortBrake_wau (s : State) : (s.reportShortBrake).wau = s.wau := rfl
@[simp] theorem State.reportShortBrake_sli (s : State) : (s.reportShortBrake).sli = s.sli := rfl
@[simp] theorem State.reportShortBrake_stp (s : State) : (s.reportShortBrake).stp = s.stp := rfl
@[simp] theorem State.reportShortBrake_mpt (s : State) : (s.reportShortBrake).mpt = s.mpt := rfl
@[simp] theorem State.reportShortBrake_free (s : State) : (s.reportShortBrake).free = s.free := rfl
@[simp] theorem State.reportShortBrake_pending (s : State) : (s.reportShortBrake).pending = s.pending := rfl
@[simp] theorem State.reportShortBrake_role (s : State) : (s.reportShortBrake).role = s.role := rfl
@[simp] theorem State.reportShortBrake_ownAddress (s : State) : (s.reportShortBrake).ownAddress = s.ownAddress := rfl
@[simp] theorem State.reportShortBrake_serves (s : State) : (s.reportShortBrake).serves = s.serves := rfl
@[simp] theorem State.reportShortBrake_waitsStandby (s : State) : (s.reportShortBrake).waitsStandby = s.waitsStandby := rfl
@[simp] theorem State.reportShortBrake_attempting (s : State) : (s.reportShortBrake).attempting = s.attempting := rfl
@[simp] theorem State.reportShortBrake_receives (s : State) : (s.reportShortBrake).receives = s.receives := rfl

/-! ### tearPage -/

@[simp] theorem State.tearPage_nsq (s : State) (job : FlushJob) : (s.tearPage job).nsq = s.nsq := rfl
@[simp] theorem State.tearPage_pins (s : State) (job : FlushJob) : (s.tearPage job).pins = s.pins := rfl
@[simp] theorem State.tearPage_stu (s : State) (job : FlushJob) : (s.tearPage job).stu = s.stu := rfl
@[simp] theorem State.tearPage_ptb (s : State) (job : FlushJob) : (s.tearPage job).ptb = s.ptb := rfl
@[simp] theorem State.tearPage_she (s : State) (job : FlushJob) : (s.tearPage job).she = s.she := rfl
@[simp] theorem State.tearPage_blu (s : State) (job : FlushJob) : (s.tearPage job).blu = s.blu := rfl
@[simp] theorem State.tearPage_plu (s : State) (job : FlushJob) : (s.tearPage job).plu = s.plu := rfl
@[simp] theorem State.tearPage_gsc (s : State) (job : FlushJob) : (s.tearPage job).gsc = s.gsc := rfl
@[simp] theorem State.tearPage_wau (s : State) (job : FlushJob) : (s.tearPage job).wau = s.wau := rfl
@[simp] theorem State.tearPage_sli (s : State) (job : FlushJob) : (s.tearPage job).sli = s.sli := rfl
@[simp] theorem State.tearPage_stp (s : State) (job : FlushJob) : (s.tearPage job).stp = s.stp := rfl
@[simp] theorem State.tearPage_pending (s : State) (job : FlushJob) : (s.tearPage job).pending = s.pending := rfl
@[simp] theorem State.tearPage_role (s : State) (job : FlushJob) : (s.tearPage job).role = s.role := rfl
@[simp] theorem State.tearPage_ownAddress (s : State) (job : FlushJob) : (s.tearPage job).ownAddress = s.ownAddress := rfl
@[simp] theorem State.tearPage_serves (s : State) (job : FlushJob) : (s.tearPage job).serves = s.serves := rfl
@[simp] theorem State.tearPage_withdraws (s : State) (job : FlushJob) : (s.tearPage job).withdraws = s.withdraws := rfl
@[simp] theorem State.tearPage_demandLost (s : State) (job : FlushJob) : (s.tearPage job).demandLost = s.demandLost := rfl
@[simp] theorem State.tearPage_given (s : State) (job : FlushJob) : (s.tearPage job).given = s.given := rfl
@[simp] theorem State.tearPage_attempting (s : State) (job : FlushJob) : (s.tearPage job).attempting = s.attempting := rfl
@[simp] theorem State.tearPage_receives (s : State) (job : FlushJob) : (s.tearPage job).receives = s.receives := rfl

/-! ### tearWord -/

@[simp] theorem State.tearWord_nsq (s : State) (n : Nat) : (s.tearWord n).nsq = s.nsq := rfl
@[simp] theorem State.tearWord_pins (s : State) (n : Nat) : (s.tearWord n).pins = s.pins := rfl
@[simp] theorem State.tearWord_stu (s : State) (n : Nat) : (s.tearWord n).stu = s.stu := rfl
@[simp] theorem State.tearWord_ptb (s : State) (n : Nat) : (s.tearWord n).ptb = s.ptb := rfl
@[simp] theorem State.tearWord_she (s : State) (n : Nat) : (s.tearWord n).she = s.she := rfl
@[simp] theorem State.tearWord_blu (s : State) (n : Nat) : (s.tearWord n).blu = s.blu := rfl
@[simp] theorem State.tearWord_plu (s : State) (n : Nat) : (s.tearWord n).plu = s.plu := rfl
@[simp] theorem State.tearWord_gsc (s : State) (n : Nat) : (s.tearWord n).gsc = s.gsc := rfl
@[simp] theorem State.tearWord_wau (s : State) (n : Nat) : (s.tearWord n).wau = s.wau := rfl
@[simp] theorem State.tearWord_sli (s : State) (n : Nat) : (s.tearWord n).sli = s.sli := rfl
@[simp] theorem State.tearWord_stp (s : State) (n : Nat) : (s.tearWord n).stp = s.stp := rfl
@[simp] theorem State.tearWord_pending (s : State) (n : Nat) : (s.tearWord n).pending = s.pending := rfl
@[simp] theorem State.tearWord_role (s : State) (n : Nat) : (s.tearWord n).role = s.role := rfl
@[simp] theorem State.tearWord_ownAddress (s : State) (n : Nat) : (s.tearWord n).ownAddress = s.ownAddress := rfl
@[simp] theorem State.tearWord_serves (s : State) (n : Nat) : (s.tearWord n).serves = s.serves := rfl
@[simp] theorem State.tearWord_withdraws (s : State) (n : Nat) : (s.tearWord n).withdraws = s.withdraws := rfl
@[simp] theorem State.tearWord_demandLost (s : State) (n : Nat) : (s.tearWord n).demandLost = s.demandLost := rfl
@[simp] theorem State.tearWord_given (s : State) (n : Nat) : (s.tearWord n).given = s.given := rfl
@[simp] theorem State.tearWord_attempting (s : State) (n : Nat) : (s.tearWord n).attempting = s.attempting := rfl
@[simp] theorem State.tearWord_receives (s : State) (n : Nat) : (s.tearWord n).receives = s.receives := rfl
/-! ### Statuses -/

@[simp] theorem State.putStatus_forceFault (s : State) (x : Status) (v : Bool) :
    (s.putStatus x v).stu.forceFault = s.stu.forceFault := rfl
@[simp] theorem State.putStatus_forceWarn (s : State) (x : Status) (v : Bool) :
    (s.putStatus x v).stu.forceWarn = s.stu.forceWarn := rfl
@[simp] theorem State.putStatus_fValue (s : State) (x : Status) (v : Bool) :
    (s.putStatus x v).stu.fValue = s.stu.fValue := rfl
@[simp] theorem State.putStatus_set (s : State) (x : Status) (v : Bool) :
    (s.putStatus x v).stu.set = statusPut s.stu.set x v := rfl

/-- A status read after one is put. -/
theorem State.putStatus_status (s : State) (x y : Status) (v : Bool) :
    (s.putStatus x v).status y = if x = y then v else s.status y := statusIn_statusPut _ _ _ _

@[simp] theorem State.putStatus_status_self (s : State) (x : Status) (v : Bool) : (s.putStatus x v).status x = v := by
  rw [State.putStatus_status, if_pos rfl]

/-- Another status than the one put is as before. -/
theorem State.putStatus_status_ne (s : State) {x y : Status} (v : Bool) (h : y ≠ x) :
    (s.putStatus x v).status y = s.status y := by
  rw [State.putStatus_status, if_neg (Ne.symm h)]

/-- A status put as it is leaves the set. -/
theorem statusPut_same (σ : StatusSet) (x : Status) : statusPut σ x (statusIn σ x) = σ := by
  apply statusSet_ext
  intro y
  rw [statusIn_statusPut]
  split
  · next h => rw [h]
  · rfl

/-- Statuses outside a mask do not show through it. -/
theorem statusPut_and_mask (σ m : StatusSet) (x : Status) (v : Bool) (h : statusIn m x = false) :
    statusPut σ x v &&& m = σ &&& m := by
  apply BitVec.eq_of_getLsbD_eq
  intro i hi
  simp only [statusIn] at h
  rw [BitVec.getLsbD_and, BitVec.getLsbD_and]
  cases hm : m.getLsbD i
  · simp
  · have hne : i ≠ x.index := by
      intro he
      rw [he, h] at hm
      cases hm
    have hb : (1#24 <<< x.index).getLsbD i = false := by
      rw [BitVec.getLsbD_shiftLeft]
      by_cases hlt : i < x.index
      · simp [hlt]
      · have : i - x.index ≠ 0 := by omega
        simp [this]
    cases v
    · simp only [statusPut, Bool.false_eq_true, if_false, BitVec.getLsbD_and, BitVec.getLsbD_not, hb]
      simp [hi]
    · simp only [statusPut, if_true, BitVec.getLsbD_or, hb]
      simp

/-- A status that does not withdraw leaves the withdrawing set as it was. -/
theorem State.putStatus_withdraws (s : State) {x : Status} (v : Bool) (h : statusIn withdrawingSet x = false) :
    (s.putStatus x v).withdraws = s.withdraws := by
  simp only [State.withdraws, State.putStatus_set, statusPut_and_mask _ _ _ _ h]

/-! ### The comparison of F (R138) -/

/-- The F value held follows, and a prompt STATE is requested at most. -/
theorem State.compareF_cases (s : State) :
    s.compareF = s.setStu { s.stu with fValue := if s.formsF then s.fBit else s.stu.fValue }
      ∨ s.compareF = (s.setStu { s.stu with fValue := if s.formsF then s.fBit else s.stu.fValue }).requestPrompt := by
  unfold State.compareF
  by_cases h : (s.fBit != s.stu.fValue && s.serves) = true
  · right; simp only [h, if_true]
  · left; simp only [h, Bool.false_eq_true, if_false]

@[simp] theorem State.compareF_nsq (s : State) : s.compareF.nsq = s.nsq := by
  rcases s.compareF_cases with h | h <;> rw [h] <;> rfl
@[simp] theorem State.compareF_pins (s : State) : s.compareF.pins = s.pins := by
  rcases s.compareF_cases with h | h <;> rw [h] <;> rfl
@[simp] theorem State.compareF_ptb (s : State) : s.compareF.ptb = s.ptb := by
  rcases s.compareF_cases with h | h <;> rw [h] <;> rfl
@[simp] theorem State.compareF_she (s : State) : s.compareF.she = s.she := by
  rcases s.compareF_cases with h | h <;> rw [h] <;> rfl
@[simp] theorem State.compareF_blu (s : State) : s.compareF.blu = s.blu := by
  rcases s.compareF_cases with h | h <;> rw [h] <;> rfl
@[simp] theorem State.compareF_plu (s : State) : s.compareF.plu = s.plu := by
  rcases s.compareF_cases with h | h <;> rw [h] <;> rfl
@[simp] theorem State.compareF_gsc (s : State) : s.compareF.gsc = s.gsc := by
  rcases s.compareF_cases with h | h <;> rw [h] <;> rfl
@[simp] theorem State.compareF_wau (s : State) : s.compareF.wau = s.wau := by
  rcases s.compareF_cases with h | h <;> rw [h] <;> rfl
@[simp] theorem State.compareF_stp (s : State) : s.compareF.stp = s.stp := by
  rcases s.compareF_cases with h | h <;> rw [h] <;> rfl
@[simp] theorem State.compareF_mpt (s : State) : s.compareF.mpt = s.mpt := by
  rcases s.compareF_cases with h | h <;> rw [h] <;> rfl
@[simp] theorem State.compareF_free (s : State) : s.compareF.free = s.free := by
  rcases s.compareF_cases with h | h <;> rw [h] <;> rfl
@[simp] theorem State.compareF_pending (s : State) : s.compareF.pending = s.pending := by
  rcases s.compareF_cases with h | h <;> rw [h] <;> rfl
@[simp] theorem State.compareF_set (s : State) : s.compareF.stu.set = s.stu.set := by
  rcases s.compareF_cases with h | h <;> rw [h] <;> rfl
@[simp] theorem State.compareF_forceFault (s : State) : s.compareF.stu.forceFault = s.stu.forceFault := by
  rcases s.compareF_cases with h | h <;> rw [h] <;> rfl
@[simp] theorem State.compareF_forceWarn (s : State) : s.compareF.stu.forceWarn = s.stu.forceWarn := by
  rcases s.compareF_cases with h | h <;> rw [h] <;> rfl
@[simp] theorem State.compareF_role (s : State) : s.compareF.role = s.role := by
  rcases s.compareF_cases with h | h <;> rw [h] <;> rfl
@[simp] theorem State.compareF_ownAddress (s : State) : s.compareF.ownAddress = s.ownAddress := by
  rcases s.compareF_cases with h | h <;> rw [h] <;> rfl
@[simp] theorem State.compareF_serves (s : State) : s.compareF.serves = s.serves := by
  rcases s.compareF_cases with h | h <;> rw [h] <;> rfl
@[simp] theorem State.compareF_withdraws (s : State) : s.compareF.withdraws = s.withdraws := by
  rcases s.compareF_cases with h | h <;> rw [h] <;> rfl
@[simp] theorem State.compareF_demandLost (s : State) : s.compareF.demandLost = s.demandLost := by
  rcases s.compareF_cases with h | h <;> rw [h] <;> rfl
@[simp] theorem State.compareF_given (s : State) : s.compareF.given = s.given := by
  rcases s.compareF_cases with h | h <;> rw [h] <;> rfl
@[simp] theorem State.compareF_waitsStandby (s : State) : s.compareF.waitsStandby = s.waitsStandby := by
  rcases s.compareF_cases with h | h <;> rw [h] <;> rfl
@[simp] theorem State.compareF_status (s : State) (x : Status) : s.compareF.status x = s.status x := by
  rcases s.compareF_cases with h | h <;> rw [h] <;> rfl
@[simp] theorem State.compareF_stu_fValue (s : State) :
    s.compareF.stu.fValue = if s.formsF then s.fBit else s.stu.fValue := by
  rcases s.compareF_cases with h | h <;> rw [h] <;> rfl
/-- Where the node serves, the F value is formed (R138). -/
theorem State.formsF_of_serves {s : State} (h : s.serves = true) : s.formsF = true := by
  unfold State.formsF
  unfold State.serves OpState.serves at h
  split at h <;> simp_all

theorem State.compareF_prompt (s : State) : PromptAtMost s.sli s.compareF.sli := by
  rcases s.compareF_cases with h | h
  · exact .inl (by rw [h]; rfl)
  · exact .inr (by rw [h]; rfl)

/-- A prompt request keeps the carried set, so the F bit it was made for stays. -/
theorem StatePlace.promptRequest_carried (p : StatePlace) : p.promptRequest.carried = p.carried := by
  unfold StatePlace.promptRequest; split <;> rfl

theorem State.fBit_of_eq {s t : State} (hop : t.nsq.op = s.nsq.op) (hset : t.stu.set = s.stu.set)
    (hcar : t.sli.state.carried = s.sli.state.carried) (hcopy : t.mpt.copy = s.mpt.copy) : t.fBit = s.fBit := by
  simp only [State.fBit, State.counted, State.status, hop, hset, hcar, hcopy]

/-! ### What ends an event (R128, R136, R138) -/

/-- Where the withdrawing set agrees with the operating state, only the F bit is compared. -/
theorem State.settle_eq_compareF {s : State} (ha : s.nsq.op = .active → s.withdraws = false)
    (hw : s.nsq.op = .withdrawn → s.withdraws = true) : s.settle = s.compareF := by
  unfold State.settle State.decideOp
  split
  · next h => rw [ha h]; rfl
  · next h => rw [hw h]; rfl
  all_goals rfl

/-- The same, from a settled state that an event has left with its operating state and its withdrawing set. -/
theorem Settled.settle_eq {s t : State} (h : Settled s) (hop : t.nsq.op = s.nsq.op) (hw : t.withdraws = s.withdraws) :
    t.settle = t.compareF := by
  apply State.settle_eq_compareF
  · intro hh; rw [hw]; exact h.1 (hop ▸ hh)
  · intro hh; rw [hw]; exact h.2.1 (hop ▸ hh)

/-! ### The receiver (R142), a wear item emptied (R125), a storage upset (R169) -/

theorem State.receives_iff (s : State) :
    s.receives = true ↔ (s.sli.line = .idle ∨ s.sli.line = .receive) ∧ s.attempting = false := by
  simp [State.receives]

@[simp] theorem Wear.resetItem_items (w : Wear) (role : Option Role) (i : Nat) :
    (w.resetItem role i).items = setItem w.items i ⟨0, 0, .ok⟩ := rfl
@[simp] theorem Wear.resetItem_armA4 (w : Wear) (role : Option Role) (i : Nat) : (w.resetItem role i).armA4 = w.armA4 := rfl
@[simp] theorem Wear.resetItem_armS3 (w : Wear) (role : Option Role) (i : Nat) : (w.resetItem role i).armS3 = w.armS3 := rfl
@[simp] theorem Wear.resetItem_hot (w : Wear) (role : Option Role) (i : Nat) : (w.resetItem role i).hot = w.hot := rfl
@[simp] theorem Wear.resetItem_minute (w : Wear) (role : Option Role) (i : Nat) : (w.resetItem role i).minute = w.minute := rfl
@[simp] theorem Wear.resetItem_q (w : Wear) (role : Option Role) (i : Nat) :
    (w.resetItem role i).q = if role = some .axle ∧ i = 1 then 100 else w.q := rfl
@[simp] theorem Wear.resetItem_dw (w : Wear) (role : Option Role) (i : Nat) :
    (w.resetItem role i).dw = if role = some .pack ∧ i = 1 then 100 else w.dw := rfl
@[simp] theorem Wear.resetItem_runSeconds (w : Wear) (role : Option Role) (i : Nat) :
    (w.resetItem role i).runSeconds = if role = some .genset ∧ i = 2 then 0 else w.runSeconds := rfl

/-- A storage upset changes one word of a copy that passes its check, and nothing else. -/
theorem State.upsetCopy_cases (s : State) (u : Option (BitVec 6 × Word)) :
    s.upsetCopy u = s ∨ ∃ n bits, u = some (n, bits) ∧ checkHolds s.mpt.copy = true
      ∧ s.upsetCopy u = s.setMpt { s.mpt with copy := upsetWord s.mpt.copy n.toNat bits } := by
  unfold State.upsetCopy
  rcases u with _ | ⟨n, bits⟩
  · exact .inl rfl
  · by_cases h : checkHolds s.mpt.copy = true
    · exact .inr ⟨n, bits, rfl, h, if_pos h⟩
    · exact .inl (if_neg h)

end Sys2Proof.Machine
end

