-- ==== Sys2Proof/Laws/PerInstr.lean ====
section
/-! SUPPORT. The family Arrives, per command: a command that the judgement of a received frame yields (R144, R145) is one
whose operands can occur. -/

open Sys2Proof Sys2Proof.Machine

/-- Every frame that arrives as this command brings operands that can occur. -/
def Sys2Proof.Laws.Arrives.Statement (i : Instr) : Prop := ∀ f : Frame, f.arrival = i → WellFormed i = true

/-- A STATE payload that fits its role is one that can occur. -/
theorem Sys2Proof.Laws.stateFits_statePayloadGood (words : List Word) (h : stateFits words = true) :
    statePayloadGood words = true := by
  unfold stateFits at h
  unfold statePayloadGood
  have hw : wordAt words 0 = words.getD 0 0 := rfl
  rw [hw] at h
  generalize (words.getD 0 0).extractLsb' 14 2 = c at h ⊢
  have : c = 0 ∨ c = 1 ∨ c = 2 ∨ c = 3 := by clear h; revert c; decide
  rcases this with rfl | rfl | rfl | rfl <;> simp_all only [roleOfCode, stateLength] <;>
    first | exact Bool.noConfusion h | simpa using of_decide_eq_true h

/-- The command of a good service request carries at most five argument words. -/
theorem Sys2Proof.Laws.requestCommand_wellFormed (src target : Address) (code : BitVec 8) (args : List Word)
    (h : args.length ≤ 5) : WellFormed (requestCommand src target code args) = true := by
  unfold requestCommand
  split <;> simp_all [WellFormed, argumentsFit, codeSupported]
  omega

/-- What a received frame arrives as can occur. -/
theorem Sys2Proof.Laws.arrival_wellFormed (f : Frame) : WellFormed f.arrival = true := by
  unfold Frame.arrival
  split
  · rename_i h
    simp only [Frame.good, Bool.and_eq_true, decide_eq_true_eq] at h
    obtain ⟨⟨hl, _⟩, hk⟩ := h
    split
    · simpa [WellFormed, payloadFits] using hl
    · rename_i h1
      simp only [h1] at hk
      exact Sys2Proof.Laws.stateFits_statePayloadGood _ hk
    · refine Sys2Proof.Laws.requestCommand_wellFormed _ _ _ _ ?_
      simp only [List.length_tail]; omega
    · rename_i h0 h1 h2
      split at hk <;> simp_all [WellFormed, payloadFits]
      rintro h; simp [h] at hk
  · rfl

/-- The family's one proof. -/
theorem Sys2Proof.Laws.Arrives.all (i : Instr) : Sys2Proof.Laws.Arrives.Statement i :=
  fun f h => h ▸ Sys2Proof.Laws.arrival_wellFormed f

theorem Sys2Proof.Laws.Arrives.powerOn (pins : Straps) :
    Sys2Proof.Laws.Arrives.Statement (.powerOn pins) :=
  Sys2Proof.Laws.Arrives.all _
theorem Sys2Proof.Laws.Arrives.brownOut (pins : Straps) :
    Sys2Proof.Laws.Arrives.Statement (.brownOut pins) :=
  Sys2Proof.Laws.Arrives.all _
theorem Sys2Proof.Laws.Arrives.bootLoadComplete (imageAck : Bool) (slotAcks : BitVec 8) :
    Sys2Proof.Laws.Arrives.Statement (.bootLoadComplete imageAck slotAcks) :=
  Sys2Proof.Laws.Arrives.all _
theorem Sys2Proof.Laws.Arrives.demandArrival (src : Address) (words : List Word) :
    Sys2Proof.Laws.Arrives.Statement (.demandArrival src words) :=
  Sys2Proof.Laws.Arrives.all _
theorem Sys2Proof.Laws.Arrives.stateArrival (src : Address) (words : List Word) :
    Sys2Proof.Laws.Arrives.Statement (.stateArrival src words) :=
  Sys2Proof.Laws.Arrives.all _
theorem Sys2Proof.Laws.Arrives.badFrame :
    Sys2Proof.Laws.Arrives.Statement .badFrame :=
  Sys2Proof.Laws.Arrives.all _
theorem Sys2Proof.Laws.Arrives.windowTimerExpiry :
    Sys2Proof.Laws.Arrives.Statement .windowTimerExpiry :=
  Sys2Proof.Laws.Arrives.all _
theorem Sys2Proof.Laws.Arrives.identify (src target : Address) (args : List Word) :
    Sys2Proof.Laws.Arrives.Statement (.identify src target args) :=
  Sys2Proof.Laws.Arrives.all _
theorem Sys2Proof.Laws.Arrives.readStatus (src target : Address) (args : List Word) :
    Sys2Proof.Laws.Arrives.Statement (.readStatus src target args) :=
  Sys2Proof.Laws.Arrives.all _
theorem Sys2Proof.Laws.Arrives.clear (src target : Address) (args : List Word) :
    Sys2Proof.Laws.Arrives.Statement (.clear src target args) :=
  Sys2Proof.Laws.Arrives.all _
theorem Sys2Proof.Laws.Arrives.forceFault (src target : Address) (args : List Word) :
    Sys2Proof.Laws.Arrives.Statement (.forceFault src target args) :=
  Sys2Proof.Laws.Arrives.all _
theorem Sys2Proof.Laws.Arrives.releaseFault (src target : Address) (args : List Word) :
    Sys2Proof.Laws.Arrives.Statement (.releaseFault src target args) :=
  Sys2Proof.Laws.Arrives.all _
theorem Sys2Proof.Laws.Arrives.forceWarn (src target : Address) (args : List Word) :
    Sys2Proof.Laws.Arrives.Statement (.forceWarn src target args) :=
  Sys2Proof.Laws.Arrives.all _
theorem Sys2Proof.Laws.Arrives.releaseWarn (src target : Address) (args : List Word) :
    Sys2Proof.Laws.Arrives.Statement (.releaseWarn src target args) :=
  Sys2Proof.Laws.Arrives.all _
theorem Sys2Proof.Laws.Arrives.readWear (src target : Address) (args : List Word) :
    Sys2Proof.Laws.Arrives.Statement (.readWear src target args) :=
  Sys2Proof.Laws.Arrives.all _
theorem Sys2Proof.Laws.Arrives.wearReset (src target : Address) (args : List Word) :
    Sys2Proof.Laws.Arrives.Statement (.wearReset src target args) :=
  Sys2Proof.Laws.Arrives.all _
theorem Sys2Proof.Laws.Arrives.configRead (src target : Address) (args : List Word) :
    Sys2Proof.Laws.Arrives.Statement (.configRead src target args) :=
  Sys2Proof.Laws.Arrives.all _
theorem Sys2Proof.Laws.Arrives.configWrite (src target : Address) (args : List Word) :
    Sys2Proof.Laws.Arrives.Statement (.configWrite src target args) :=
  Sys2Proof.Laws.Arrives.all _
theorem Sys2Proof.Laws.Arrives.restart (src target : Address) (args : List Word) :
    Sys2Proof.Laws.Arrives.Statement (.restart src target args) :=
  Sys2Proof.Laws.Arrives.all _
theorem Sys2Proof.Laws.Arrives.reboot (src target : Address) (args : List Word) :
    Sys2Proof.Laws.Arrives.Statement (.reboot src target args) :=
  Sys2Proof.Laws.Arrives.all _
theorem Sys2Proof.Laws.Arrives.attemptStart :
    Sys2Proof.Laws.Arrives.Statement .attemptStart :=
  Sys2Proof.Laws.Arrives.all _
theorem Sys2Proof.Laws.Arrives.arbitrationLost :
    Sys2Proof.Laws.Arrives.Statement .arbitrationLost :=
  Sys2Proof.Laws.Arrives.all _
theorem Sys2Proof.Laws.Arrives.attemptAbandoned :
    Sys2Proof.Laws.Arrives.Statement .attemptAbandoned :=
  Sys2Proof.Laws.Arrives.all _
theorem Sys2Proof.Laws.Arrives.attemptComplete (pins : Straps) :
    Sys2Proof.Laws.Arrives.Statement (.attemptComplete pins) :=
  Sys2Proof.Laws.Arrives.all _
theorem Sys2Proof.Laws.Arrives.silenceTimerExpiry :
    Sys2Proof.Laws.Arrives.Statement .silenceTimerExpiry :=
  Sys2Proof.Laws.Arrives.all _
theorem Sys2Proof.Laws.Arrives.statePeriodExpiry :
    Sys2Proof.Laws.Arrives.Statement .statePeriodExpiry :=
  Sys2Proof.Laws.Arrives.all _
theorem Sys2Proof.Laws.Arrives.ageTimerStale (address : Address) :
    Sys2Proof.Laws.Arrives.Statement (.ageTimerStale address) :=
  Sys2Proof.Laws.Arrives.all _
theorem Sys2Proof.Laws.Arrives.ageTimerLost (address : Address) :
    Sys2Proof.Laws.Arrives.Statement (.ageTimerLost address) :=
  Sys2Proof.Laws.Arrives.all _
theorem Sys2Proof.Laws.Arrives.demandTimerExpiry :
    Sys2Proof.Laws.Arrives.Statement .demandTimerExpiry :=
  Sys2Proof.Laws.Arrives.all _
theorem Sys2Proof.Laws.Arrives.exchangeStart (sense : Sense) :
    Sys2Proof.Laws.Arrives.Statement (.exchangeStart sense) :=
  Sys2Proof.Laws.Arrives.all _
theorem Sys2Proof.Laws.Arrives.exchangeCompletion (record : List Byte) :
    Sys2Proof.Laws.Arrives.Statement (.exchangeCompletion record) :=
  Sys2Proof.Laws.Arrives.all _
theorem Sys2Proof.Laws.Arrives.settleTimerExpiry :
    Sys2Proof.Laws.Arrives.Statement .settleTimerExpiry :=
  Sys2Proof.Laws.Arrives.all _
theorem Sys2Proof.Laws.Arrives.partnerResetRelease :
    Sys2Proof.Laws.Arrives.Statement .partnerResetRelease :=
  Sys2Proof.Laws.Arrives.all _
theorem Sys2Proof.Laws.Arrives.finalExchangeEnd :
    Sys2Proof.Laws.Arrives.Statement .finalExchangeEnd :=
  Sys2Proof.Laws.Arrives.all _
theorem Sys2Proof.Laws.Arrives.rampTimerExpiry :
    Sys2Proof.Laws.Arrives.Statement .rampTimerExpiry :=
  Sys2Proof.Laws.Arrives.all _
theorem Sys2Proof.Laws.Arrives.slipHoldTimerExpiry :
    Sys2Proof.Laws.Arrives.Statement .slipHoldTimerExpiry :=
  Sys2Proof.Laws.Arrives.all _
theorem Sys2Proof.Laws.Arrives.tick :
    Sys2Proof.Laws.Arrives.Statement .tick :=
  Sys2Proof.Laws.Arrives.all _
theorem Sys2Proof.Laws.Arrives.crankTimerExpiry :
    Sys2Proof.Laws.Arrives.Statement .crankTimerExpiry :=
  Sys2Proof.Laws.Arrives.all _
theorem Sys2Proof.Laws.Arrives.warmTimerExpiry :
    Sys2Proof.Laws.Arrives.Statement .warmTimerExpiry :=
  Sys2Proof.Laws.Arrives.all _
theorem Sys2Proof.Laws.Arrives.runTimerExpiry :
    Sys2Proof.Laws.Arrives.Statement .runTimerExpiry :=
  Sys2Proof.Laws.Arrives.all _
theorem Sys2Proof.Laws.Arrives.cooldownTimerExpiry :
    Sys2Proof.Laws.Arrives.Statement .cooldownTimerExpiry :=
  Sys2Proof.Laws.Arrives.all _
theorem Sys2Proof.Laws.Arrives.minuteTimerExpiry :
    Sys2Proof.Laws.Arrives.Statement .minuteTimerExpiry :=
  Sys2Proof.Laws.Arrives.all _
theorem Sys2Proof.Laws.Arrives.recheckTimerExpiry (upset : Option (BitVec 6 × Word)) :
    Sys2Proof.Laws.Arrives.Statement (.recheckTimerExpiry upset) :=
  Sys2Proof.Laws.Arrives.all _
theorem Sys2Proof.Laws.Arrives.flushTimerExpiry :
    Sys2Proof.Laws.Arrives.Statement .flushTimerExpiry :=
  Sys2Proof.Laws.Arrives.all _
theorem Sys2Proof.Laws.Arrives.pageStored (pins : Straps) :
    Sys2Proof.Laws.Arrives.Statement (.pageStored pins) :=
  Sys2Proof.Laws.Arrives.all _
theorem Sys2Proof.Laws.Arrives.pageTimeout (pins : Straps) :
    Sys2Proof.Laws.Arrives.Statement (.pageTimeout pins) :=
  Sys2Proof.Laws.Arrives.all _
theorem Sys2Proof.Laws.Arrives.configReadComplete (ack : Bool) (pins : Straps) :
    Sys2Proof.Laws.Arrives.Statement (.configReadComplete ack pins) :=
  Sys2Proof.Laws.Arrives.all _
theorem Sys2Proof.Laws.Arrives.configWriteComplete (outcome : WriteOutcome) (pins : Straps) :
    Sys2Proof.Laws.Arrives.Statement (.configWriteComplete outcome pins) :=
  Sys2Proof.Laws.Arrives.all _
theorem Sys2Proof.Laws.Arrives.strapCheckExpiry (pins : Straps) :
    Sys2Proof.Laws.Arrives.Statement (.strapCheckExpiry pins) :=
  Sys2Proof.Laws.Arrives.all _
theorem Sys2Proof.Laws.Arrives.syncTimerExpiry :
    Sys2Proof.Laws.Arrives.Statement .syncTimerExpiry :=
  Sys2Proof.Laws.Arrives.all _
theorem Sys2Proof.Laws.Arrives.shutdownHoldExpiry :
    Sys2Proof.Laws.Arrives.Statement .shutdownHoldExpiry :=
  Sys2Proof.Laws.Arrives.all _
theorem Sys2Proof.Laws.Arrives.replyLimitExpiry (pins : Straps) :
    Sys2Proof.Laws.Arrives.Statement (.replyLimitExpiry pins) :=
  Sys2Proof.Laws.Arrives.all _
theorem Sys2Proof.Laws.Arrives.unsupportedRequest (src target : Address) (code : BitVec 8) (args : List Word) :
    Sys2Proof.Laws.Arrives.Statement (.unsupportedRequest src target code args) :=
  Sys2Proof.Laws.Arrives.all _
theorem Sys2Proof.Laws.Arrives.svcReplyArrival (src : Address) (words : List Word) :
    Sys2Proof.Laws.Arrives.Statement (.svcReplyArrival src words) :=
  Sys2Proof.Laws.Arrives.all _
theorem Sys2Proof.Laws.Arrives.receiverIdle :
    Sys2Proof.Laws.Arrives.Statement .receiverIdle :=
  Sys2Proof.Laws.Arrives.all _
end

