-- ==== Sys2Proof/Laws/Reach.lean ====
section
/-! SUPPORT. What the operations that reach across blocks can do: for each, the parts of the state outside which it changes
nothing, and for flushes, STANDBY and changes of the operating state what they answer. -/

namespace Sys2Proof.Machine

/-! ### Frames compose -/

theorem KeptBut.refl (s : State) (bs : List Block) : KeptBut s s bs := by
  intro b _; cases b <;> rfl

theorem KeptBut.trans {s t u : State} {bs : List Block} (h : KeptBut s t bs) (k : KeptBut t u bs) : KeptBut s u bs := by
  intro b hb
  have h1 := h b hb
  have h2 := k b hb
  cases b <;> exact Eq.trans h2 h1

theorem KeptBut.mono {s t : State} {bs cs : List Block} (h : KeptBut s t bs) (hs : bs ⊆ cs) : KeptBut s t cs :=
  fun b hb => h b fun hc => hb (hs hc)

/-- A frame that leaves the queue out keeps it. -/
theorem KeptBut.pending {s t : State} {bs : List Block} (h : KeptBut s t bs) (hb : Block.pending ∉ bs) :
    t.pending = s.pending := h .pending hb

theorem State.setNsq_kept (s : State) (b : Sequencer) : KeptBut s (s.setNsq b) [.nsq] := by
  intro x hx; cases x <;> first | rfl | exact absurd (by decide) hx
theorem State.setPins_kept (s : State) (b : PinLevels) : KeptBut s (s.setPins b) [.pins] := by
  intro x hx; cases x <;> first | rfl | exact absurd (by decide) hx
theorem State.setStu_kept (s : State) (b : StatusUnit) : KeptBut s (s.setStu b) [.stu] := by
  intro x hx; cases x <;> first | rfl | exact absurd (by decide) hx
theorem State.setPtb_kept (s : State) (b : PeerTable) : KeptBut s (s.setPtb b) [.ptb] := by
  intro x hx; cases x <;> first | rfl | exact absurd (by decide) hx
theorem State.setShe_kept (s : State) (b : ShareRecord) : KeptBut s (s.setShe b) [.she] := by
  intro x hx; cases x <;> first | rfl | exact absurd (by decide) hx
theorem State.setBlu_kept (s : State) (b : BlendUnit) : KeptBut s (s.setBlu b) [.blu] := by
  intro x hx; cases x <;> first | rfl | exact absurd (by decide) hx
theorem State.setPlu_kept (s : State) (b : PackUnit) : KeptBut s (s.setPlu b) [.plu] := by
  intro x hx; cases x <;> first | rfl | exact absurd (by decide) hx
theorem State.setGsc_kept (s : State) (b : Genset) : KeptBut s (s.setGsc b) [.gsc] := by
  intro x hx; cases x <;> first | rfl | exact absurd (by decide) hx
theorem State.setWau_kept (s : State) (b : Wear) : KeptBut s (s.setWau b) [.wau] := by
  intro x hx; cases x <;> first | rfl | exact absurd (by decide) hx
theorem State.setSli_kept (s : State) (b : LineUnit) : KeptBut s (s.setSli b) [.sli] := by
  intro x hx; cases x <;> first | rfl | exact absurd (by decide) hx
theorem State.setStp_kept (s : State) (b : StagePort) : KeptBut s (s.setStp b) [.stp] := by
  intro x hx; cases x <;> first | rfl | exact absurd (by decide) hx
theorem State.setMpt_kept (s : State) (b : MemoryPort) : KeptBut s (s.setMpt b) [.mpt] := by
  intro x hx; cases x <;> first | rfl | exact absurd (by decide) hx
theorem State.setFree_kept (s : State) (b : Nat) : KeptBut s (s.setFree b) [.free] := by
  intro x hx; cases x <;> first | rfl | exact absurd (by decide) hx
theorem State.putStatus_kept (s : State) (x : Status) (v : Bool) : KeptBut s (s.putStatus x v) [.stu] :=
  s.setStu_kept _
theorem State.requestPrompt_kept (s : State) : KeptBut s s.requestPrompt [.sli] := s.setSli_kept _
theorem State.writeSlot0_kept (s : State) (p : Setpoint) : KeptBut s (s.writeSlot0 p) [.stp] := s.setStp_kept _
theorem State.writeSlot1_kept (s : State) (p : Setpoint) : KeptBut s (s.writeSlot1 p) [.stp] := s.setStp_kept _
theorem State.reply_kept (s : State) (n : Nat) (r : ReplyResult) (d : List Word) : KeptBut s (s.reply n r d) [.sli] :=
  s.setSli_kept _

theorem KeptBut.setNsq {s t : State} {bs : List Block} (h : KeptBut s t bs) (hb : Block.nsq ∈ bs) (b : Sequencer) :
    KeptBut s (t.setNsq b) bs := h.trans ((t.setNsq_kept b).mono (by simpa using hb))
theorem KeptBut.setPins {s t : State} {bs : List Block} (h : KeptBut s t bs) (hb : Block.pins ∈ bs) (b : PinLevels) :
    KeptBut s (t.setPins b) bs := h.trans ((t.setPins_kept b).mono (by simpa using hb))
theorem KeptBut.setStu {s t : State} {bs : List Block} (h : KeptBut s t bs) (hb : Block.stu ∈ bs) (b : StatusUnit) :
    KeptBut s (t.setStu b) bs := h.trans ((t.setStu_kept b).mono (by simpa using hb))
theorem KeptBut.setPtb {s t : State} {bs : List Block} (h : KeptBut s t bs) (hb : Block.ptb ∈ bs) (b : PeerTable) :
    KeptBut s (t.setPtb b) bs := h.trans ((t.setPtb_kept b).mono (by simpa using hb))
theorem KeptBut.setShe {s t : State} {bs : List Block} (h : KeptBut s t bs) (hb : Block.she ∈ bs) (b : ShareRecord) :
    KeptBut s (t.setShe b) bs := h.trans ((t.setShe_kept b).mono (by simpa using hb))
theorem KeptBut.setBlu {s t : State} {bs : List Block} (h : KeptBut s t bs) (hb : Block.blu ∈ bs) (b : BlendUnit) :
    KeptBut s (t.setBlu b) bs := h.trans ((t.setBlu_kept b).mono (by simpa using hb))
theorem KeptBut.setPlu {s t : State} {bs : List Block} (h : KeptBut s t bs) (hb : Block.plu ∈ bs) (b : PackUnit) :
    KeptBut s (t.setPlu b) bs := h.trans ((t.setPlu_kept b).mono (by simpa using hb))
theorem KeptBut.setGsc {s t : State} {bs : List Block} (h : KeptBut s t bs) (hb : Block.gsc ∈ bs) (b : Genset) :
    KeptBut s (t.setGsc b) bs := h.trans ((t.setGsc_kept b).mono (by simpa using hb))
theorem KeptBut.setWau {s t : State} {bs : List Block} (h : KeptBut s t bs) (hb : Block.wau ∈ bs) (b : Wear) :
    KeptBut s (t.setWau b) bs := h.trans ((t.setWau_kept b).mono (by simpa using hb))
theorem KeptBut.setSli {s t : State} {bs : List Block} (h : KeptBut s t bs) (hb : Block.sli ∈ bs) (b : LineUnit) :
    KeptBut s (t.setSli b) bs := h.trans ((t.setSli_kept b).mono (by simpa using hb))
theorem KeptBut.setStp {s t : State} {bs : List Block} (h : KeptBut s t bs) (hb : Block.stp ∈ bs) (b : StagePort) :
    KeptBut s (t.setStp b) bs := h.trans ((t.setStp_kept b).mono (by simpa using hb))
theorem KeptBut.setMpt {s t : State} {bs : List Block} (h : KeptBut s t bs) (hb : Block.mpt ∈ bs) (b : MemoryPort) :
    KeptBut s (t.setMpt b) bs := h.trans ((t.setMpt_kept b).mono (by simpa using hb))
theorem KeptBut.setFree {s t : State} {bs : List Block} (h : KeptBut s t bs) (hb : Block.free ∈ bs) (b : Nat) :
    KeptBut s (t.setFree b) bs := h.trans ((t.setFree_kept b).mono (by simpa using hb))
theorem KeptBut.putStatus {s t : State} {bs : List Block} (h : KeptBut s t bs) (hb : Block.stu ∈ bs) (x : Status)
    (v : Bool) : KeptBut s (t.putStatus x v) bs := h.setStu hb _
theorem KeptBut.requestPrompt {s t : State} {bs : List Block} (h : KeptBut s t bs) (hb : Block.sli ∈ bs) :
    KeptBut s t.requestPrompt bs := h.setSli hb _
theorem KeptBut.writeSlot0 {s t : State} {bs : List Block} (h : KeptBut s t bs) (hb : Block.stp ∈ bs) (p : Setpoint) :
    KeptBut s (t.writeSlot0 p) bs := h.setStp hb _
theorem KeptBut.writeSlot1 {s t : State} {bs : List Block} (h : KeptBut s t bs) (hb : Block.stp ∈ bs) (p : Setpoint) :
    KeptBut s (t.writeSlot1 p) bs := h.setStp hb _

/-- The comparison of F changes the Status Unit and the STATE place at most (R138). -/
theorem State.compareF_kept (s : State) : KeptBut s s.compareF [.stu, .sli] := by
  rcases s.compareF_cases with h | h <;> rw [h]
  · exact (s.setStu_kept _).mono (by decide)
  · exact ((s.setStu_kept _).mono (by decide)).trans ((State.requestPrompt_kept _).mono (by decide))

/-! ### The own capability record, wear and exchanges -/

/-- Re-forming the own capability record changes the role block alone (R46, R78, R107). -/
theorem State.reformOwn_kept (s : State) : KeptBut s s.reformOwn [.blu, .plu, .gsc] := by
  unfold State.reformOwn
  split
  · exact (s.setBlu_kept _).mono (by decide)
  · exact (s.setPlu_kept _).mono (by decide)
  · exact (s.setGsc_kept _).mono (by decide)
  · exact KeptBut.refl _ _

theorem KeptBut.reformOwn {s t : State} {bs : List Block} (h : KeptBut s t bs) (hb : [Block.blu, .plu, .gsc] ⊆ bs) :
    KeptBut s t.reformOwn bs := h.trans (t.reformOwn_kept.mono hb)

/-- Forming the pack's limits (R72 to R78). -/
theorem State.formPackLimits_kept (s : State) : KeptBut s s.formPackLimits [.blu, .plu, .gsc, .stu] :=
  (((KeptBut.refl s _).setPlu (by decide) _).reformOwn (by decide)).putStatus (by decide) _ _

/-- An item replaced changes the wear accounts, the statuses and, through q, the own capability record (R120 to R124). -/
theorem State.putItem_kept (s : State) (i : Nat) (x : WearItem) :
    KeptBut s (s.putItem i x) [.wau, .stu, .blu, .plu, .gsc] := by
  have h1 : ∀ w v, KeptBut s ((s.setWau w).putStatus .wearNear v) [.wau, .stu, .blu, .plu, .gsc] := fun w v =>
    ((KeptBut.refl s _).setWau (by decide) w).putStatus (by decide) _ _
  have h2 : ∀ w v, KeptBut s
      (if x.state = .due ∧ (itemAt s.wau.items i).state ≠ .due then ((s.setWau w).putStatus .wearNear v).putStatus .wearDue true
        else (s.setWau w).putStatus .wearNear v) [.wau, .stu, .blu, .plu, .gsc] := by
    intro w v
    split
    · exact (h1 w v).putStatus (by decide) _ _
    · exact h1 w v
  unfold State.putItem
  dsimp only
  specialize h2 { s.wau with items := setItem s.wau.items i x } (anyNear (setItem s.wau.items i x))
  generalize ite (x.state = .due ∧ (itemAt s.wau.items i).state ≠ .due) _ _ = u at h2 ⊢
  by_cases hc : i = 1 ∧ x.acc ≠ (itemAt s.wau.items i).acc
  · rw [if_pos hc]
    have h3 := fun w => h2.setWau (by decide) w
    split
    · exact (h3 _).reformOwn (by decide)
    · exact h3 _
  · rw [if_neg hc]
    exact h2

theorem State.addUnits_kept (s : State) (i n : Nat) : KeptBut s (s.addUnits i n) [.wau, .stu, .blu, .plu, .gsc] :=
  s.putItem_kept _ _

theorem State.gather_kept (s : State) (i unit inc : Nat) :
    KeptBut s (s.gather i unit inc) [.wau, .stu, .blu, .plu, .gsc] := s.putItem_kept _ _

theorem State.beginExchange_kept (s : State) (p : Partner) (r : OwnReading) : KeptBut s (s.beginExchange p r) [.stp] := by
  cases p <;> exact s.setStp_kept _

theorem State.beginFinal_kept (s : State) : KeptBut s s.beginFinal [.stp] :=
  (s.setStp_kept _).trans (State.beginExchange_kept _ _ _)

/-! ### Resets -/

/-- SYNC entry leaves the share record, the free values and the queue (R178). -/
theorem State.enterSync_kept (s : State) (held : Bool) :
    KeptBut s (s.enterSync held) [.nsq, .pins, .stu, .ptb, .blu, .plu, .gsc, .wau, .sli, .stp, .mpt] := by
  unfold State.enterSync
  dsimp only
  refine KeptBut.setStu (KeptBut.requestPrompt (KeptBut.reformOwn ?_ (by decide)) (by decide)) (by decide) _
  have h := (((((KeptBut.refl s [.nsq, .pins, .stu, .ptb, .blu, .plu, .gsc, .wau, .sli, .stp, .mpt]).setNsq (by decide)
    { s.nsq with op := .sync, sync := .running 0, strapCheck := Timer.started }).setPins (by decide)
    { s.pins with ready := false, traction := false, partnerReset := held }).setPtb (by decide)
    { s.ptb with demandTimer := Timer.started }).setSli (by decide)
    { s.sli with line := .waitIdle 0, window := Timer.started, period := Timer.started }).setMpt (by decide)
    { s.mpt with recheck := Timer.started }
  split
  · refine KeptBut.setBlu ?_ (by decide) _
    split <;> exact h.setStp (by decide) _
  · refine KeptBut.setWau ?_ (by decide) _
    split <;> exact h.setStp (by decide) _
  · refine KeptBut.setGsc ?_ (by decide) _
    split <;> exact h.setStp (by decide) _
  · split <;> exact h.setStp (by decide) _

/-- An abandoned operation leaves bytes of the EEPROM free and changes nothing else (R174). -/
theorem State.abandonOperation_kept (s : State) : KeptBut s s.abandonOperation [.mpt, .free] := by
  unfold State.abandonOperation State.tearWord State.tearPage
  split
  · exact ((s.setMpt_kept _).mono (by decide)).trans ((State.setFree_kept _ _).mono (by decide))
  · exact ((((s.setMpt_kept _).mono (by decide)).trans ((State.setFree_kept _ _).mono (by decide))).trans
      ((State.setMpt_kept _ _).mono (by decide))).trans ((State.setFree_kept _ _).mono (by decide))
  all_goals exact KeptBut.refl _ _

/-- POWER_ON, BROWN_OUT and REBOOT keep the queue (log entry 39). -/
@[simp] theorem State.hardReset_pending (s : State) (k : ResetKind) : (s.hardReset k).pending = s.pending := by
  unfold State.hardReset
  split <;> exact s.abandonOperation_kept.pending (by decide)

@[simp] theorem State.restartReset_pending (s : State) : s.restartReset.pending = s.pending :=
  ((s.keptBlocks .restart).enterSync_kept true).pending (by decide)

@[simp] theorem State.wakeReset_pending (s : State) : s.wakeReset.pending = s.pending :=
  ((s.keptBlocks .wake).enterSync_kept false).pending (by decide)

/-! ### STANDBY -/

theorem State.roleStandby_kept (s : State) : KeptBut s s.roleStandby [.blu, .plu, .gsc, .stp] := by
  unfold State.roleStandby
  split
  · exact ((((s.setBlu_kept _).mono (by decide)).trans ((State.reformOwn_kept _).mono (by decide))).trans
      ((State.writeSlot0_kept _ _).mono (by decide))).trans ((State.writeSlot1_kept _ _).mono (by decide))
  · exact (((s.setPlu_kept _).mono (by decide)).trans ((State.reformOwn_kept _).mono (by decide))).trans
      ((State.writeSlot0_kept _ _).mono (by decide))
  · exact ((((s.setGsc_kept _).mono (by decide)).trans ((State.reformOwn_kept _).mono (by decide))).trans
      ((State.writeSlot1_kept _ _).mono (by decide))).trans ((State.writeSlot0_kept _ _).mono (by decide))
  · exact KeptBut.refl _ _

/-- STANDBY entry leaves the statuses, the share record, the free values and the queue (R181). -/
theorem State.enterStandby_kept (s : State) :
    KeptBut s s.enterStandby [.nsq, .pins, .ptb, .blu, .plu, .gsc, .wau, .sli, .stp, .mpt] := by
  unfold State.enterStandby
  dsimp only
  have h : ∀ n p, KeptBut s ((s.setNsq n).setPins p).roleStandby
      [.nsq, .pins, .ptb, .blu, .plu, .gsc, .wau, .sli, .stp, .mpt] := fun n p =>
    (((KeptBut.refl s _).setNsq (by decide) n).setPins (by decide) p).trans ((State.roleStandby_kept _).mono (by decide))
  have h2 : ∀ n p a b c d e, KeptBut s
      ((((((((s.setNsq n).setPins p).roleStandby).setPtb a).setSli b).setMpt c).setWau d).setStp e)
      [.nsq, .pins, .ptb, .blu, .plu, .gsc, .wau, .sli, .stp, .mpt] := fun n p a b c d e =>
    (((((h n p).setPtb (by decide) a).setSli (by decide) b).setMpt (by decide) c).setWau (by decide) d).setStp (by decide) e
  split
  · exact (h2 _ _ _ _ _ _ _).setStp (by decide) _
  · exact (h2 _ _ _ _ _ _ _).trans ((State.beginFinal_kept _).mono (by decide))

/-! ### Flushes (R167, R171, R172) -/

@[simp] theorem State.reportParty_pending (ok : Bool) (s : State) (p : Party) :
    (s.reportParty ok p).pending = s.pending := by
  cases p with
  | wearReset => rfl
  | standby =>
    show State.pending (if s.standbyReady then s.enterStandby else s) = _
    split
    · exact s.enterStandby_kept.pending (by decide)
    · rfl
  | reboot => exact s.hardReset_pending _

@[simp] theorem State.reportFlush_pending (s : State) (ok : Bool) (ps : List Party) :
    (s.reportFlush ok ps).pending = s.pending := by
  unfold State.reportFlush
  induction ps generalizing s with
  | nil => rfl
  | cons p ps ih => rw [List.foldl_cons, ih, State.reportParty_pending]

@[simp] theorem State.concludeFlush_pending (s : State) (ok : Bool) (ps : List Party) :
    (s.concludeFlush ok ps).pending = s.pending := by
  unfold State.concludeFlush
  cases ok <;> simp

/-- Below the sequence limit a flush begins its first attempt, in the slot after the ring position. -/
theorem State.launchFlush_eq {s : State} (h : s.mpt.ringSeq < seqMax) (ps : List Party) :
    s.launchFlush ps = s.setMpt (s.mpt.beginAttempt
      ⟨snapshotOf s.role s.wau.items, 1, (s.mpt.ringSlot + 1) % 8, s.mpt.ringSeq + 1, 1, ps⟩) := by
  unfold State.launchFlush attemptJob
  rw [if_neg (by omega)]

/-- At the sequence limit a flush fails at once. -/
theorem State.launchFlush_full {s : State} (h : seqMax ≤ s.mpt.ringSeq) (ps : List Party) :
    s.launchFlush ps = s.concludeFlush false ps := by
  unfold State.launchFlush attemptJob
  rw [if_pos (by omega)]

@[simp] theorem State.launchFlush_pending (s : State) (ps : List Party) : (s.launchFlush ps).pending = s.pending := by
  unfold State.launchFlush
  split <;> simp

@[simp] theorem State.startPending_pending (s : State) : s.startPending.pending = s.pending := by
  unfold State.startPending
  split
  · split <;> simp
  · rfl

/-- A flush requested while an operation is in flight joins the pending one. -/
theorem State.requestFlush_busy {s : State} (h : s.mpt.op ≠ .none) (ps : List Party) :
    s.requestFlush ps = s.setMpt { s.mpt with pendingFlush := some ((s.mpt.pendingFlush.getD []) ++ ps) } := by
  unfold State.requestFlush
  rw [if_neg h]

theorem State.requestFlush_idle {s : State} (h : s.mpt.op = .none) (ps : List Party) :
    s.requestFlush ps = s.launchFlush ps := by
  unfold State.requestFlush
  rw [if_pos h]

/-- Below the sequence limit a flush request changes the Memory Port alone. -/
theorem State.requestFlush_kept {s : State} (h : s.mpt.ringSeq < seqMax) (ps : List Party) :
    KeptBut s (s.requestFlush ps) [.mpt] := by
  by_cases ho : s.mpt.op = .none
  · rw [State.requestFlush_idle ho, State.launchFlush_eq h]; exact s.setMpt_kept _
  · rw [State.requestFlush_busy ho]; exact s.setMpt_kept _

@[simp] theorem State.requestFlush_pending (s : State) (ps : List Party) : (s.requestFlush ps).pending = s.pending := by
  unfold State.requestFlush
  split <;> simp

@[simp] theorem State.endFlush_pending (s : State) (ok : Bool) (ps : List Party) :
    (s.endFlush ok ps).pending = s.pending := by unfold State.endFlush; simp

@[simp] theorem State.endOperation_pending (s : State) : s.endOperation.pending = s.pending := by
  unfold State.endOperation; simp

/-- The STANDBY test requests a flush or does nothing (R180). -/
theorem State.testStandby_cases (s : State) : s.testStandby = s.requestFlush [.standby] ∨ s.testStandby = s := by
  unfold State.testStandby
  split
  · exact .inl rfl
  · exact .inr rfl

theorem State.testStandby_kept {s : State} (h : s.mpt.ringSeq < seqMax) : KeptBut s s.testStandby [.mpt] := by
  rcases s.testStandby_cases with e | e <;> rw [e]
  · exact State.requestFlush_kept h _
  · exact KeptBut.refl _ _

@[simp] theorem State.testStandby_pending (s : State) : s.testStandby.pending = s.pending := by
  rcases s.testStandby_cases with e | e <;> rw [e]
  exact s.requestFlush_pending _

/-! ### The engine and the operating state -/

/-- A change of engine state changes the scheduler, the setpoint and the own capability record (R91). -/
theorem State.enterEngine_kept (s : State) (e : EngineState) : KeptBut s (s.enterEngine e) [.blu, .plu, .gsc, .stp] :=
  (((s.setGsc_kept _).mono (by decide)).trans ((State.writeSlot1_kept _ _).mono (by decide))).trans
    ((State.reformOwn_kept _).mono (by decide))

theorem State.engineCooldown_kept (s : State) : KeptBut s s.engineCooldown [.blu, .plu, .gsc, .stp] :=
  ((s.setGsc_kept _).mono (by decide)).trans (State.enterEngine_kept _ _)

theorem State.engineWarming_kept (s : State) : KeptBut s s.engineWarming [.blu, .plu, .gsc, .stp] :=
  ((s.setGsc_kept _).mono (by decide)).trans (State.enterEngine_kept _ _)

theorem State.engineRunning_kept (s : State) : KeptBut s s.engineRunning [.blu, .plu, .gsc, .stp] :=
  ((s.setGsc_kept _).mono (by decide)).trans (State.enterEngine_kept _ _)

/-- The engine's entry to OFF may request the STANDBY flush (R180). -/
theorem State.engineOff_kept {s : State} (h : s.mpt.ringSeq < seqMax) (n : Nat) :
    KeptBut s (s.engineOff n) [.blu, .plu, .gsc, .stp, .mpt] := by
  unfold State.engineOff
  have h1 := ((s.setGsc_kept { s.gsc with
      crank := Timer.stopped, warm := Timer.stopped, cooldown := Timer.stopped, off := Timer.started, dwell := n }).mono
      (cs := [.blu, .plu, .gsc, .stp]) (by decide)).trans (State.enterEngine_kept _ .off)
  have h2 : s.mpt = State.mpt _ := (h1 .mpt (by decide)).symm
  exact (h1.mono (by decide)).trans ((State.testStandby_kept (h2 ▸ h)).mono (by decide))

@[simp] theorem State.engineOff_pending (s : State) (n : Nat) : (s.engineOff n).pending = s.pending := by
  unfold State.engineOff
  rw [State.testStandby_pending]
  exact (State.enterEngine_kept _ _).pending (by decide)

theorem State.engineAttempt_kept (s : State) : KeptBut s s.engineAttempt [.blu, .plu, .gsc, .stp, .wau, .stu] := by
  unfold State.engineAttempt
  have h := (((s.setGsc_kept { s.gsc with
      starts := s.gsc.starts ++ [s.gsc.clock], crank := Timer.started, off := s.gsc.off.halt }).mono
      (cs := [.blu, .plu, .gsc, .stp, .wau, .stu]) (by decide)).trans
      ((State.enterEngine_kept _ .cranking).mono (by decide))).trans ((State.addUnits_kept _ 1 1).mono (by decide))
  dsimp only
  split
  · exact h.trans ((State.addUnits_kept _ _ _).mono (by decide))
  · exact h

theorem State.engineWithdrawn_kept {s : State} (h : s.mpt.ringSeq < seqMax) :
    KeptBut s s.engineWithdrawn [.blu, .plu, .gsc, .stp, .mpt] := by
  unfold State.engineWithdrawn
  split
  · exact s.engineCooldown_kept.mono (by decide)
  · exact s.engineCooldown_kept.mono (by decide)
  · exact State.engineOff_kept h _
  all_goals exact KeptBut.refl _ _

@[simp] theorem State.engineWithdrawn_pending (s : State) : s.engineWithdrawn.pending = s.pending := by
  unfold State.engineWithdrawn
  split
  · exact s.engineCooldown_kept.pending (by decide)
  · exact s.engineCooldown_kept.pending (by decide)
  · simp
  all_goals rfl

/-- Entry to ACTIVE or WITHDRAWN below the sequence limit (R104, R136 to R138). -/
theorem State.enterServing_kept {s : State} (h : s.mpt.ringSeq < seqMax) (op : OpState) :
    KeptBut s (s.enterServing op) [.nsq, .pins, .blu, .plu, .gsc, .sli, .stp, .mpt] := by
  unfold State.enterServing
  have h1 := ((((s.setNsq_kept { s.nsq with op := op }).mono (cs := [.nsq, .pins, .blu, .plu, .gsc, .sli])
      (by decide)).trans ((State.setPins_kept _ { s.pins with ready := true, traction := op == .active }).mono
      (by decide))).trans ((State.reformOwn_kept _).mono (by decide))).trans
      ((State.requestPrompt_kept _).mono (by decide))
  have h2 : s.mpt = State.mpt _ := (h1 .mpt (by decide)).symm
  dsimp only
  split
  · exact (h1.mono (by decide)).trans ((State.engineWithdrawn_kept (h2 ▸ h)).mono (by decide))
  · exact h1.mono (by decide)

@[simp] theorem State.enterServing_pending (s : State) (op : OpState) : (s.enterServing op).pending = s.pending := by
  unfold State.enterServing
  dsimp only
  have h : ∀ t : State, t.reformOwn.requestPrompt.pending = t.pending := fun t =>
    t.reformOwn_kept.pending (by decide)
  split
  · rw [State.engineWithdrawn_pending, h]; rfl
  · rw [h]; rfl

@[simp] theorem State.leaveSync_pending (s : State) : s.leaveSync.pending = s.pending := by
  unfold State.leaveSync; simp

/-- What the withdrawing set makes of the operating state: nothing, or entry to the other of ACTIVE and WITHDRAWN (R136). -/
theorem State.decideOp_cases (s : State) :
    s.decideOp = s
      ∨ s.nsq.op = .active ∧ s.withdraws = true ∧ s.decideOp = s.enterServing .withdrawn
      ∨ s.nsq.op = .withdrawn ∧ s.withdraws = false ∧ s.decideOp = s.enterServing .active := by
  unfold State.decideOp
  cases hop : s.nsq.op <;> cases hw : s.withdraws <;> simp

@[simp] theorem State.decideOp_pending (s : State) : s.decideOp.pending = s.pending := by
  rcases s.decideOp_cases with h | ⟨-, -, h⟩ | ⟨-, -, h⟩ <;> rw [h]
  · exact s.enterServing_pending _
  · exact s.enterServing_pending _

@[simp] theorem State.settle_pending (s : State) : s.settle.pending = s.pending := by
  unfold State.settle; simp

/-- Below the sequence limit the end of an event leaves the tables, the accounts, the share record and the free values. -/
theorem State.settle_kept {s : State} (h : s.mpt.ringSeq < seqMax) :
    KeptBut s s.settle [.nsq, .pins, .stu, .blu, .plu, .gsc, .sli, .stp, .mpt] := by
  unfold State.settle
  have h1 : KeptBut s s.decideOp [.nsq, .pins, .stu, .blu, .plu, .gsc, .sli, .stp, .mpt] := by
    rcases s.decideOp_cases with e | ⟨-, -, e⟩ | ⟨-, -, e⟩ <;> rw [e]
    · exact KeptBut.refl _ _
    · exact (State.enterServing_kept h _).mono (by decide)
    · exact (State.enterServing_kept h _).mono (by decide)
  exact h1.trans ((State.compareF_kept _).mono (by decide))

/-! ### Bytes of the EEPROM (R172 to R174) -/

theorem State.tearPage_wf {s : State} (job : FlushJob) (h : s.mpt.eeprom.wf = true) :
    (s.tearPage job).mpt.eeprom.wf = true := Memory.writeAll_wf _ _ h

theorem State.tearWord_wf {s : State} (n : Nat) (h : s.mpt.eeprom.wf = true) :
    (s.tearWord n).mpt.eeprom.wf = true := Memory.writeAll_wf _ _ h

/-- A page left torn leaves every byte outside its 32. -/
theorem State.tearPage_read {s : State} (job : FlushJob) {a : Nat} (h : s.mpt.eeprom.wf = true)
    (ha : a < pageAddress job.slot job.page ∨ pageAddress job.slot job.page + 32 ≤ a) :
    Memory.read (s.tearPage job).mpt.eeprom a = Memory.read s.mpt.eeprom a := by
  apply Memory.read_writeAll_outside h
  simpa using ha

/-- A word left torn leaves every byte outside its two. -/
theorem State.tearWord_read {s : State} (n : Nat) {a : Nat} (h : s.mpt.eeprom.wf = true)
    (ha : a < 2 * n ∨ 2 * n + 2 ≤ a) : Memory.read (s.tearWord n).mpt.eeprom a = Memory.read s.mpt.eeprom a := by
  apply Memory.read_writeAll_outside h
  simpa using ha

theorem State.writePage_wf {s : State} (job : FlushJob) (h : s.mpt.eeprom.wf = true) :
    (s.writePage job).mpt.eeprom.wf = true := Memory.writeAll_wf _ _ h

/-- An abandoned operation keeps the canonical form. -/
theorem State.abandonOperation_wf {s : State} (h : s.mpt.eeprom.wf = true) :
    s.abandonOperation.mpt.eeprom.wf = true := by
  unfold State.abandonOperation
  split
  · exact State.tearPage_wf _ h
  · exact State.tearWord_wf _ (State.tearWord_wf _ h)
  all_goals exact h

/-! ### Service requests (R182) -/

/-- A request from the tool that reaches the node is answered in the place it is given, and the event is then ended. -/
theorem State.serviceRequest_of_reaches {s : State} {target : Address} {code n : Nat} {args : List Word}
    {carry : State → Nat → State} (h : Reaches s target code n) (ha : args.length ≤ 5) :
    s.serviceRequest 15 target code args carry = (s.frameEnds.answerRequest n code args carry).settle := by
  obtain ⟨h1, h2, h3, h4, h5⟩ := h
  have hg : s.goodFrameEnds 15 = s.frameEnds := by
    unfold State.goodFrameEnds
    exact if_neg fun e => h3 e.symm
  have hp : s.frameEnds.requestPlace 15 target code = some n := by
    have hs : s.frameEnds.serves = true := h2
    have hf : freePlace s.frameEnds.sli.replies = some n := h5
    have ho : s.frameEnds.ownAddress = s.ownAddress := rfl
    unfold State.requestPlace
    rw [hs, hf, ho]
    rcases h4 with ⟨rfl, h0⟩ | ⟨rfl, h13 | h13⟩
    · simp
      exact fun e => absurd e h0
    · simp [h13]
    · simp [h13]
  unfold State.serviceRequest
  rw [h1, if_pos rfl, if_pos (by simpa [argumentsCarried] using ha)]
  simp only [hg, hp]

/-! ### The ends of a CONFIG_WRITE and the values after a reset -/

/-- When a CONFIG_WRITE can end so: a write fails only where its polling has lasted 20 ms (R173). -/
theorem State.canEndWrite_iff (s : State) (outcome : WriteOutcome) :
    s.canEndWrite outcome = true ↔
      (outcome = .wordFailed ∨ outcome = .checkFailed → s.mpt.poll.running = true ∧ 20 ≤ s.mpt.poll.elapsed) := by
  cases outcome <;> simp [State.canEndWrite, Timer.due]

/-- What the end of a service request's operation answers where no flush is pending (R167). -/
theorem State.endOperation_of_noFlush (s : State) (h : s.mpt.pendingFlush = none) :
    s.endOperation = s.setMpt { s.mpt with op := .none, poll := Timer.stopped } := by
  simp [State.endOperation, State.startPending, h]

theorem BlendUnit.initial_atReset (q : Nat) : (BlendUnit.initial q).AtReset := by
  simp [BlendUnit.AtReset, BlendUnit.initial, Timer.stopped]

theorem PackUnit.initial_atReset : PackUnit.initial.AtReset := by simp [PackUnit.AtReset, PackUnit.initial]

theorem Genset.initial_atReset : Genset.initial.AtReset := by simp [Genset.AtReset, Genset.initial, Timer.stopped]

theorem StagePort.initial_atReset : StagePort.initial.AtReset := by simp [StagePort.AtReset, StagePort.initial]

theorem LineUnit.initial_atReset : LineUnit.initial.AtReset := by
  simp [LineUnit.AtReset, LineUnit.initial, Timer.stopped]

end Sys2Proof.Machine
end

