-- ==== Sys2Proof/Tests/Slice0.lean ====
section
/-! SUPPORT. Smoke tests of WellFormed, worked cases of spec/, and for every statement with hypotheses a state and operands
that meet them, at the bounds of its clauses. Expected values come from the tables that each test names. -/

open Sys2Proof Sys2Proof.Machine

namespace Sys2Proof.Tests

set_option Elab.async false

/-! ### WellFormed: an ill-formed term for each check -/

theorem test_illFormed_demand : WellFormed (.demandArrival 0 (List.replicate 7 0)) = false := by decide
theorem test_illFormed_state_role : WellFormed (.stateArrival 1 [0, 0, 0, 0]) = false := by decide
theorem test_illFormed_state_length : WellFormed (.stateArrival 1 [0x4000, 0, 0, 0, 0]) = false := by decide
theorem test_illFormed_reply_empty : WellFormed (.svcReplyArrival 3 []) = false := by decide
theorem test_illFormed_reply_long : WellFormed (.svcReplyArrival 3 (List.replicate 7 0)) = false := by decide
theorem test_illFormed_request : WellFormed (.restart 15 3 (List.replicate 6 0)) = false := by decide
theorem test_illFormed_unsupported : WellFormed (.unsupportedRequest 15 3 13 []) = false := by decide
theorem test_illFormed_record : WellFormed (.exchangeCompletion (List.replicate 15 0)) = false := by decide
theorem test_wellFormed : WellFormed (.demandArrival 0 (List.replicate 6 0)) = true
    ∧ WellFormed (.stateArrival 1 (0x4000 :: List.replicate 5 0)) = true
    ∧ WellFormed (.unsupportedRequest 15 3 14 []) = true
    ∧ WellFormed (.exchangeCompletion (List.replicate 16 0)) = true := by decide

/-- No row of spec/opcode_table.json gives bits. -/
theorem test_decodeTableWord : decodeTableWord 8 0 = none ∧ decodeTableWord 16 0x1234 = none := by decide

/-! ### Small states -/

/-- What a command makes of a state. -/
def after (c : Instr) (s : State) : State :=
  match exec c s with
  | .next t => t
  | .fault _ | .refused _ => s

/-- The image of the tests: the defaults with a rating of 250 kW, 180 kW and 500 kW, genset 150 kW and 40 kW, near
thresholds of 10,000,000 and 80,000 and due thresholds of 12,000,000 and 100,000 for the first item (worked cases of chapters 1, 3 and 6). -/
def image (role : Role) : List Word :=
  let c := ((((((defaultImage (some role)).set 6 250).set 7 180).set 9 500).set 22 150).set 23 40)
  match role with
  | .pack => ((((c.set 32 0x0001).set 33 0x3880).set 34 0x0001).set 35 0x86A0)
  | .axle | .genset => ((((c.set 32 0x0098).set 33 0x9680).set 34 0x00B7).set 35 0x1B00)

/-- A node of a role and address in ACTIVE on a quiet line, with nothing received yet. -/
def node (role : Role) (a : Address) : State :=
  let p : Straps := a ++ BitVec.ofNat 3 role.code
  let s := State.reset
  let s := s.setNsq { s.nsq with op := .active, sample := p, sync := .expired, strapCheck := Timer.started }
  let s := s.setPins ⟨p, true, true, false⟩
  let s := s.setSli { s.sli with line := .idle, period := Timer.started, window := Timer.started }
  let s := s.setStp { s.stp with exchange := Timer.started, settle := .expired }
  let s := s.setWau (Wear.blank (itemCount role))
  s.setMpt { s.mpt with op := .none, copy := image role, flush := Timer.started, recheck := Timer.started }

def axle : State := node .axle 3
def pack : State := node .pack 1
def genset : State := node .genset 2

/-- The node in SYNC. -/
def inSync (s : State) : State :=
  let s := s.setNsq { s.nsq with op := .sync, sync := .running 0 }
  (s.setPins { s.pins with ready := false, traction := false }).setStu { s.stu with fValue := true }

/-- The node in WITHDRAWN, by CLASH. -/
def inWithdrawn (s : State) : State :=
  let s := s.setNsq { s.nsq with op := .withdrawn }
  (s.setPins { s.pins with traction := false }).setStu { s.stu with set := statusPut s.stu.set .clash true, fValue := true }

/-- The node in STANDBY, both final exchanges ended. -/
def inStandby (s : State) : State :=
  let s := s.setNsq { s.nsq with op := .standby, sync := .stopped, strapCheck := Timer.stopped }
  let s := s.setPins { s.pins with ready := false, traction := false, partnerReset := true }
  s.setStp { s.stp with exchange := Timer.stopped, settle := .stopped, final := .ended }

/-- A FRESH peer in ACTIVE. -/
def peer (a : Address) (part : RolePart) : PeerEntry := ⟨a, part, .known .active, .fresh, Timer.started⟩

def withPeers (s : State) (es : List PeerEntry) : State := s.setPtb { s.ptb with entries := es }

/-- The demand record present, with a demand, a speed, an auxiliary load and the flags clear. -/
def withDemand (s : State) (d : Int) (v aux : Nat) : State :=
  s.setPtb { s.ptb with demand := ⟨true, d, v, aux, false, false, false, false⟩, demandTimer := Timer.started }

/-- The demand record with PARKED set. -/
def parked (s : State) : State :=
  s.setPtb { s.ptb with demand := ⟨true, 0, 0, 0, true, false, false, false⟩, demandTimer := Timer.started }

def withStatus (s : State) (x : Status) : State := s.putStatus x true

/-- A 16-byte record with a good check, from its bytes 0 to 14. -/
def goodRecord (body : List Byte) : List Byte := body ++ [xorBytes body]

/-- An inverter record: nibble, link voltage, speed, power, stage temperature (Table 9.9-2). -/
def inverterRecord (nib : BitVec 4) (u n : Word) (pAct : Int) (ts : Byte) : List Byte :=
  goodRecord ([nib ++ 1#4] ++ bytesOfWord u ++ [0, 0] ++ bytesOfWord n ++ bytesOfWord (BitVec.ofInt 16 pAct)
    ++ [ts, 0, 0, 0, 0, 0])

/-- A modulator record: nibble, pressure, wheel speeds. -/
def modulatorRecord (nib : BitVec 4) (p w : Word) : List Byte :=
  goodRecord ([nib ++ 1#4] ++ bytesOfWord p ++ bytesOfWord w ++ bytesOfWord w ++ List.replicate 8 0)

/-- A pack monitor record. -/
def monitorRecord (nib : BitVec 4) (u soc : Word) (t : Int) (chg dis : Word) (i : Int) (fault : Byte) : List Byte :=
  goodRecord ([nib ++ 1#4] ++ bytesOfWord u ++ bytesOfWord soc ++ [BitVec.ofInt 8 t, 0] ++ bytesOfWord chg
    ++ bytesOfWord dis ++ bytesOfWord (BitVec.ofInt 16 i) ++ [fault, 0])

/-- An engine controller record: nibble, engine state, coolant. -/
def controllerRecord (nib : BitVec 4) (e : Byte) (coolant : Int) : List Byte :=
  goodRecord ([nib ++ 1#4, e, 0, 0, 0, BitVec.ofInt 8 coolant] ++ List.replicate 9 0)

/-- An exchange in flight with a partner, with the own link voltage sampled. -/
def exchanging (s : State) (p : Partner) (sample : OwnReading) : State :=
  s.setStp { s.stp with inFlight := some ⟨p, [], sample⟩ }

/-- The inverter record that node 3 holds in chapter 3's cases: 2400 rpm, 60 °C. -/
def held2400 : Partner0 := ⟨0, 700, 2400, 0, 60, false⟩

def holding0 (s : State) (h : Partner0) : State := s.setStp { s.stp with held0 := some h, heldSpeed := some h.n }
def holding1 (s : State) (d : Partner1Data) : State := s.setStp { s.stp with held1 := some ⟨0, d⟩ }

/-- Node 3 of the worked cases of chapter 1, its own capabilities formed. -/
def node3 : State :=
  let s := (holding1 (holding0 axle held2400) (.modulator 0 360 360 false)).setBlu
    { BlendUnit.initial 100 with own := ⟨250, 180, 500, 100, false, 0⟩ }
  withPeers s [peer 1 (.pack 250 120 500), peer 2 (.genset 150 40 .running), peer 4 (.axle 0 200 150 500 60)]

/-! ### Worked cases of spec/ -/

/-- Tables 1.4-1 and 1.4-2: traction, node 3 and node 4. -/
theorem test_traction : (after (.demandArrival 0 [300, 360, 20, 0]) node3).she = ⟨167, 0, 0, false, false⟩
    ∧ computeShare ⟨4, 200, 150, 500, 60⟩ [peer 1 (.pack 250 120 500), peer 2 (.genset 150 40 .running),
        peer 3 (.axle 0 250 180 500 100)] 300 360 20 40 120 = ⟨133, 0, 0, false, false⟩ := by decide +kernel

/-- Tables 1.5-1 and 1.5-2: braking, node 3 and node 4. -/
theorem test_braking : (after (.demandArrival 0 [BitVec.ofInt 16 (-250), 360, 20, 0]) node3).she = ⟨0, 99, 44, false, false⟩
    ∧ computeShare ⟨4, 200, 150, 500, 60⟩ [peer 1 (.pack 250 120 500), peer 2 (.genset 150 40 .running),
        peer 3 (.axle 0 250 180 500 100)] (-250) 360 20 40 120 = ⟨0, 81, 26, false, false⟩ := by decide +kernel

/-- Tables 1.5-3 and 1.5-4: descent, with the fade at 8 km/h. -/
theorem test_descent : computeShare ⟨3, 250, 180, 500, 100⟩ [peer 1 (.pack 250 88 900), peer 2 (.genset 0 0 .cooldown),
      peer 4 (.axle 0 200 0 500 60)] (-400) 80 20 40 120 = ⟨0, 90, 194, false, false⟩ := by decide +kernel

/-- Table 1.5-6: friction capacity exceeded. -/
theorem test_shortBrake : computeShare ⟨3, 250, 180, 300, 100⟩ [peer 1 (.pack 250 120 500),
      peer 2 (.genset 150 40 .running), { peer 4 (.axle 0 0 0 300 60) with reported := .known .withdrawn }]
      (-1000) 200 20 40 120 = ⟨0, 180, 300, false, true⟩
    ∧ computeShare ⟨4, 0, 0, 300, 60⟩ [peer 1 (.pack 250 120 500), peer 2 (.genset 150 40 .running),
      peer 3 (.axle 0 250 180 300 100)] (-1000) 200 20 40 120 = ⟨0, 0, 300, false, true⟩ := by decide +kernel

/-- Table 3.6-1: node 3 at its first completions after the braking arrival. -/
def node3Braking : State := (withDemand node3 (-250) 360 20).setShe ⟨0, 99, 44, false, false⟩

theorem test_torque : (after (.exchangeCompletion (inverterRecord 1 700 2400 0 60))
      (exchanging node3Braking .p0 (.volts 700))).stp.slot0 = some (.torque (-393)) := by decide +kernel

theorem test_pressure : (after (.exchangeCompletion (modulatorRecord 1 35 360))
      (exchanging node3Braking .p1 .none)).stp.slot1 = some (.pressure 35) := by decide +kernel

/-- Table 3.6-2: the link at 770 V. -/
theorem test_droop :
    let t := after (.exchangeCompletion (inverterRecord 1 770 2400 0 60)) (exchanging node3Braking .p0 (.volts 770))
    t.blu.gr = 60 ∧ t.blu.rE = 59 ∧ t.blu.fE = 84 ∧ t.blu.torque = -234 ∧ t.status .derate = true := by decide +kernel

/-- Table 3.7-1, at 0 ms: a wheel speed of 310 takes node 3 into SLIP. -/
theorem test_slip :
    let t := after (.exchangeCompletion (modulatorRecord 1 35 310)) (exchanging node3Braking .p1 .none)
    t.blu.slip = .slip .braking ∧ t.blu.own.pr = 0 ∧ t.blu.rE = 0 ∧ t.blu.fE = 143 ∧ t.blu.pressure = 114
      ∧ (itemAt t.wau.items 3).acc = 1 := by decide +kernel

/-- Table 3.7-1, at 500 ms and at 2300 ms. -/
theorem test_slipHold :
    (after .slipHoldTimerExpiry (node3.setBlu { node3.blu with slip := .slip .braking, slipHold := ⟨true, 300⟩ })).blu.slip
      = .recover .braking := by decide +kernel
theorem test_recover :
    let t := after .rampTimerExpiry
      (node3.setBlu { node3.blu with slip := .recover .braking, limitL := 179, rampTimer := ⟨true, 10⟩ })
    t.blu.slip = .grip ∧ t.blu.own.pr = 180 := by decide +kernel

/-- Table 3.8-1, at 50 ms and at 100 ms. -/
theorem test_ramp :
    let s := (withDemand node3 300 360 20).setBlu { node3.blu with limitM := 167 }
    let t := after .demandTimerExpiry (s.setPtb { s.ptb with demandTimer := ⟨true, 50⟩ })
    t.blu.ramp = .down ∧ t.blu.limitM = 167 ∧ t.she.d = 0 ∧ t.status .demandLost = true
      ∧ (after .rampTimerExpiry (t.setBlu { t.blu with limitM := 159, rampTimer := ⟨true, 10⟩ })).blu.limitM = 157 := by
  decide +kernel

/-- Tables 4.7-1 and 4.7-2: pack 1 at SOC 900 and 5 °C with d_w = 91. -/
def pack1 : State := pack.setWau { pack.wau with dw := 91 }

theorem test_pack :
    let t := after (.exchangeCompletion (monitorRecord 1 650 900 5 300 400 0 0)) (exchanging pack1 .p1 .none)
    t.plu.pd0 = 260 ∧ t.plu.own.po = 236 ∧ t.plu.pa0 = 195 ∧ t.plu.pa2 = 97 ∧ t.plu.own.pa = 88
      ∧ t.status .derate = true := by decide +kernel

/-- Section 4.8: the same pack at −5 °C, at SOC_max, and with a pack fault. -/
theorem test_packEdges :
    (after (.exchangeCompletion (monitorRecord 1 650 900 (-5) 300 400 0 0)) (exchanging pack1 .p1 .none)).plu.own.pa = 43
    ∧ (after (.exchangeCompletion (monitorRecord 1 650 950 5 300 400 0 0)) (exchanging pack1 .p1 .none)).plu.own.pa = 0
    ∧ (after (.exchangeCompletion (monitorRecord 1 650 900 5 300 400 0 1)) (exchanging pack1 .p1 .none)).plu.paF = 88
    ∧ (after (.exchangeCompletion (monitorRecord 1 650 900 5 300 400 0 1)) (exchanging pack1 .p1 .none)).plu.own.pa = 0
    ∧ (after (.exchangeCompletion (monitorRecord 1 650 900 5 300 400 0 1)) (exchanging pack1 .p1 .none)).nsq.op
      = .withdrawn := by decide +kernel

/-- Table 4.7-1: the converter's current limits of pack 1. -/
theorem test_converter :
    let s := (holding1 pack1 (.monitor 650 900 5 300 400 0 false)).setPlu { pack1.plu with poF := 236, paF := 88 }
    (after (.exchangeCompletion (inverterRecord 1 700 0 0 40)) (exchanging s .p0 (.volts 700))).stp.slot0
      = some (.converter 700 363 135) := by decide +kernel

/-- Section 5.9: genset 5 makes an attempt at tick t, and forms P_set 22 in WARMING. -/
def genset5 : State :=
  let s := holding1 (holding0 (node .genset 5) held2400) (.controller .stopped 20)
  let s := withDemand (withPeers s [peer 1 (.pack 250 120 500), peer 2 (.genset 150 40 .running),
    peer 3 (.axle 105 250 180 500 100)]) 0 360 20
  s.setGsc { s.gsc with tick := ⟨true, 1000⟩, off := ⟨true, 20000⟩, netLoad := [125], adoption := false }

theorem test_secondEngine :
    let t := after .tick genset5
    t.gsc.nBar = 125 ∧ t.gsc.primary = false ∧ t.gsc.engine = .cranking ∧ t.gsc.starts = [1]
      ∧ t.stp.slot1 = some (.engine .crank) ∧ (itemAt t.wau.items 1).acc = 1 ∧ (itemAt t.wau.items 3).acc = 0 := by
  decide +kernel
theorem test_power :
    (after .tick (genset5.setGsc { genset5.gsc with engine := .warming })).gsc.pSet = 22 := by decide +kernel

/-- Table 6.2-2: A1 at node 3 over a carry, with q. -/
theorem test_padCarry :
    let s := node3Braking.setWau { node3Braking.wau with
      items := setItem node3Braking.wau.items 1 ⟨5999999, 950000, .ok⟩, q := 61 }
    let t := after (.exchangeCompletion (modulatorRecord 1 35 360)) (exchanging s .p1 .none)
    (itemAt t.wau.items 1).acc = 6000000 ∧ (itemAt t.wau.items 1).residue = 37500 ∧ t.wau.q = 60 ∧ t.blu.own.q = 60 := by
  decide +kernel

/-- Table 6.4-2, completion 3: S1 at pack 1, with d_w and the limits of the same completion. -/
theorem test_chargeCarry :
    let s := pack.setWau { pack.wau with items := setItem pack.wau.items 1 ⟨29999, 35998100, .ok⟩, dw := 92 }
    let t := after (.exchangeCompletion (monitorRecord 1 650 900 5 300 400 (-1350) 0)) (exchanging s .p1 .none)
    (itemAt t.wau.items 1).acc = 30000 ∧ (itemAt t.wau.items 1).residue = 2150 ∧ t.wau.dw = 91 ∧ t.plu.own.po = 236
      ∧ t.plu.own.pa = 88 := by decide +kernel

/-- Table 6.4-1. -/
theorem test_derived : padWeight (image .axle) 0 = 100 ∧ padWeight (image .axle) 6000000 = 60
    ∧ padWeight (image .axle) 11000000 = 27 ∧ padWeight (image .axle) 12500000 = 20
    ∧ packDerate (image .pack) 30000 = 91 ∧ packDerate (image .pack) 100000 = 70 := by decide +kernel

/-- Table 8.7-1: the arbitration fields. -/
theorem test_arbitration : (makeFrame 0 0 0 []).arbitration = 0b0000000#7 ∧ (makeFrame 1 3 1 []).arbitration = 0b0010011#7
    ∧ (makeFrame 2 4 1 []).arbitration = 0b0100100#7 := by decide +kernel

/-- The check with the generator x^16 + x^12 + x^5 + 1 from all ones over the nine digits, a value known of that check. -/
theorem test_check :
    checkOf ([0x31#8, 0x32, 0x33, 0x34, 0x35, 0x36, 0x37, 0x38, 0x39].flatMap bitsOf) = 0x29B1#16 := by decide +kernel

/-- Table 9.6-1, at 2 ms and at 30 ms. -/
theorem test_speedRejected :
    let t := after (.exchangeCompletion (inverterRecord 1 700 2700 0 60))
      (exchanging (holding0 axle { held2400 with n := 2420 }) .p0 (.volts 700))
    t.stp.heldSpeed = some 2420 ∧ t.stp.rejections = 1 ∧ t.status .plausSpeed = true ∧ t.nsq.op = .active := by
  decide +kernel
theorem test_speedFault :
    let s := holding0 axle { held2400 with n := 2430 }
    let t := after (.exchangeCompletion (inverterRecord 1 700 3640 0 60))
      (exchanging (s.setStp { s.stp with rejections := 4 }) .p0 (.volts 700))
    t.stp.heldSpeed = some 3640 ∧ t.stp.rejections = 0 ∧ t.status .speedFault = true ∧ t.nsq.op = .withdrawn
      ∧ t.pins.traction = false := by decide +kernel

/-- Table 8.8-2: the header of an ACTIVE AXLE node's STATE frame, and the payload of Table 8.8-3. -/
theorem test_stateFrame :
    ((after .attemptStart (node3.setSli { node3.sli with state := ⟨.queued, 2, false, 0⟩ })).sli.sending.map Frame.words)
      = some [0x5000, 250, 180, 500, 100, 0] := by decide +kernel

/-- Tables 8.8-4 and 8.8-5: the reply to IDENTIFY of AXLE node 3 after POWER_ON. -/
theorem test_identify :
    ((after (.identify 15 3 []) axle).sli.replies.map ReplyPlace.data) = [[0x0440, 0x0100, 0x4C00]] := by decide +kernel

/-- Table 9.9-1: a torque of −393 as sent with nibble 5. -/
theorem test_setpointRecord : (recordOfSlot 5 (some (.torque (-393)))).take 4 = [0x51, 0x00, 0xFE, 0x77]
    ∧ xorBytes (recordOfSlot 5 (some (.torque (-393)))) = 0 := by decide +kernel

/-- R108: an engine found running after a reset is adopted without an attempt. -/
theorem test_adoption :
    let t := after (.exchangeCompletion (controllerRecord 1 2 60)) (exchanging genset .p1 .none)
    t.gsc.engine = .running ∧ t.gsc.starts = [] ∧ t.gsc.adoption = false ∧ t.gsc.runMet = true := by decide +kernel

/-- Table 2.4-1: node 3's entry for address 4 at 100 ms and at 240 ms. -/
theorem test_stale : ((after (.ageTimerStale 4) (withPeers axle [{ peer 4 (.axle 0 0 0 0 0) with
      ageTimer := ⟨true, 60⟩ }])).ptb.entries.map PeerEntry.freshness) = [.stale] := by decide +kernel
theorem test_lost : ((after (.ageTimerLost 4) (withPeers axle [{ peer 4 (.axle 0 0 0 0 0) with
      freshness := .stale, ageTimer := ⟨true, 200⟩ }])).ptb.entries.map PeerEntry.freshness) = [.lost] := by decide +kernel

/-- Table 2.4-1, at 530 ms: a STATE of an ACTIVE AXLE node updates its entry in its place. -/
theorem test_state : (after (.stateArrival 4 [0x5000, 200, 150, 500, 60, 0]) node3).ptb.entries = node3.ptb.entries := by
  decide +kernel

/-- Table 5.4-1, at clock 23 and at clock 49. -/
def cranking (failures : Nat) : State :=
  genset.setGsc { genset.gsc with engine := .cranking, crank := ⟨true, 3000⟩, failures := failures, starts := [20] }

theorem test_failedStart :
    let t := after .crankTimerExpiry (cranking 0)
    t.gsc.engine = .off ∧ t.gsc.failures = 1 ∧ t.gsc.dwell = 10 ∧ t.gsc.off = ⟨true, 0⟩ := by decide +kernel
theorem test_startFail :
    let t := after .crankTimerExpiry (cranking 2)
    t.gsc.engine = .faulted ∧ t.gsc.failures = 3 ∧ t.status .startFail = true ∧ t.nsq.op = .active := by decide +kernel

/-- Table 5.4-1, at clock 300: CLEAR in FAULTED. -/
def faultedGenset : State :=
  (withStatus genset .startFail).setGsc { genset.gsc with engine := .faulted, failures := 3, starts := [20, 33, 46] }

theorem test_clearFaulted :
    let t := after (.clear 15 2 []) (faultedGenset.setStu { faultedGenset.stu with fValue := true })
    t.gsc.engine = .off ∧ t.gsc.failures = 0 ∧ t.gsc.starts = [20, 33, 46] ∧ t.gsc.dwell = 20
      ∧ t.status .startFail = false := by decide +kernel

/-- Table 5.5-1, at 502.6 and at 580.2. -/
theorem test_warming :
    let s := holding0 (cranking 0) held2400
    let t := after (.exchangeCompletion (controllerRecord 1 2 8)) (exchanging (s.setGsc { s.gsc with adoption := false }) .p1 .none)
    t.gsc.engine = .warming ∧ t.gsc.ownPo = 45 ∧ t.gsc.ownPa = 0 := by decide +kernel
theorem test_running :
    let s := holding0 genset held2400
    let t := after (.exchangeCompletion (controllerRecord 1 2 50))
      (exchanging (s.setGsc { s.gsc with engine := .warming, pSet := 45, adoption := false }) .p1 .none)
    t.gsc.engine = .running ∧ t.gsc.ownPo = 150 ∧ t.gsc.ownPa = 40 ∧ t.gsc.pSet = 45 := by decide +kernel

/-- Table 7.9-1: the fifth failed exchange, and CLEAR at 40 ms and at 90 ms. -/
theorem test_stageLost :
    let s := node3.setStp { node3.stp with fail0 := 4 }
    let t := after (.exchangeCompletion (List.replicate 16 0)) (exchanging s .p0 (.volts 700))
    t.status .stageLost = true ∧ t.nsq.op = .withdrawn ∧ t.pins.ready = true ∧ t.pins.traction = false
      ∧ t.blu.own.pd = 0 ∧ t.blu.own.fb = 500 ∧ t.sli.state.urgency = 1 := by decide +kernel

def lostNode3 (fails : Nat) : State :=
  let s := inWithdrawn (node3.setStp { node3.stp with fail0 := fails })
  s.setStu { s.stu with set := statusPut 0 .stageLost true }

theorem test_clearStanding :
    let t := after (.clear 15 3 []) (lostNode3 5)
    t.status .stageLost = true ∧ t.nsq.op = .withdrawn := by decide +kernel
theorem test_clearReturns :
    let t := after (.clear 15 3 []) (lostNode3 0)
    t.status .stageLost = false ∧ t.nsq.op = .active ∧ t.pins.traction = true ∧ t.blu.own.pd = 250
      ∧ t.sli.state.condition = .queued ∧ t.sli.state.urgency = 1 := by decide +kernel

/-- Table 7.9-1, at 7 ms and at 8 ms: PLAUS_U carried, then gone. -/
theorem test_carried :
    let s := withStatus node3 .plausU
    let t := after .attemptStart (s.setSli { s.sli with state := ⟨.queued, 2, false, 0⟩ })
    t.status .plausU = false ∧ statusIn t.sli.state.carried .plausU = true ∧ t.wBit = true := by decide +kernel

/-- Table 8.7-2: an arbitration lost, and the STATE frame's completion. -/
def sendingState : State :=
  after .attemptStart (node3.setSli { node3.sli with state := ⟨.queued, 1, false, 0⟩ })

theorem test_arbitrationLost :
    let t := after .arbitrationLost sendingState
    t.sli.state.condition = .queued ∧ t.sli.state.urgency = 1 ∧ t.sli.failures = 0 := by decide +kernel
theorem test_attemptComplete :
    (after (.attemptComplete node3.pins.straps) sendingState).sli.state.condition = .empty := by decide +kernel

/-- Table 10.6-1: the timer flush, the failed second page, BUSY, and the pending flush. -/
def flushing (slot seq attempt : Nat) : State :=
  parked (node3.setMpt { node3.mpt with
    ringSlot := 5, ringSeq := 812, poll := ⟨true, 20⟩
    op := .flush ⟨⟨[6001750, 0, 0, 0], 0, 0, 0⟩, attempt, slot, seq, 2, []⟩
    pendingFlush := some [.wearReset 1 1] })

theorem test_flushStarts :
    (after .flushTimerExpiry (node3.setMpt { node3.mpt with ringSlot := 5, ringSeq := 812, flush := ⟨true, 300000⟩ })).mpt.op
      = .flush ⟨⟨[0, 0, 0, 0], 0, 0, 0⟩, 1, 6, 813, 1, []⟩ := by decide +kernel
theorem test_pageTimeout :
    let t := after (.pageTimeout node3.pins.straps) (flushing 6 813 1)
    t.mpt.op = .flush ⟨⟨[6001750, 0, 0, 0], 0, 0, 0⟩, 2, 7, 814, 1, []⟩ ∧ t.mpt.ringSlot = 5 ∧ t.mpt.ringSeq = 812
      ∧ t.status .memFault = false := by decide +kernel
theorem test_configReadBusy :
    ((after (.configRead 15 3 [10]) (flushing 7 814 2)).sli.replies.map ReplyPlace.result) = [.busy] := by decide +kernel
theorem test_pageStored :
    let t := after (.pageStored node3.pins.straps) (flushing 7 814 2)
    t.mpt.ringSlot = 7 ∧ t.mpt.ringSeq = 814
      ∧ t.mpt.op = .flush ⟨⟨[0, 0, 0, 0], 0, 0, 0⟩, 1, 0, 815, 1, [.wearReset 1 1]⟩ ∧ t.mpt.pendingFlush = none := by
  decide +kernel

/-- Table 11.4-1, at 30 s: the engine enters OFF and the flush is requested; at its end the node enters STANDBY. -/
def coolingGenset : State :=
  let s := genset.setGsc { genset.gsc with engine := .cooldown, cooldown := ⟨true, 30000⟩ }
  let s := s.setPtb { s.ptb with demand := ⟨true, 0, 0, 0, true, false, true, false⟩ }
  s.setNsq { s.nsq with holdMet := true }

theorem test_cooldownEnds :
    let t := after .cooldownTimerExpiry coolingGenset
    t.gsc.engine = .off ∧ t.waitsStandby = true ∧ t.nsq.op = .active := by decide +kernel
theorem test_standby :
    let t := after (.pageStored genset.pins.straps)
      (after (.pageStored genset.pins.straps) (after .cooldownTimerExpiry coolingGenset))
    t.nsq.op = .standby ∧ t.pins.ready = false ∧ t.pins.traction = false := by decide +kernel

/-- Table 6.6-1: RESTART keeps A1, BROWN_OUT and the load take the slot's. -/
def wornNode3 : State :=
  let s := node3.setMpt { node3.mpt with
    eeprom := Memory.writeAll [] (slotAddress 2) (slotBytes .axle 9 ⟨[6000000, 0, 0, 0], 400000, 0, 0⟩) }
  s.setWau { s.wau with items := setItem s.wau.items 1 ⟨6001750, 400000, .ok⟩, q := 60, armA4 := true }

theorem test_restart :
    let t := after (.replyLimitExpiry wornNode3.pins.straps)
      (wornNode3.setNsq { wornNode3.nsq with pendingReset := .restart, limit := ⟨true, 100⟩ })
    (itemAt t.wau.items 1).acc = 6001750 ∧ (itemAt t.wau.items 1).residue = 400000 ∧ t.wau.q = 60 ∧ t.wau.armA4 = false
      ∧ t.nsq.op = .sync := by decide +kernel
set_option maxRecDepth 20000 in
theorem test_brownOut :
    let t := after (.bootLoadComplete true 0xFF) (after (.brownOut wornNode3.pins.straps) wornNode3)
    (itemAt t.wau.items 1).acc = 6000000 ∧ (itemAt t.wau.items 1).residue = 400000 ∧ t.wau.armA4 = false
      ∧ t.mpt.ringSlot = 2 ∧ t.mpt.ringSeq = 9 ∧ t.nsq.op = .sync := by decide +kernel

/-! ### Hypotheses that are met

One theorem for each statement with hypotheses: states and operands that meet them all together, at the bounds of the
clauses. -/

theorem test_meets_IdleStepLetsAMillisecondPass :
    State.reset.pending = [] ∧ axle.pending = [] ∧ (withDemand axle 0 0 0).ptb.demandTimer = ⟨true, 0⟩
      ∧ (axle.setPtb { axle.ptb with demandTimer := ⟨true, 49⟩ }).ptb.demandTimer = ⟨true, 49⟩
      ∧ State.reset.ptb.demandTimer = ⟨false, 0⟩ := by decide +kernel

/-- The straps of AXLE 1 and GENSET 14 are valid; those with role code 0 or 4, or address 0 or 15, are not. -/
theorem test_meets_SupplyEventsSampleTheStraps :
    (strapCode 0b0001001 = 1 ∧ strapAddress 0b0001001 = 1) ∧ (strapCode 0b1110011 = 3 ∧ strapAddress 0b1110011 = 14)
      ∧ strapCode 0b0001000 = 0 ∧ strapCode 0b0001100 = 4 ∧ strapAddress 0b0000001 = 0 ∧ strapAddress 0b1111001 = 15
      ∧ State.reset.mpt.eeprom.wf = true := by decide +kernel
theorem test_meets_SupplyEventsSampleTheStraps_stored :
    ¬ storesTo (flushing 7 814 2) (.powerOn 9) 735 ∧ storesTo (flushing 7 814 2) (.powerOn 9) 736 := by
  show ¬ (pageAddress 7 2 ≤ 735 ∧ 735 < pageAddress 7 2 + 32) ∧ (pageAddress 7 2 ≤ 736 ∧ 736 < pageAddress 7 2 + 32)
  decide

/-- Three EEPROMs: blank, with an image that is accepted, with one valid slot. -/
def withImage : State := State.reset.setMpt { State.reset.mpt with
  eeprom := Memory.writeAll [] 0 ((image .axle).set 63 (0xA55A#16 ^^^ xorWords ((image .axle).take 63)) |>.flatMap bytesOfWord) }

def withSlot : State := State.reset.setMpt { State.reset.mpt with
  eeprom := Memory.writeAll [] (slotAddress 2) (slotBytes .axle 9 ⟨[6000000, 0, 0, 0], 400000, 0, 0⟩) }

theorem test_meets_BootLoadEntersSync :
    State.reset.nsq.op = .boot ∧ State.reset.mpt.op = .bootLoad ∧ State.reset.role = some .axle
      ∧ imageAccepted .axle (eepromImage State.reset.mpt.eeprom) = false
      ∧ newestSlot (validSlots State.reset.mpt.eeprom 0 0xFF .axle) = none ∧ State.reset.sli.state.condition = .empty := by
  decide +kernel
set_option maxRecDepth 20000 in
theorem test_meets_BootLoadEntersSync_image :
    withImage.nsq.op = .boot ∧ withImage.role = some .axle ∧ imageAccepted .axle (eepromImage withImage.mpt.eeprom) = true := by
  decide +kernel
set_option maxRecDepth 20000 in
theorem test_meets_BootLoadEntersSync_slot :
    newestSlot (validSlots withSlot.mpt.eeprom withSlot.mpt.torn 0xFF .axle) = some (2, 9) := by decide +kernel

theorem test_meets_DemandArrivalIsStored :
    axle.receives = true ∧ axle.serves = true ∧ axle.mpt.ringSeq < seqMax ∧ axle.role = some .axle
      ∧ pack.receives = true ∧ pack.serves = true ∧ pack.mpt.ringSeq < seqMax ∧ pack.role ≠ some .axle := by decide +kernel

theorem test_meets_OtherDemandIsIgnored :
    axle.receives = true ∧ axle.mpt.ringSeq < seqMax ∧ ¬ ((0 : Address) = 0 ∧ [(1 : Word), 2, 3].length = 4)
      ∧ ¬ ((3 : Address) = 0 ∧ (List.replicate 6 (0 : Word)).length = 4) ∧ (3 : Address) = axle.ownAddress
      ∧ (List.replicate 6 (0 : Word)).length ≤ 6 ∧ (0 : Address) ≠ axle.ownAddress := by decide +kernel

theorem test_meets_ReadersAreGivenSafeValues :
    (node3Braking.ptb.demand.present = true ∧ node3Braking.demandLost = false)
      ∧ ((withStatus node3Braking .demandLost).ptb.demand.present = true
          ∧ (withStatus node3Braking .demandLost).demandLost = true)
      ∧ axle.ptb.demand.present = false ∧ axle.receives = true ∧ axle.serves = true ∧ axle.mpt.ringSeq < seqMax := by
  decide +kernel

def demandAt50 (s : State) : State := s.setPtb { s.ptb with demandTimer := ⟨true, 50⟩ }

theorem test_meets_DemandLossIsRaised :
    (Settled (demandAt50 node3Braking) ∧ (demandAt50 node3Braking).serves = true
      ∧ (demandAt50 node3Braking).ptb.demandTimer = ⟨true, 50⟩ ∧ (demandAt50 node3Braking).role = some .axle)
    ∧ Settled (demandAt50 pack) ∧ (demandAt50 pack).serves = true ∧ (demandAt50 pack).ptb.demandTimer = ⟨true, 50⟩
    ∧ (demandAt50 pack).role ≠ some .axle := by
  unfold Settled; (repeat' apply And.intro) <;> decide +kernel

theorem test_meets_StandbyWakesAtADemand :
    (inStandby axle).nsq.op = .standby ∧ (inStandby axle).receives = true ∧ (0 : Word).getLsbD 2 = false
      ∧ (4 : Word).getLsbD 2 = true := by decide +kernel

theorem test_meets_SplitsSumToTheTotal :
    let ws : List (Address × Nat) := [(3, 250), (4, 200), (5, 0)]
    (ws.map Prod.fst).Nodup ∧ 0 < weightSum ws ∧ (3, 250) ∈ ws ∧ (4, 200) ∈ ws ∧ (5, 0) ∈ ws := by decide +kernel

/-- Table 1.3-1's edges: 120 and above, 40 and below, and between. -/
theorem test_meets_RegenTotalIsTheLeastOfItsBounds :
    fade 40 120 120 = 100 ∧ fade 40 120 40 = 0 ∧ fade 40 120 119 = 98 ∧ fade 40 120 41 = 1 := by decide +kernel

def fullTable : State :=
  withPeers axle ([1, 2, 4, 5, 6, 7, 8, 9, 10, 11, 12, 13].map fun a => peer a (.pack 0 0 0))

theorem test_meets_StateArrivalTakesAPeer :
    (Settled node3 ∧ node3.receives = true ∧ node3.serves = true ∧ stateFits [0x5000, 0, 0, 0, 0, 0] = true
      ∧ (4 : Address) ≠ node3.ownAddress ∧ (∃ e ∈ node3.ptb.entries, e.address = 4)
      ∧ (∀ e ∈ node3.ptb.entries, e.address ≠ 5) ∧ node3.ptb.entries.length < 12)
    ∧ (Settled fullTable ∧ fullTable.receives = true ∧ fullTable.serves = true ∧ stateFits [0x9000, 0, 0, 0, 0] = true
      ∧ (∀ e ∈ fullTable.ptb.entries, e.address ≠ 14) ∧ fullTable.ptb.entries.length = 12)
    ∧ stateFits [0xD180, 0, 0, 0] = true ∧ ((0xD180 : Word).extractLsb' 6 3).toNat = 6 := by
  unfold Settled; (repeat' apply And.intro) <;> decide +kernel

def aged (f : Freshness) (n : Nat) : State :=
  withPeers axle [{ peer 4 (.axle 0 0 0 0 0) with freshness := f, ageTimer := ⟨true, n⟩ }, peer 5 (.pack 0 0 0)]

theorem test_meets_AgeExpiriesMoveFreshness :
    (aged .fresh 60).serves = true ∧ (aged .stale 200).serves = true
      ∧ (aged .fresh 60).ptb.entries[0]? = some ⟨4, .axle 0 0 0 0 0, .known .active, .fresh, ⟨true, 60⟩⟩
      ∧ (aged .stale 200).ptb.entries[0]? = some ⟨4, .axle 0 0 0 0 0, .known .active, .stale, ⟨true, 200⟩⟩
      ∧ (aged .fresh 59).ptb.entries[0]? = some ⟨4, .axle 0 0 0 0 0, .known .active, .fresh, ⟨true, 59⟩⟩
      ∧ (aged .stale 199).ptb.entries[0]? = some ⟨4, .axle 0 0 0 0 0, .known .active, .stale, ⟨true, 199⟩⟩
      ∧ (aged .fresh 60).ptb.entries[1]? = some (peer 5 (.pack 0 0 0)) := by decide +kernel

def noisy (n : Nat) : State := axle.setSli { axle.sli with rxErrors := n, window := ⟨true, 1000⟩ }

theorem test_meets_BadFramesAreCounted :
    Settled (noisy 19) ∧ (noisy 19).receives = true ∧ (noisy 19).sli.rxErrors = 19 ∧ (noisy 18).sli.rxErrors ≠ 19
      ∧ (noisy 19).sli.window.running = true ∧ 1000 ≤ (noisy 19).sli.window.elapsed
      ∧ Settled State.reset ∧ State.reset.receives = false := by
  unfold Settled; (repeat' apply And.intro) <;> decide +kernel

theorem test_meets_OwnAddressLatchesClash :
    (Settled axle ∧ axle.receives = true ∧ axle.mpt.ringSeq < seqMax ∧ axle.nsq.op = .active ∧ (3 : Address) = axle.ownAddress
      ∧ stateFits [0x5000, 0, 0, 0, 0, 0] = true ∧ (4 : Address) ≠ axle.ownAddress)
    ∧ Settled (inSync axle) ∧ (inSync axle).receives = true ∧ (inSync axle).nsq.op ≠ .active := by
  unfold Settled; (repeat' apply And.intro) <;> decide +kernel

/-- The node with two places taken, and with all three. -/
def withReplies (s : State) (n : Nat) : State :=
  s.setSli { s.sli with replies := ([1, 2, 3].take n).map fun k => ⟨k, .queued, 2, .done, []⟩ }

theorem test_meets_RequestsAreJudgedInOrder_unheard :
    Settled axle ∧ axle.receives = true ∧ (15 : Address) ≠ axle.ownAddress
      ∧ (inStandby axle).serves = false ∧ (14 : Address) ≠ 15 ∧ (4 : Address) ≠ axle.ownAddress
      ∧ serviceOf (.restart 15 0 []) = some (15, 0, 12, []) ∧ Settled (withReplies axle 3)
      ∧ freePlace (withReplies axle 3).sli.replies = none
      ∧ serviceOf (.unsupportedRequest 15 3 14 []) = some (15, 3, 14, []) := by
  unfold Settled; (repeat' apply And.intro) <;> decide +kernel

/-- Requests that are refused: an unknown code, one that needs PARKED, items 0 and 5 of an AXLE table, part 2, words 64
and 63, and a node that is busy. -/
theorem test_meets_RequestsAreJudgedInOrder_refused :
    Settled axle ∧ Reaches axle 3 14 1 ∧ Reaches axle 3 0 1 ∧ Reaches axle 3 9 1 ∧ axle.given.parked = false
      ∧ Settled (parked axle) ∧ Reaches (parked axle) 3 9 1 ∧ (parked axle).given.parked = true
      ∧ ((5 : Word).extractLsb' 0 4).toNat = 5 ∧ (parked axle).wau.items.length = 4
      ∧ Reaches axle 3 8 1 ∧ ((0x0201 : Word).extractLsb' 8 8).toNat = 2 ∧ Reaches axle 3 10 1 ∧ (64 : Word).toNat = 64
      ∧ Reaches (parked axle) 3 11 1 ∧ (63 : Word).toNat = 63 := by
  unfold Settled Reaches; (repeat' apply And.intro) <;> decide +kernel
theorem test_meets_RequestsAreJudgedInOrder_busy :
    Settled (flushing 7 814 2) ∧ Reaches (flushing 7 814 2) 3 10 1 ∧ (flushing 7 814 2).mpt.op ≠ .none
      ∧ Reaches (axle.setNsq { axle.nsq with pendingReset := .reboot }) 3 4 1
      ∧ Settled (axle.setNsq { axle.nsq with pendingReset := .reboot })
      ∧ Reaches (after .cooldownTimerExpiry coolingGenset) 2 12 1
      ∧ Settled (after .cooldownTimerExpiry coolingGenset)
      ∧ (after .cooldownTimerExpiry coolingGenset).waitsStandby = true
      ∧ (after .cooldownTimerExpiry coolingGenset).given.parked = true := by
  unfold Settled Reaches; (repeat' apply And.intro) <;> decide +kernel

theorem test_meets_IdentifyAndReadWearAnswerAtOnce :
    Settled axle ∧ axle.role = some .axle ∧ Reaches axle 0 1 1 ∧ Reaches axle 3 8 1 ∧ axle.nsq.pendingReset = .none
      ∧ (0x0104 : Word) = BitVec.ofNat 16 (1 * 256 + 4) ∧ axle.wau.items[4 - 1]? = some ⟨0, 0, .ok⟩
      ∧ (0x0001 : Word) = BitVec.ofNat 16 (0 * 256 + 1) ∧ axle.wau.items[1 - 1]? = some ⟨0, 0, .ok⟩ := by
  unfold Settled Reaches; (repeat' apply And.intro) <;> decide +kernel

theorem test_meets_ReadStatusShowsTheNode :
    (Settled axle ∧ axle.role = some .axle ∧ Reaches axle 3 2 1)
      ∧ (Settled pack ∧ pack.role = some .pack ∧ Reaches pack 1 2 1)
      ∧ (Settled genset ∧ genset.role = some .genset ∧ Reaches genset 2 2 1)
      ∧ (axle.setBlu { axle.blu with slip := .recover .traction }).blu.slip.kind = some .traction
      ∧ (axle.setBlu { axle.blu with slip := .slip .braking }).blu.slip.kind = some .braking := by
  unfold Settled Reaches; (repeat' apply And.intro) <;> decide +kernel

theorem test_meets_ClearKeepsStandingConditions :
    (Settled (lostNode3 5) ∧ Reaches (lostNode3 5) 3 3 1 ∧ (lostNode3 5).nsq.pendingReset = .none
      ∧ (lostNode3 5).mpt.ringSeq < seqMax ∧ (lostNode3 5).nsq.op ≠ .sync ∧ (lostNode3 5).gsc.engine ≠ .faulted)
    ∧ (Settled (inSync axle) ∧ Reaches (inSync axle) 0 3 1)
    ∧ (Settled (faultedGenset.setStu { faultedGenset.stu with fValue := true }) ∧ Reaches faultedGenset 2 3 1
      ∧ faultedGenset.role = some .genset ∧ faultedGenset.gsc.engine = .faulted) := by
  unfold Settled Reaches; (repeat' apply And.intro) <;> decide +kernel

theorem test_meets_ForceFlagsDriveTheirStatuses :
    Settled axle ∧ axle.nsq.pendingReset = .none ∧ Reaches axle 3 4 1 ∧ Reaches axle 3 5 1 ∧ Reaches axle 3 6 1
      ∧ Reaches axle 3 7 1 := by
  unfold Settled Reaches; (repeat' apply And.intro) <;> decide +kernel

theorem test_meets_WearResetEmptiesItsItem :
    Settled (parked axle) ∧ Reaches (parked axle) 3 9 1 ∧ (parked axle).nsq.pendingReset = .none
      ∧ (parked axle).given.parked = true ∧ (parked axle).mpt.ringSeq < seqMax
      ∧ ((1 : Word).extractLsb' 0 4).toNat = 1 ∧ ((4 : Word).extractLsb' 0 4).toNat = 4
      ∧ (parked axle).wau.items.length = 4 ∧ (parked axle).mpt.op = .none ∧ (parked axle).role = some .axle := by
  unfold Settled Reaches; (repeat' apply And.intro) <;> decide +kernel
theorem test_meets_WearResetEmptiesItsItem_others :
    (Settled (flushing 7 814 2) ∧ Reaches (flushing 7 814 2) 3 9 1 ∧ (flushing 7 814 2).given.parked = true
      ∧ (flushing 7 814 2).mpt.op ≠ .none)
    ∧ (Settled (parked genset) ∧ Reaches (parked genset) 2 9 1 ∧ (parked genset).role = some .genset
      ∧ 2 ≤ (parked genset).wau.items.length)
    ∧ (Settled (parked pack) ∧ Reaches (parked pack) 1 9 1 ∧ (parked pack).role = some .pack
      ∧ 1 ≤ (parked pack).wau.items.length) := by
  unfold Settled Reaches; (repeat' apply And.intro) <;> decide +kernel

theorem test_meets_LongRequestsAreStarted :
    Settled (parked axle) ∧ (parked axle).nsq.pendingReset = .none ∧ Reaches (parked axle) 3 10 1
      ∧ Reaches (parked axle) 3 11 1 ∧ Reaches (parked axle) 3 12 1 ∧ Reaches (parked axle) 3 13 1
      ∧ (parked axle).mpt.op = .none ∧ (parked axle).given.parked = true ∧ (parked axle).waitsStandby = false
      ∧ (63 : Word).toNat ≤ 63 ∧ (62 : Word).toNat ≤ 62 := by
  unfold Settled Reaches; (repeat' apply And.intro) <;> decide +kernel

def writing (n : Nat) : State :=
  axle.setMpt { axle.mpt with op := .configWrite (some 1) n 0x00FF 0x1234, poll := ⟨true, 20⟩ }

theorem test_meets_EepromRequestsEndWithTheirWords :
    Settled (axle.setMpt { axle.mpt with op := .configRead (some 1) 63 }) ∧ axle.mpt.pendingFlush = none
      ∧ (Settled (writing 62) ∧ (writing 62).mpt.op = .configWrite (some 1) 62 0x00FF 0x1234
        ∧ (writing 62).mpt.eeprom.wf = true ∧ (writing 62).mpt.pendingFlush = none
        ∧ (writing 62).mpt.poll = ⟨true, 20⟩)
      ∧ (writing 0).mpt.op = .configWrite (some 1) 0 0x00FF 0x1234 ∧ (writing 0).mpt.poll = ⟨true, 20⟩ := by
  unfold Settled; (repeat' apply And.intro) <;> decide +kernel

/-- A CONFIG_WRITE whose polling stands one millisecond below its limit. -/
theorem test_meets_EepromRequestsEndWithTheirWords_early :
    let s := (writing 62).setMpt { (writing 62).mpt with poll := ⟨true, 19⟩ }
    Settled s ∧ s.mpt.op = .configWrite (some 1) 62 0x00FF 0x1234 ∧ s.mpt.poll.elapsed < 20
      ∧ s.mpt.pendingFlush = none ∧ after (.configWriteComplete .wordFailed s.pins.straps) s = s := by
  unfold Settled; (repeat' apply And.intro) <;> decide +kernel

def resetPending (r : PendingReset) (code : BitVec 8) : State :=
  let s := axle.setNsq { axle.nsq with pendingReset := r, limit := ⟨true, 100⟩ }
  s.setSli { s.sli with replies := [⟨1, .inFlight, code, .done, []⟩] }

theorem test_meets_ResetsProceedAfterTheirReply :
    (Settled (resetPending .restart 12) ∧ (resetPending .restart 12).nsq.pendingReset = .restart
      ∧ replyInFlight (resetPending .restart 12).sli.replies = some ⟨1, .inFlight, 12, .done, []⟩
      ∧ (resetPending .restart 12).nsq.limit.running = true ∧ 100 ≤ (resetPending .restart 12).nsq.limit.elapsed)
    ∧ Settled (resetPending .reboot 13) ∧ (resetPending .reboot 13).nsq.pendingReset = .reboot
    ∧ replyInFlight (resetPending .reboot 13).sli.replies = some ⟨1, .inFlight, 13, .done, []⟩
    ∧ (resetPending .reboot 13).mpt.ringSeq < seqMax ∧ (resetPending .reboot 13).mpt.op = .none := by
  unfold Settled; (repeat' apply And.intro) <;> decide +kernel

def queuedState (s : State) : State := s.setSli { s.sli with state := ⟨.queued, 2, false, 0⟩ }

theorem test_meets_TheHeadIsAttempted :
    (Settled (queuedState axle) ∧ (queuedState axle).sli.line = .idle ∧ (queuedState axle).serves = true
      ∧ (queuedState axle).sli.silent = false ∧ (queuedState axle).attempting = false
      ∧ (queuedState axle).role = some .axle ∧ (queuedState axle).sli.state.condition = .queued)
    ∧ (Settled (queuedState pack) ∧ (queuedState pack).role = some .pack)
    ∧ (Settled (queuedState genset) ∧ (queuedState genset).role = some .genset)
    ∧ (Settled (withReplies axle 2) ∧ (withReplies axle 2).attempting = false
      ∧ (withReplies axle 2).sli.state.condition ≠ .queued
      ∧ (withReplies axle 2).sli.replies.find? (fun x => x.condition == .queued) = some ⟨1, .queued, 2, .done, []⟩)
    ∧ Settled axle ∧ axle.sli.state.condition ≠ .queued ∧ ∀ r ∈ axle.sli.replies, r.condition ≠ .queued := by
  unfold Settled; (repeat' apply And.intro) <;> decide +kernel

theorem test_meets_UnfinishedAttemptsAreQueuedAgain :
    Settled sendingState ∧ sendingState.attempting = true ∧ sendingState.sli.state.condition = .inFlight
      ∧ sendingState.sli.failures < 7 ∧ Settled (sendingState.setSli { sendingState.sli with failures := 7 })
      ∧ (sendingState.setSli { sendingState.sli with failures := 7 }).attempting = true
      ∧ 7 ≤ (sendingState.setSli { sendingState.sli with failures := 7 }).sli.failures := by
  unfold Settled; (repeat' apply And.intro) <;> decide +kernel

theorem test_meets_CompletedAttemptsReleaseTheirFrame :
    Settled sendingState ∧ sendingState.attempting = true
      ∧ ∀ r, replyInFlight sendingState.sli.replies = some r → r.result ≠ .done ∨ sendingState.nsq.pendingReset = .none
        ∨ sendingState.nsq.pendingReset = .rebootFlush ∨ (r.code ≠ 12 ∧ r.code ≠ 13) :=
  ⟨by
  unfold Settled; (repeat' apply And.intro) <;> decide +kernel, by decide +kernel, fun _ _ => Or.inr (Or.inl rfl)⟩

theorem test_meets_ExpiriesMoveTheirOwnBlock :
    let s := (axle.setSli { axle.sli with
      period := ⟨true, 20⟩, silence := ⟨true, 200⟩, silent := true, line := .waitIdle 8 }).setStp
      { axle.stp with settle := .running 100, release := ⟨true, 10⟩ }
    let g := genset.setGsc { genset.gsc with run := ⟨true, 60000⟩ }
    Settled s ∧ s.sli.period = ⟨true, 20⟩ ∧ s.sli.silence = ⟨true, 200⟩ ∧ s.stp.settle = .running 100
      ∧ s.stp.release = ⟨true, 10⟩ ∧ s.serves = true ∧ s.sli.line = .waitIdle 8
      ∧ Settled g ∧ g.serves = true ∧ g.role = some .genset ∧ g.gsc.run = ⟨true, 60000⟩ := by
  unfold Settled; (repeat' apply And.intro) <;> decide +kernel

def ready (s : State) (p : Partner) (x : Option Setpoint) : State :=
  s.setStp { s.stp with exchange := ⟨true, 1⟩, turn := p, slot0 := x, slot1 := x }

theorem test_meets_ExchangesServeThePartnersInTurn :
    ((ready axle .p0 none).serves = true ∧ (ready axle .p0 none).pins.partnerReset = false
      ∧ (ready axle .p0 none).stp.inFlight = none ∧ (ready axle .p0 none).stp.exchange = ⟨true, 1⟩
      ∧ (ready axle .p0 none).stp.turn = .p0)
    ∧ (ready axle .p1 (some (.pressure 35))).serves = true ∧ (ready axle .p1 (some (.pressure 35))).stp.turn = .p1
    ∧ (ready pack .p0 (some (.converter 700 363 135))).serves = true
    ∧ (ready genset .p0 (some (.generator 45))).serves = true ∧ (ready genset .p1 (some (.engine .run))).serves = true := by
  decide +kernel
/-- The own sample's edges: 2.5 V, 2.6 V and above (R163). -/
theorem test_meets_ExchangesServeThePartnersInTurn_sense :
    readingOfSense (.millivolts 2500) = .volts 1000 ∧ readingOfSense (.millivolts 2600) = .volts 1000
      ∧ readingOfSense (.millivolts 2601) = .outOfRange ∧ readingOfSense (.millivolts 1750) = .volts 700 := by decide +kernel

/-- A bad check, a clear ready bit and a repeated nibble; the fifth failure of each partner, and one that settles. -/
theorem test_meets_FailedRecordsAreDiscarded :
    let s := exchanging (node3.setStp { node3.stp with fail0 := 4, fail1 := 4 }) .p0 .outOfRange
    FaultLaw s ∧ s.serves = true ∧ s.role = some .axle ∧ s.stp.inFlight = some ⟨.p0, [], .outOfRange⟩
      ∧ xorBytes (1 :: List.replicate 15 (0 : Byte)) ≠ 0 ∧ (byteAt (List.replicate 16 (0 : Byte)) 0).getLsbD 0 = false
      ∧ (∃ h, s.stp.held0 = some h ∧ h.nibble = (byteAt (inverterRecord 0 700 2400 0 60) 0).extractLsb' 4 4)
      ∧ (∃ h, s.stp.held1 = some h ∧ h.nibble = (byteAt (modulatorRecord 0 35 360) 0).extractLsb' 4 4)
      ∧ s.stp.fail0 = 4 ∧ s.stp.fail1 = 4 ∧ (∀ e, s.stp.settle ≠ .running e)
      ∧ (s.setStp { s.stp with settle := .running 99 }).stp.settle = .running 99 := by
  refine ⟨?_, by decide +kernel, by decide +kernel, rfl, by decide +kernel, by decide +kernel, ⟨held2400, rfl, by decide +kernel⟩,
    ⟨⟨0, .modulator 0 360 360 false⟩, rfl, by decide +kernel⟩, rfl, rfl, ?_, rfl⟩
  · unfold FaultLaw; decide +kernel
  · intro e h; cases h

/-- A first speed, a step of 150, a step of 151 with 0 and with 4 rejections before it, and a link voltage 25 V and 26 V
off the own reading. -/
theorem test_meets_GoodPartner0RecordsAreHeld :
    let s := exchanging node3 .p0 (.volts 700)
    let r := inverterRecord 1 726 2551 0 60
    s.serves = true ∧ s.role = some .axle ∧ s.stp.inFlight = some ⟨.p0, [], .volts 700⟩ ∧ xorBytes r = 0
      ∧ (byteAt r 0).getLsbD 0 = true ∧ held2400.nibble ≠ (byteAt r 0).extractLsb' 4 4 ∧ s.stp.held0 = some held2400
      ∧ s.stp.heldSpeed = some 2400 ∧ 150 < (((pairAt r 5).toInt) - 2400).natAbs ∧ s.stp.rejections < 4
      ∧ (((pairAt (inverterRecord 1 725 2550 0 60) 5).toInt) - 2400).natAbs = 150
      ∧ (pairAt r 1).toNat = 700 + 25 + 1 ∧ (pairAt (inverterRecord 1 725 2550 0 60) 1).toNat = 700 + 25
      ∧ (exchanging axle .p0 .outOfRange).stp.heldSpeed = none
      ∧ 4 ≤ (s.setStp { s.stp with rejections := 4 }).stp.rejections
      ∧ (exchanging pack .p0 .none).serves = true ∧ pack.role = some .pack := by
  (repeat' apply And.intro) <;> decide +kernel

theorem test_meets_FinalExchangesEndInPartnerReset :
    let s := inStandby axle
    let a := exchanging (s.setStp { s.stp with final := .awaiting }) .p1 .none
    a.nsq.op = .standby ∧ a.role = some .axle ∧ a.stp.final = .awaiting ∧ a.stp.inFlight ≠ none
      ∧ (s.setStp { s.stp with final := .partner0 }).stp.final = .partner0
      ∧ (s.setStp { s.stp with final := .partner1 }).stp.final = .partner1 := by decide +kernel

theorem test_meets_AxleCapabilitiesFollowTheirInputs :
    (exchanging node3 .p0 (.volts 700)).serves = true ∧ (exchanging node3 .p0 (.volts 700)).role = some .axle
      ∧ (exchanging node3 .p0 (.volts 700)).stp.inFlight = some ⟨.p0, [], .volts 700⟩
      ∧ (exchanging (inSync node3) .p1 .none).serves = true
      ∧ (exchanging (inSync node3) .p1 .none).stp.inFlight = some ⟨.p1, [], .none⟩ := by decide +kernel
/-- The slip states in ACTIVE, after a completion that changes none of them. -/
theorem test_meets_AxleCapabilitiesFollowTheirInputs_slip :
    let t := fun (x : SlipState) => after (.exchangeCompletion (inverterRecord 1 700 2400 0 60))
      (exchanging (node3.setBlu { node3.blu with slip := x, limitL := 10 }) .p0 (.volts 700))
    ((t .grip).blu.slip = .grip ∧ (t .grip).nsq.op = .active)
      ∧ (t (.slip .braking)).blu.slip = .slip .braking ∧ (t (.slip .traction)).blu.slip = .slip .traction
      ∧ (t (.recover .braking)).blu.slip = .recover .braking ∧ (t (.recover .traction)).blu.slip = .recover .traction := by
  decide +kernel

/-- The droop thresholds' edges (540, 600, 750 and 800 V), the ramp's modes and their two cases, drive and regen. -/
theorem test_meets_AxlePartner0CompletionFormsTorque :
    let s := exchanging node3Braking .p0 (.volts 700)
    s.serves = true ∧ s.role = some .axle ∧ s.stp.inFlight = some ⟨.p0, [], .volts 700⟩
      ∧ (uDm s.mpt.copy, uDk s.mpt.copy, uRk s.mpt.copy, uRm s.mpt.copy) = (540, 600, 750, 800)
      ∧ s.blu.ramp = .none ∧ s.blu.slip.slipping = false ∧ s.demandLost = false
      ∧ (s.setBlu { s.blu with ramp := .up, limitM := 0 }).she.d ≤ 0
      ∧ (s.setBlu { s.blu with ramp := .up, limitM := 0 }).blu.ramp = .up
      ∧ s.wau.items = [⟨0, 0, .ok⟩, ⟨0, 0, .ok⟩, ⟨0, 0, .ok⟩, ⟨0, 0, .ok⟩] ∧ 0 + 1 < accMax := by
  (repeat' apply And.intro) <;> decide +kernel

/-- The slip tests' edges at v = 360 are 315 and 316, 423 and 424, the recovery's 336 and 335, A4's 500, 600 and 601. -/
theorem test_meets_AxlePartner1CompletionFormsPressure :
    let s := exchanging node3Braking .p1 .none
    let t := after (.exchangeCompletion (modulatorRecord 1 35 360)) s
    s.serves = true ∧ s.role = some .axle ∧ s.stp.inFlight = some ⟨.p1, [], .none⟩
      ∧ t.stp.held1 = some ⟨1, .modulator 35 360 360 false⟩ ∧ s.given.d < 0 ∧ 50 ≤ s.given.v
      ∧ brakingSlips (-250) 360 315 = true ∧ brakingSlips (-250) 360 316 = false
      ∧ brakingSlips (-250) 50 43 = true ∧ brakingSlips (-250) 49 42 = false
      ∧ tractionSlips 250 360 424 = true ∧ tractionSlips 250 360 423 = false
      ∧ recovers 360 336 = true ∧ recovers 360 335 = false ∧ s.demandLost = false ∧ 1 ≤ brakeGain s.mpt.copy
      ∧ s.wau.items = [⟨0, 0, .ok⟩, ⟨0, 0, .ok⟩, ⟨0, 0, .ok⟩, ⟨0, 0, .ok⟩] ∧ 1 ≤ dueOf s.mpt.copy 1 := by
  (repeat' apply And.intro) <;> decide +kernel

theorem test_meets_EffectiveBrakingIsTheBrakingShare :
    let s := exchanging node3Braking .p0 (.volts 770)
    let t := after (.exchangeCompletion (inverterRecord 1 770 2400 0 60)) s
    s.serves = true ∧ s.role = some .axle ∧ s.stp.inFlight = some ⟨.p0, [], .volts 770⟩ ∧ FactorLaw s
      ∧ t.status .shortBrake = false ∧ t.status .demandLost = false ∧ t.she.r + t.she.f = 143 := by
  unfold FactorLaw; (repeat' apply And.intro) <;> decide +kernel

/-- SOC 949 and 950, and 850; −11, −10, −1 and 0 °C; weights at 9, 10, 35 and 36 °C (Tables 4.8-1 and 6.2-1). -/
theorem test_meets_PackCompletionsFormTheLimits :
    let s := exchanging pack1 .p1 .none
    let t := after (.exchangeCompletion (monitorRecord 1 650 900 5 300 400 (-1350) 0)) s
    s.serves = true ∧ s.role = some .pack ∧ s.stp.inFlight = some ⟨.p1, [], .none⟩
      ∧ t.stp.held1 = some ⟨1, .monitor 650 900 5 300 400 (-1350) false⟩ ∧ t.nsq.op = .active
      ∧ (socMax s.mpt.copy, socTaper s.mpt.copy) = (950, 850)
      ∧ (coldAcceptance (-11) 97, coldAcceptance (-10) 97, coldAcceptance (-1) 97, coldAcceptance 0 97) = (0, 48, 48, 97)
      ∧ (chargeWeight 9, chargeWeight 10, chargeWeight 35, chargeWeight 36) = (3, 2, 2, 4)
      ∧ s.wau.items = [⟨0, 0, .ok⟩, ⟨0, 0, .ok⟩, ⟨0, 0, .ok⟩] ∧ 1 ≤ dueOf s.mpt.copy 1
      ∧ (exchanging pack1 .p0 (.volts 700)).stp.inFlight = some ⟨.p0, [], .volts 700⟩ := by
  (repeat' apply And.intro) <;> decide +kernel
theorem test_meets_PackCompletionsFormTheLimits_none :
    (after (.exchangeCompletion (List.replicate 16 0)) (exchanging pack1 .p1 .none)).stp.held1 = none := by decide +kernel

/-- The engine states with a report that runs and one that does not, coolant at 50 and at 49, and the adoption. -/
def engineAt (e : EngineState) (adoption : Bool) : State :=
  exchanging (genset.setGsc { genset.gsc with engine := e, adoption := adoption }) .p1 .none

theorem test_meets_GensetCompletionsFollowTheEngine :
    let s := engineAt .warming false
    s.serves = true ∧ s.role = some .genset ∧ s.stp.inFlight = some ⟨.p1, [], .none⟩ ∧ Settled s ∧ FaultLaw s
      ∧ s.mpt.ringSeq < seqMax ∧ s.given.shutdown = false
      ∧ recordFails (s.stp.held1.map Partner1.nibble) (controllerRecord 1 2 50) = false
      ∧ byteAt (controllerRecord 1 2 50) 1 = 2 ∧ (byteAt (controllerRecord 1 2 50) 5).toInt = 50
      ∧ byteAt (controllerRecord 1 1 49) 1 ≠ 2 ∧ (byteAt (controllerRecord 1 1 49) 5).toInt = 49
      ∧ (engineAt .off true).gsc.adoption = true ∧ (engineAt .off true).nsq.op ≠ .withdrawn
      ∧ Settled (inWithdrawn (engineAt .off true)) ∧ (inWithdrawn (engineAt .off true)).nsq.op = .withdrawn
      ∧ (exchanging genset .p0 .none).stp.inFlight = some ⟨.p0, [], .none⟩ := by
  unfold Settled FaultLaw; (repeat' apply And.intro) <;> decide +kernel

theorem test_meets_RoleTimersMoveTheirLimits :
    let s := node3.setBlu { node3.blu with rampTimer := ⟨true, 10⟩, slip := .recover .braking, limitL := 178, ramp := .down }
    let h := node3.setBlu { node3.blu with slip := .slip .traction, slipHold := ⟨true, 300⟩ }
    let p := pack.setWau { pack.wau with minute := ⟨true, 60000⟩, hot := true }
    (s.serves = true ∧ s.role = some .axle ∧ s.blu.rampTimer = ⟨true, 10⟩ ∧ s.blu.limitL + 1 < prU s.mpt.copy s.stp.held0)
      ∧ prU s.mpt.copy s.stp.held0 ≤ 179 + 1
      ∧ (h.serves = true ∧ h.role = some .axle ∧ h.blu.slip = .slip .traction ∧ h.blu.slipHold = ⟨true, 300⟩)
      ∧ (p.serves = true ∧ p.role = some .pack ∧ Settled p ∧ p.wau.minute = ⟨true, 60000⟩
        ∧ p.wau.items = [⟨0, 0, .ok⟩, ⟨0, 0, .ok⟩, ⟨0, 0, .ok⟩]) := by
  unfold Settled; (repeat' apply And.intro) <;> decide +kernel

theorem test_meets_TicksTakeTheirSamples :
    Settled genset5 ∧ genset5.serves = true ∧ genset5.role = some .genset ∧ genset5.gsc.tick = ⟨true, 1000⟩
      ∧ genset5.gsc.clock < clockMax ∧ genset5.mpt.ringSeq < seqMax
      ∧ genset5.wau.items = [⟨0, 0, .ok⟩, ⟨0, 0, .ok⟩, ⟨0, 0, .ok⟩] ∧ genset5.wau.runSeconds < 59
      ∧ 59 ≤ (genset5.setWau { genset5.wau with runSeconds := 59 }).wau.runSeconds
      ∧ 16 ≤ (genset5.setGsc { genset5.gsc with netLoad := List.replicate 16 0 }).gsc.netLoad.length
      ∧ (∃ e ∈ genset5.ptb.entries, e.live = true ∧ e.part = .pack 250 120 500)
      ∧ (after .tick (genset5.setGsc { genset5.gsc with engine := .running })).gsc.engine = .running := by
  unfold Settled; (repeat' apply And.intro) <;> decide +kernel

theorem test_meets_AttemptsNeedEveryStartCondition :
    Settled genset5 ∧ genset5.serves = true ∧ genset5.role = some .genset ∧ genset5.gsc.tick = ⟨true, 1000⟩
      ∧ genset5.gsc.clock < clockMax ∧ genset5.gsc.engine = .off ∧ (genset5.ptb.entries.map PeerEntry.address).Nodup
      ∧ genset5.gsc.off.elapsed = genset5.gsc.dwell * 1000
      ∧ (after .tick (genset5.setGsc { genset5.gsc with off := ⟨true, 19999⟩ })).gsc.engine = .off
      ∧ (after .tick (genset5.setGsc { genset5.gsc with starts := List.replicate 6 0 })).gsc.engine = .off := by
  unfold Settled; (repeat' apply And.intro) <;> decide +kernel

theorem test_meets_EngineTimersMoveTheEngine :
    let w := genset.setGsc { genset.gsc with engine := .warming, warm := ⟨true, 120000⟩ }
    (Settled (cranking 1) ∧ (cranking 1).serves = true ∧ (cranking 1).role = some .genset ∧ (cranking 1).mpt.ringSeq < seqMax
      ∧ (cranking 1).gsc.engine = .cranking ∧ (cranking 1).gsc.crank = ⟨true, 3000⟩ ∧ (cranking 1).gsc.failures < 2)
    ∧ 2 ≤ (cranking 2).gsc.failures ∧ (Settled w ∧ w.gsc.engine = .warming ∧ w.gsc.warm = ⟨true, 120000⟩)
    ∧ Settled coolingGenset ∧ coolingGenset.gsc.engine = .cooldown ∧ coolingGenset.gsc.cooldown = ⟨true, 30000⟩ := by
  unfold Settled; (repeat' apply And.intro) <;> decide +kernel

theorem test_meets_ChecksLatchAndRecord :
    let s := (axle.setMpt { axle.mpt with recheck := ⟨true, 100⟩ }).setNsq { axle.nsq with strapCheck := ⟨true, 100⟩ }
    Settled s ∧ s.serves = true ∧ s.mpt.recheck = ⟨true, 100⟩ ∧ s.mpt.ringSeq < seqMax ∧ s.nsq.strapCheck = ⟨true, 100⟩
      ∧ s.nsq.sample ≠ 0 ∧ Settled (inStandby s) ∧ (inStandby s).nsq.op = .standby
      ∧ (inStandby s).mpt.recheck = ⟨true, 100⟩ := by
  unfold Settled; (repeat' apply And.intro) <;> decide +kernel

def flushJob (page attempt : Nat) (parties : List Party) : FlushJob :=
  ⟨⟨[0, 0, 0, 0], 0, 0, 0⟩, attempt, attempt - 1, attempt, page, parties⟩

def flushingPage (page attempt : Nat) (parties : List Party) : State :=
  axle.setMpt { axle.mpt with op := .flush (flushJob page attempt parties), poll := ⟨true, 20⟩ }

theorem test_meets_FlushesWriteTheNextSlot :
    let s := axle.setMpt { axle.mpt with flush := ⟨true, 300000⟩ }
    (Settled s ∧ s.nsq.op = .active ∧ s.mpt.flush = ⟨true, 300000⟩ ∧ s.mpt.ringSeq < seqMax ∧ s.mpt.op = .none)
    ∧ (Settled (flushingPage 1 1 []) ∧ (flushingPage 1 1 []).mpt.op = .flush (flushJob 1 1 [])
      ∧ (flushingPage 1 1 []).role = some .axle ∧ (flushingPage 1 1 []).mpt.eeprom.wf = true ∧ (flushJob 1 1 []).page = 1)
    ∧ (Settled (flushingPage 2 1 []) ∧ (flushingPage 2 1 []).mpt.op = .flush (flushJob 2 1 [])
      ∧ (flushJob 2 1 []).page = 2 ∧ (flushingPage 2 1 []).mpt.pendingFlush = none) := by
  unfold Settled; (repeat' apply And.intro) <;> decide +kernel

theorem test_meets_FailedPagesAreRetriedOnce :
    (Settled (flushingPage 2 1 []) ∧ (flushingPage 2 1 []).mpt.poll = ⟨true, 20⟩
      ∧ (flushingPage 2 1 []).mpt.eeprom.wf = true ∧ (flushJob 2 1 []).attempt = 1
      ∧ (flushingPage 2 1 []).mpt.ringSeq + 2 ≤ seqMax)
    ∧ (Settled (flushingPage 1 2 [.wearReset 1 4]) ∧ (flushJob 1 2 [.wearReset 1 4]).attempt = 2
      ∧ (flushJob 1 2 [.wearReset 1 4]).parties = [.wearReset 1 4]
      ∧ (flushingPage 1 2 [.wearReset 1 4]).mpt.pendingFlush = none)
    ∧ seqMax < (seqMax - 1) + 2 := by
  unfold Settled; (repeat' apply And.intro) <;> decide +kernel

theorem test_meets_SyncIsLeftOnADemand :
    let s := inSync axle
    let r := s.setNsq { s.nsq with sync := .running 100 }
    let x := s.setNsq { s.nsq with sync := .expired }
    (r.nsq.op = .sync ∧ r.mpt.ringSeq < seqMax ∧ r.nsq.sync = .running 100 ∧ r.ptb.demand.present = false)
      ∧ (withDemand r 0 0 0).ptb.demand.present = true
      ∧ x.receives = true ∧ x.ownAddress ≠ 0 ∧ x.nsq.sync = .expired := by
  (repeat' apply And.intro) <;> decide +kernel

theorem test_meets_ShutdownLeadsToStandby :
    let h := axle.setNsq { axle.nsq with hold := ⟨true, 2000⟩ }
    let f := flushingPage 2 1 [.standby]
    (Settled axle ∧ axle.mpt.ringSeq < seqMax ∧ axle.serves = true ∧ axle.receives = true ∧ axle.ownAddress ≠ 0
      ∧ axle.nsq.op ≠ .sync ∧ (5 : Word).getLsbD 0 = true ∧ (5 : Word).getLsbD 2 = true ∧ axle.nsq.hold.running = false
      ∧ axle.nsq.holdMet = false)
    ∧ (Settled h ∧ h.nsq.hold = ⟨true, 2000⟩ ∧ h.mpt.op = .none ∧ h.waitsStandby = false)
    ∧ (Settled f ∧ f.mpt.op = .flush (flushJob 2 1 [.standby]) ∧ f.mpt.pendingFlush = none
      ∧ f.nsq.pendingReset = .none ∧ f.nsq.op = .active) := by
  unfold Settled; (repeat' apply And.intro) <;> decide +kernel

/-- A state in which the laws hold and a step that answers a next state, for every law that steps keep. -/
def lawful : State :=
  (exchanging node3Braking .p0 (.volts 700)).setPending [.exchangeCompletion (inverterRecord 1 700 2400 0 60)]

theorem test_meets_EveryStepKeepsTheTableAndTheQueue :
    TableLaw lawful ∧ QueueLaw lawful ∧ ∃ t, step lawful = .next t := by
  unfold TableLaw QueueLaw
  (repeat' apply And.intro) <;> first | exact ⟨_, rfl⟩ | decide +kernel
theorem test_meets_EveryStepKeepsTheWithdrawalLaws :
    Settled lawful ∧ LinesLaw lawful ∧ AdvertisedLaw lawful ∧ FaultLaw lawful ∧ FactorLaw lawful
      ∧ ∃ t, step lawful = .next t := by
  unfold Settled LinesLaw AdvertisedLaw FaultLaw FactorLaw
  (repeat' apply And.intro) <;> first | exact ⟨_, rfl⟩ | decide +kernel

/-- The signs of the demand at 0, 1 and −1 kW. -/
theorem test_meets_SharesFollowTheSignOfTheDemand :
    (computeShare ⟨3, 250, 180, 500, 100⟩ [] 0 360 20 40 120).d = 0
      ∧ (computeShare ⟨3, 250, 180, 500, 100⟩ [peer 1 (.pack 250 120 500)] 1 360 20 40 120).d = 1
      ∧ (computeShare ⟨3, 250, 180, 500, 100⟩ [peer 1 (.pack 250 120 500)] (-1) 360 20 40 120).r = 1 := by
  decide +kernel

/-- A full pack at SOC_max that holds PackLaw, and a command that is no storage upset. -/
def fullPack : State := holding1 pack (.monitor 650 950 5 300 400 0 false)

theorem test_meets_AFullOrFrozenPackAcceptsNothing :
    PackLaw fullPack ∧ fullOrFrozen fullPack ∧ fullPack.role = some .pack ∧ fullPack.stp.held1.isSome = true
      ∧ fullPack.pending.head? = none := by unfold PackLaw fullOrFrozen; (repeat' apply And.intro) <;> decide +kernel

theorem test_meets_TheNewestSlotIsSpared :
    RingLaw (flushingPage 2 1 []) ∧ (flushingPage 2 1 []).mpt.eeprom.wf = true
      ∧ (flushingPage 2 1 []).mpt.op = .flush (flushJob 2 1 []) ∧ inSlot 7 (256 + 64 * 7) :=
  ⟨⟨by decide +kernel, by show (1 = 1 ∨ 1 = 2) ∧ (2 = 1 ∨ 2 = 2) ∧ 0 = (7 + 1) % 8 ∧ 1 = 0 + 1; decide⟩,
    by decide +kernel, rfl, by unfold inSlot; decide⟩

/-- The tick of genset 5 brings its engine from OFF into CRANKING with exactly the dwell elapsed. -/
theorem test_meets_StartsKeepTheirDwellAndBudget :
    let q := genset5.setPending [.tick]
    StartLaw q ∧ (∃ t, step q = .next t ∧ t.gsc.engine = .cranking) ∧ q.gsc.engine ≠ .cranking ∧ q.gsc.clock < clockMax := by
  unfold StartLaw; (repeat' apply And.intro) <;> first | exact ⟨_, rfl, by decide +kernel⟩ | decide +kernel

theorem test_meets_WearNeverDecreases :
    let s := exchanging node3Braking .p1 .none
    (∃ t, exec (.exchangeCompletion (modulatorRecord 1 601 310)) s = .next t ∧ t.nsq.op ≠ .boot ∧ t.nsq.op ≠ .mute
        ∧ t.wau.items[2]? = some ⟨1, 0, .ok⟩)
      ∧ s.nsq.op ≠ .boot ∧ (∀ x ∈ s.wau.items, x.acc ≤ accMax) ∧ s.wau.items[2]? = some ⟨0, 0, .ok⟩ := by
  (repeat' apply And.intro) <;> first | exact ⟨_, rfl, by decide +kernel⟩ | decide +kernel

theorem test_meets_SentStateFramesAreReadBack :
    axle.role = some .axle ∧ node3.blu.own.pd ≤ 1000 ∧ node3.blu.own.pr ≤ 1000 ∧ node3.blu.own.fb ≤ 1000
      ∧ node3.blu.own.q ≤ 100 ∧ -1000 ≤ node3.blu.own.pAct ∧ node3.blu.own.pAct ≤ 1000 ∧ pack.role = some .pack
      ∧ pack.plu.own.po ≤ 1000 ∧ pack.plu.own.pa ≤ 1000 ∧ pack.plu.own.soc ≤ 1000 ∧ genset.role = some .genset
      ∧ genset.gsc.ownPo ≤ 1000 ∧ genset.gsc.ownPa ≤ 1000 := by decide +kernel

theorem test_meets_WrittenSlotsAreReadBack :
    let p : Snapshot := ⟨[6001750, 0, 0, accMax], 999999, 0, 0⟩
    Memory.wf [] = true ∧ 7 < 8 ∧ p.accs.length = itemCount .axle ∧ (∀ a ∈ p.accs, a ≤ accMax) ∧ p.resA1 ≤ accMax
      ∧ p.resA2 ≤ accMax ∧ p.resS1 ≤ accMax := by decide +kernel

/-! ### Further clauses of the statements, at the bounds of their ranges -/

/-- Timers below, at and beyond their periods and a stopped one, and the one-shot timer's three states. -/
theorem test_meets_IdleStepLetsAMillisecondPass_timers :
    let s := axle.setSli { axle.sli with period := ⟨true, 19⟩, silence := ⟨true, 200⟩, window := ⟨false, 1001⟩ }
    s.pending = [] ∧ s.sli.period = ⟨true, 19⟩ ∧ s.sli.silence = ⟨true, 200⟩ ∧ s.sli.window = ⟨false, 1001⟩
      ∧ node3.ptb.entries[0]? = some (peer 1 (.pack 250 120 500)) ∧ axle.nsq.sync = .expired
      ∧ (inSync axle).nsq.sync = .running 0 ∧ (inStandby axle).nsq.sync = .stopped := by decide +kernel

/-- An EEPROM with the same slot at places 2 and 5: the lower-numbered is the newest, and the other one where the lower's
read is not acknowledged or its write did not end. -/
def twoSlots : Memory :=
  let slot := slotBytes .axle 9 ⟨[6000000, 0, 0, 0], 400000, 0, 0⟩
  Memory.writeAll (Memory.writeAll [] (slotAddress 2) slot) (slotAddress 5) slot

set_option maxRecDepth 40000 in
theorem test_meets_BootLoadEntersSync_slots :
    newestSlot (validSlots twoSlots 0 0xFF .axle) = some (2, 9) ∧ newestSlot (validSlots twoSlots 0 0xFB .axle) = some (5, 9)
      ∧ newestSlot (validSlots twoSlots 4 0xFF .axle) = some (5, 9) ∧ newestSlot (validSlots twoSlots 0 0xFF .pack) = none := by
  decide +kernel

/-- The ramp in DOWN with its limit kept, and a friction clamp that binds. -/
theorem test_meets_DemandArrivalIsStored_ramp :
    let s := node3.setBlu { node3.blu with ramp := .down, limitM := 40, clampBinds := true }
    let t := after (.demandArrival 0 [300, 360, 20, 0]) s
    s.receives = true ∧ s.serves = true ∧ s.role = some .axle ∧ t.blu.ramp = .up ∧ t.blu.limitM = 40
      ∧ t.status .shortBrake = true := by decide +kernel

/-- A traction share that the own capability cuts: four members of 1 kW, the own one with the remainder (R12). -/
theorem test_meets_SharesFollowTheSignOfTheDemand_clamp :
    computeShare ⟨1, 1, 0, 0, 0⟩ [peer 2 (.axle 0 1 0 0 0), peer 3 (.axle 0 1 0 0 0), peer 4 (.axle 0 1 0 0 0),
      peer 5 (.pack 250 0 500)] 3 360 20 40 120 = ⟨1, 0, 0, true, false⟩ := by decide +kernel

/-- The receiver in IDLE and in RECEIVE, stopped, in WAIT_IDLE, and following the node's own attempt. -/
theorem test_meets_BadFramesAreCounted_receives :
    axle.receives = true ∧ (axle.setSli { axle.sli with line := .receive }).receives = true
      ∧ (axle.setSli { axle.sli with line := .stopped }).receives = false
      ∧ (axle.setSli { axle.sli with line := .waitIdle 0 }).receives = false
      ∧ sendingState.sli.line = .receive ∧ sendingState.receives = false
      ∧ serviceOf (.clear 15 3 []) = some (15, 3, 3, []) := by decide +kernel

/-- The node in MUTE with address 0. -/
def muteZero : State := after (.powerOn 0b0000001) State.reset

/-- The node's own address in a service request, in a DEMAND frame, in a DEMAND frame to a MUTE node with address 0, and in
STANDBY. -/
theorem test_meets_OwnAddressLatchesClash_forms :
    (serviceOf (.identify 3 3 []) = some (3, 3, 1, []) ∧ (3 : Address) = axle.ownAddress ∧ (3 : Address) ≠ 15
      ∧ [(0 : Word), 0, 0, 0].length ≤ 6 ∧ (3 : Address) ≠ 0)
    ∧ (muteZero.nsq.op = .mute ∧ muteZero.serves = false ∧ muteZero.ownAddress = 0 ∧ muteZero.nsq.op ≠ .standby
      ∧ Settled muteZero ∧ (muteZero.setSli { muteZero.sli with line := .idle }).receives = true)
    ∧ Settled (inStandby axle) ∧ (inStandby axle).serves = false ∧ (inStandby axle).receives = true := by
  unfold Settled; (repeat' apply And.intro) <;> decide +kernel

/-- WEAR_RESET of A2 keeps q (R123), and that of A1 gives 100 (R125). -/
theorem test_wearReset :
    let w : Wear := { Wear.blank 4 with q := 61 }
    (w.resetItem (some .axle) 2).q = 61 ∧ (w.resetItem (some .axle) 1).q = 100 := by decide +kernel

/-- An EEPROM operation with a flush pending behind it. -/
theorem test_meets_EepromRequestsEndWithTheirWords_pending :
    let r := axle.setMpt { axle.mpt with op := .configRead (some 1) 0, pendingFlush := some [.wearReset 2 4] }
    let w := (writing 62).setMpt { (writing 62).mpt with pendingFlush := some [] }
    Settled r ∧ Settled w ∧ r.mpt.ringSeq < seqMax ∧ r.mpt.pendingFlush = some [.wearReset 2 4] ∧ w.mpt.ringSeq < seqMax
      ∧ w.mpt.pendingFlush = some [] := by
  unfold Settled; (repeat' apply And.intro) <;> decide +kernel

/-- A failure between the two writes of a CONFIG_WRITE: the new word and the old check word (R173). -/
theorem test_configWriteCheckFailed :
    let t := after (.configWriteComplete .checkFailed axle.pins.straps) (writing 62)
    eepromWord t.mpt.eeprom 62 = 0xFF34 ∧ eepromWord t.mpt.eeprom 63 = 0xFFFF := by decide +kernel

/-- Replies in flight that let no reset proceed: one without a reset pending, a refused one, one of another request, and
one while the REBOOT flush runs. -/
theorem test_meets_CompletedAttemptsReleaseTheirFrame_replies :
    let s := fun (p : PendingReset) (code : BitVec 8) (x : ReplyResult) =>
      (axle.setNsq { axle.nsq with pendingReset := p }).setSli
        { axle.sli with replies := [⟨1, .inFlight, code, x, []⟩], line := .receive }
    ((s .none 12 .done).attempting = true ∧ Settled (s .none 12 .done))
      ∧ (replyInFlight (s .reboot 12 .busy).sli.replies = some ⟨1, .inFlight, 12, .busy, []⟩ ∧ Settled (s .reboot 12 .busy))
      ∧ (replyInFlight (s .restart 3 .done).sli.replies = some ⟨1, .inFlight, 3, .done, []⟩ ∧ Settled (s .restart 3 .done))
      ∧ ((s .rebootFlush 13 .done).nsq.pendingReset = .rebootFlush ∧ Settled (s .rebootFlush 13 .done)) := by
  unfold Settled; (repeat' apply And.intro) <;> decide +kernel

/-- Good records of partner 1 in each role, their values beyond the ranges, and a pack fault. -/
theorem test_meets_GoodPartner0RecordsAreHeld_partner1 :
    let m := goodRecord ([0x11] ++ bytesOfWord 1001 ++ bytesOfWord 1201 ++ bytesOfWord 1200 ++ List.replicate 8 0)
    let p := monitorRecord 1 1001 1001 (-41) 2001 0xFFFF (-20001) 1
    let g := controllerRecord 1 3 (-41)
    ((exchanging node3 .p1 .none).serves = true ∧ (exchanging node3 .p1 .none).stp.held1 = some ⟨0, .modulator 0 360 360 false⟩
      ∧ xorBytes m = 0 ∧ (byteAt m 0).getLsbD 0 = true ∧ (byteAt m 0).extractLsb' 4 4 = 1)
    ∧ ((exchanging pack .p1 .none).stp.inFlight = some ⟨.p1, [], .none⟩ ∧ pack.role = some .pack ∧ xorBytes p = 0
      ∧ (byteAt p 0).getLsbD 0 = true ∧ byteAt p 13 ≠ 0 ∧ (exchanging pack .p1 .none).stp.held1 = none)
    ∧ ((exchanging genset .p1 .none).stp.inFlight = some ⟨.p1, [], .none⟩ ∧ genset.role = some .genset ∧ xorBytes g = 0
      ∧ (byteAt g 0).getLsbD 0 = true ∧ byteAt g 1 = 3) := by
  (repeat' apply And.intro) <;> decide +kernel

/-- S3 at SOC 899 and 900, the arming flag set and clear. -/
theorem test_meets_PackCompletionsFormTheLimits_arming :
    let s := fun (armed : Bool) => exchanging (pack1.setWau { pack1.wau with armS3 := armed }) .p1 .none
    let t := fun (armed : Bool) (soc : Word) => after (.exchangeCompletion (monitorRecord 1 650 soc 46 300 400 0 0)) (s armed)
    (t false 899).wau.armS3 = true ∧ (t false 900).wau.armS3 = false ∧ (t true 900).wau.armS3 = true
      ∧ (t true 950).wau.armS3 = false ∧ (itemAt (t true 950).wau.items 3).acc = 1 ∧ (t true 949).wau.armS3 = true := by
  decide +kernel

/-- The GENSET forms with SHUTDOWN given, in each engine state. -/
def shutdownAt (e : EngineState) : State :=
  let s := engineAt e false
  s.setPtb { s.ptb with demand := ⟨true, 0, 0, 0, true, false, true, false⟩, demandTimer := Timer.started }

theorem test_meets_GensetCompletionsFollowTheEngine_shutdown :
    ∀ e ∈ [EngineState.off, .cranking, .warming, .running, .cooldown, .faulted],
      ((shutdownAt e).serves = true ∧ Settled (shutdownAt e) ∧ FaultLaw (shutdownAt e) ∧ (shutdownAt e).mpt.ringSeq < seqMax)
        ∧ (shutdownAt e).given.shutdown = true ∧ (shutdownAt e).stp.inFlight = some ⟨.p1, [], .none⟩
        ∧ (shutdownAt e).gsc.adoption = false ∧ (shutdownAt e).gsc.engine = e
        ∧ recordFails ((shutdownAt e).stp.held1.map Partner1.nibble) (controllerRecord 1 2 50) = false := by
  unfold Settled FaultLaw; decide +kernel

/-- A fault record of partner 0 takes the node from ACTIVE into WITHDRAWN, in each engine state (R104, R162). -/
theorem test_meets_GensetCompletionsFollowTheEngine_withdrawal :
    ∀ e ∈ [EngineState.off, .cranking, .warming, .running, .cooldown, .faulted],
      let s := exchanging (genset.setGsc { genset.gsc with engine := e, adoption := false }) .p0 (.volts 700)
      let r := goodRecord ([0x11] ++ bytesOfWord 700 ++ List.replicate 7 0 ++ [1, 0, 0, 0, 0])
      s.stp.inFlight = some ⟨.p0, [], .volts 700⟩ ∧ s.serves = true ∧ s.nsq.op = .active ∧ s.gsc.engine = e
        ∧ s.mpt.ringSeq < seqMax ∧ (after (.exchangeCompletion r) s).nsq.op = .withdrawn := by decide +kernel

/-- A failed record of partner 1 before any has been held: no STOP is written (R158, log entry 41). -/
theorem test_meets_GensetCompletionsFollowTheEngine_unheard :
    let s := engineAt .off true
    s.stp.held1 = none ∧ s.gsc.engine = .off ∧ recordFails none (List.replicate 16 0) = true
      ∧ (after (.exchangeCompletion (List.replicate 16 0)) s).stp.slot1 = none := by decide +kernel

/-- The GENSET at a tick: SHUTDOWN; the stop condition with the run timer's outcome (R100, R101); the return. -/
def tickAt (e : EngineState) (runMet : Bool) (soc : Nat) : State :=
  let s := withPeers genset5 [peer 1 (.pack 250 120 soc), peer 3 (.axle 5 250 180 500 100)]
  s.setGsc { s.gsc with engine := e, runMet := runMet, netLoad := [] }

theorem test_meets_TicksTakeTheirSamples_tests :
    (∀ e ∈ [EngineState.warming, .running, .cooldown, .cranking, .off, .faulted],
      Settled (parked (tickAt e true 800)) ∧ (tickAt e true 800).gsc.tick = ⟨true, 1000⟩ ∧ (tickAt e true 800).gsc.clock < clockMax)
    ∧ ((tickAt .running true 950).given.shutdown = false ∧ (after .tick (tickAt .running true 950)).gsc.engine = .cooldown
      ∧ (after .tick (tickAt .running false 950)).gsc.engine = .running
      ∧ (after .tick (tickAt .running true 500)).gsc.engine = .running)
    ∧ ((after .tick (tickAt .cooldown true 10)).gsc.engine = .running
      ∧ (after .tick (tickAt .cooldown true 950)).gsc.engine = .cooldown)
    ∧ (shutdownAt .running).given.shutdown = true := by
  unfold Settled; (repeat' apply And.intro) <;> decide +kernel

/-- The image of the tests with a check word that makes it pass its check. -/
def goodImage (role : Role) : List Word := (image role).set 63 (0xA55A#16 ^^^ xorWords ((image role).take 63))

/-- A copy that passes its check, with and without an upset, and a copy that is corrupt already, which an upset that would
mend it leaves (R169). -/
theorem test_meets_ChecksLatchAndRecord_copies :
    let s := axle.setMpt { axle.mpt with copy := goodImage .axle, recheck := ⟨true, 100⟩ }
    let bad := s.setMpt { s.mpt with copy := (goodImage .axle).set 10 0 }
    Settled s ∧ (after (.recheckTimerExpiry none) s).mpt.recheckBad = false
      ∧ (after (.recheckTimerExpiry (some (10, 1))) s).mpt.recheckBad = true
      ∧ (after (.recheckTimerExpiry (some (10, imageWord (goodImage .axle) 10))) bad).mpt.recheckBad = true := by
  unfold Settled; (repeat' apply And.intro) <;> decide +kernel

/-- The end of a flush with a WEAR_RESET, a pending flush or a REBOOT behind it. -/
def rebooting (page attempt : Nat) : State :=
  let s := flushingPage page attempt [.reboot]
  s.setNsq { s.nsq with pendingReset := .rebootFlush }

theorem test_meets_FlushesWriteTheNextSlot_parties :
    (Settled (flushing 7 814 2) ∧ (flushing 7 814 2).role = some .axle ∧ (flushing 7 814 2).mpt.eeprom.wf = true
      ∧ (flushing 7 814 2).mpt.pendingFlush = some [.wearReset 1 1])
    ∧ (Settled (flushingPage 2 1 [.wearReset 1 4]) ∧ (flushJob 2 1 [.wearReset 1 4]).parties = [.wearReset 1 4]
      ∧ (flushJob 2 1 [.wearReset 1 4]).page = 2 ∧ (flushJob 2 1 [.wearReset 1 4]).seq < seqMax)
    ∧ (Settled (rebooting 2 1) ∧ (rebooting 2 1).mpt.op = .flush (flushJob 2 1 [.reboot]))
    ∧ (Settled (rebooting 1 2) ∧ (rebooting 1 2).mpt.op = .flush (flushJob 1 2 [.reboot])
      ∧ (flushJob 1 2 [.reboot]).attempt = 2 ∧ (rebooting 1 2).mpt.poll = ⟨true, 20⟩)
    ∧ strapRole 9 = some .axle ∧ strapRole 8 = none := by
  unfold Settled; (repeat' apply And.intro) <;> decide +kernel

/-- After a REBOOT the F value held is clear (R141), into BOOT and into MUTE. -/
theorem test_reboot : (after (.pageStored 9) (rebooting 2 1)).stu.fValue = false
    ∧ (after (.pageStored 8) (rebooting 2 1)).stu.fValue = false ∧ (after (.pageStored 8) (rebooting 2 1)).nsq.op = .mute := by
  decide +kernel

/-- A failed flush with a flush pending behind it. -/
theorem test_meets_FailedPagesAreRetriedOnce_pending :
    let s := (flushingPage 1 2 []).setMpt { (flushingPage 1 2 []).mpt with pendingFlush := some [.wearReset 3 2] }
    Settled s ∧ s.mpt.op = .flush (flushJob 1 2 []) ∧ s.mpt.pendingFlush = some [.wearReset 3 2] ∧ s.mpt.ringSeq < seqMax
      ∧ s.mpt.poll = ⟨true, 20⟩ ∧ s.mpt.eeprom.wf = true := by
  unfold Settled; (repeat' apply And.intro) <;> decide +kernel

theorem test_meets_SyncIsLeftOnADemand_early :
    (inSync axle).nsq.op = .sync ∧ (inSync axle).nsq.sync = .running 0 ∧ (inSync axle).receives = true
      ∧ (inSync axle).mpt.ringSeq < seqMax := by decide +kernel

/-- The STANDBY flush at its second page and at its second failure, and a hold whose flush finds the port in use, or the
STANDBY flush of a cancelled hold. -/
theorem test_meets_ShutdownLeadsToStandby_flush :
    let h := fun (s : State) => s.setNsq { s.nsq with hold := ⟨true, 2000⟩ }
    let f := flushingPage 1 2 [.standby]
    (Settled f ∧ f.mpt.op = .flush (flushJob 1 2 [.standby]) ∧ (flushJob 1 2 [.standby]).attempt = 2
      ∧ f.mpt.poll = ⟨true, 20⟩ ∧ f.nsq.op = .active ∧ f.nsq.pendingReset = .none)
    ∧ ((h f).waitsStandby = true ∧ Settled (h f))
    ∧ ((h (writing 5)).mpt.op ≠ .none ∧ (h (writing 5)).waitsStandby = false ∧ Settled (h (writing 5)))
    ∧ (axle.setNsq { axle.nsq with holdMet := true }).nsq.holdMet = true ∧ axle.nsq.holdMet = false
    ∧ (4 : Word).getLsbD 0 = false ∧ (1 : Word).getLsbD 2 = false := by
  unfold Settled; (repeat' apply And.intro) <;> decide +kernel

/-- The ring position at a blank ring, at the newest of two slots, and while a flush writes its second page. -/
theorem test_meets_TheNewestSlotIsSpared_blank : NewestLaw axle := by
  unfold NewestLaw; refine ⟨by decide +kernel, fun role h _ => ?_⟩
  cases (Option.some.inj (show some Role.axle = some role from h))
  exact ⟨Or.inr (by decide +kernel), True.intro⟩

set_option maxRecDepth 40000 in
theorem test_meets_TheNewestSlotIsSpared_newest :
    let s := axle.setMpt { axle.mpt with eeprom := twoSlots, ringSlot := 2, ringSeq := 9 }
    NewestLaw s ∧ RingLaw s ∧ s.mpt.eeprom.wf = true := by
  refine ⟨?_, ⟨by decide, True.intro⟩, by decide +kernel⟩
  unfold NewestLaw; refine ⟨by decide +kernel, fun role h _ => ?_⟩
  cases (Option.some.inj (show some Role.axle = some role from h))
  exact ⟨Or.inl (by decide +kernel), True.intro⟩

/-- The flush of the timer with its first page stored. -/
def secondPage : State :=
  after (.pageStored axle.pins.straps)
    (after .flushTimerExpiry (axle.setMpt { axle.mpt with flush := ⟨true, 300000⟩ }))

def secondPageJob : FlushJob := ⟨snapshotOf (some .axle) axle.wau.items, 1, 0, 1, 2, []⟩

set_option maxRecDepth 40000 in
theorem test_meets_TheNewestSlotIsSpared_flush :
    secondPage.mpt.op = .flush secondPageJob ∧ secondPage.mpt.torn.getLsbD 0 = true
      ∧ (readSlot secondPage.mpt.eeprom 0).take 32 = (slotBytes .axle 1 secondPageJob.snapshot).take 32
      ∧ validSlots secondPage.mpt.eeprom secondPage.mpt.torn 0xFF .axle = [] ∧ secondPage.mpt.ringSlot = 7
      ∧ secondPage.mpt.ringSeq = 0 ∧ secondPage.nsq.op = .active ∧ secondPage.mpt.eeprom.wf = true := by decide +kernel

/-- A loaded node whose image and slots were acknowledged or not: the exception of the ring's clause. -/
theorem test_meets_TheNewestSlotIsSpared_load :
    (State.reset.setPending [.bootLoadComplete true 0xFF]).pending.head? = some (.bootLoadComplete true 0xFF)
      ∧ NewestLaw (State.reset.setPending [.bootLoadComplete true 0xFF]) := by
  refine ⟨rfl, by decide +kernel, fun role h g => absurd rfl g⟩

/-- An engine that stays in OFF with time passing, at a command, and at a reset, and one that enters OFF from a failed
attempt and from COOLDOWN. -/
theorem test_meets_StartsKeepTheirDwellAndBudget_dwell :
    let q := genset.setGsc { genset.gsc with off := ⟨true, 5000⟩, dwell := 10 }
    let w := fun (s : State) (c : Instr) => (step (s.setPending [c]))
    (StartLaw q ∧ q.gsc.engine = .off ∧ q.pending = [] ∧ ∃ t, step q = .next t ∧ t.gsc.engine = .off ∧ t.gsc.dwell = 10
      ∧ t.gsc.off = ⟨true, 5001⟩)
    ∧ (∃ t, w q .tick = .next t ∧ t.gsc.engine = .off ∧ t.gsc.off = ⟨true, 5000⟩ ∧ t.gsc.dwell = 10)
    ∧ (∃ t, w q (.powerOn q.pins.straps) = .next t ∧ t.gsc.engine = .off ∧ t.gsc.off.elapsed = 0 ∧ t.gsc.dwell = 20)
    ∧ (∃ t, w (cranking 0) .crankTimerExpiry = .next t ∧ t.gsc.engine = .off ∧ t.gsc.dwell = 10)
    ∧ ∃ t, w coolingGenset .cooldownTimerExpiry = .next t ∧ t.gsc.engine = .off ∧ t.gsc.dwell = 20 := by
  unfold StartLaw
  (repeat' apply And.intro) <;> first | decide +kernel | exact ⟨_, rfl, by decide +kernel⟩

/-- The derived weights of nodes whose copy passes its check. -/
theorem test_meets_WearNeverDecreases_derived :
    let a := node3Braking.setMpt { node3Braking.mpt with copy := goodImage .axle }
    let a := (a.setWau { a.wau with items := setItem a.wau.items 1 ⟨6000000, 0, .ok⟩, q := 60 }).setBlu
      { a.blu with own := { a.blu.own with q := 60 } }
    let p := pack.setMpt { pack.mpt with copy := goodImage .pack }
    let p := p.setWau { p.wau with items := setItem p.wau.items 1 ⟨30000, 0, .ok⟩, dw := 91 }
    (DeriveLaw a ∧ checkHolds a.mpt.copy = true ∧ 1 ≤ dueOf a.mpt.copy 1 ∧ a.role = some .axle)
      ∧ DeriveLaw p ∧ checkHolds p.mpt.copy = true ∧ 1 ≤ dueOf p.mpt.copy 1 ∧ p.role = some .pack := by
  unfold DeriveLaw; (repeat' apply And.intro) <;> decide +kernel

set_option maxRecDepth 40000 in
theorem test_meets_TheNewestSlotIsSpared_law : NewestLaw secondPage ∧ RingLaw secondPage := by
  refine ⟨⟨by decide +kernel, fun role h _ => ?_⟩, by decide +kernel, ?_⟩
  · have e : role = .axle := Option.some.inj (h.symm.trans (show secondPage.role = some .axle by decide +kernel))
    subst e
    refine ⟨Or.inr (by decide +kernel), ?_⟩
    rw [test_meets_TheNewestSlotIsSpared_flush.1]
    decide +kernel
  · rw [test_meets_TheNewestSlotIsSpared_flush.1]
    decide +kernel

/-- Entries that are in view and entries that are not, by freshness and reported state (R35). -/
theorem test_liveEntries :
    let e := peer 4 (.axle 0 200 150 500 60)
    let live := fun (x : PeerEntry) => x.live
    live { e with freshness := .stale } = true ∧ live { e with freshness := .lost } = false
      ∧ live { e with reported := .known .withdrawn } = true ∧ live { e with reported := .known .sync } = false
      ∧ live { e with reported := .unassigned } = false ∧ frictionWeight ⟨4, 200, 150, 500, 60⟩ = 300 := by decide +kernel

/-- WEAR_RESET of S1 with a pack monitor record held and with none (R79, R125). -/
theorem test_meets_WearResetEmptiesItsItem_pack :
    let s := parked (holding1 pack1 (.monitor 650 900 5 300 400 0 false))
    (Settled s ∧ Reaches s 1 9 1 ∧ s.role = some .pack ∧ s.nsq.op = .active ∧ 1 ≤ s.wau.items.length)
      ∧ s.stp.held1 = some ⟨0, .monitor 650 900 5 300 400 0 false⟩ ∧ (parked pack1).stp.held1 = none
      ∧ (after (.wearReset 15 1 [1]) s).plu.poF = 260 := by
  unfold Settled Reaches; (repeat' apply And.intro) <;> decide +kernel

/-- Each mode of the ramp with the share at and above M, outside SLIP and in it, and no modulator record held. -/
theorem test_meets_AxlePartner1CompletionFormsPressure_shares :
    let s := fun (mode : RampMode) (m : Nat) (x : SlipState) =>
      exchanging ((withDemand node3 300 360 20).setShe ⟨167, 0, 0, false, false⟩ |>.setBlu
        { node3.blu with ramp := mode, limitM := m, slip := x }) .p1 .none
    let t := fun (mode : RampMode) (m : Nat) (x : SlipState) =>
      after (.exchangeCompletion (modulatorRecord 1 0 360)) (s mode m x)
    ((s .up 166 .grip).serves = true ∧ (s .up 166 .grip).demandLost = false ∧ (t .up 166 .grip).blu.slip = .grip)
      ∧ ((t .none 0 .grip).blu.dE = 167 ∧ (t .up 166 .grip).blu.dE = 166 ∧ (t .up 166 .grip).blu.ramp = .up)
      ∧ ((t .up 167 .grip).blu.ramp = .none ∧ (t .up 167 .grip).blu.limitM = 167)
      ∧ ((t .down 40 .grip).blu.dE = 40 ∧ (t .down 40 .grip).blu.ramp = .down)
      ∧ ((t .none 0 (.slip .traction)).blu.dE = 0 ∧ (t .none 0 (.slip .traction)).blu.slip = .slip .traction) := by
  (repeat' apply And.intro) <;> decide +kernel
theorem test_meets_AxlePartner1CompletionFormsPressure_none :
    let s := exchanging (withDemand axle (-250) 360 20) .p1 .none
    s.serves = true ∧ s.role = some .axle ∧ s.stp.inFlight = some ⟨.p1, [], .none⟩
      ∧ (after (.exchangeCompletion (List.replicate 16 0)) s).stp.held1 = none ∧ s.demandLost = false
      ∧ (withStatus s .demandLost).demandLost = true ∧ 1 ≤ brakeGain s.mpt.copy := by
  (repeat' apply And.intro) <;> decide +kernel

/-- A4 at 499, 500, 600 and 601 kPa, armed and disarmed (R115). -/
theorem test_meets_AxlePartner1CompletionFormsPressure_hard :
    let s := fun (armed : Bool) => exchanging (node3Braking.setWau { node3Braking.wau with armA4 := armed }) .p1 .none
    let t := fun (armed : Bool) (p : Word) => (after (.exchangeCompletion (modulatorRecord 1 p 360)) (s armed)).wau
    ((t false 499).armA4 = true ∧ (t false 500).armA4 = false ∧ (t true 500).armA4 = true)
      ∧ ((t true 600).armA4 = true ∧ (itemAt (t true 600).items 4).acc = 0)
      ∧ ((t true 601).armA4 = false ∧ (itemAt (t true 601).items 4).acc = 1 ∧ (itemAt (t false 601).items 4).acc = 0) := by
  (repeat' apply And.intro) <;> decide +kernel

/-- A failed record of partner 1 while one is held, read as the last good one (R96), with SHUTDOWN given and not; and an
adoption pending with SHUTDOWN given (R108). -/
def heldEngine (s : State) (e : EngineReport) : State := s.setStp { s.stp with held1 := some ⟨3, .controller e 60⟩ }

theorem test_meets_GensetCompletionsFollowTheEngine_failed :
    let s := heldEngine (engineAt .cranking false) .running
    let d := heldEngine (shutdownAt .warming) .stopped
    (Settled s ∧ FaultLaw s ∧ s.stp.inFlight = some ⟨.p1, [], .none⟩ ∧ s.serves = true ∧ s.given.shutdown = false
      ∧ s.mpt.ringSeq < seqMax ∧ s.gsc.adoption = false ∧ s.stp.fail1 ≠ 4
      ∧ recordFails (s.stp.held1.map Partner1.nibble) (List.replicate 16 0) = true
      ∧ (after (.exchangeCompletion (List.replicate 16 0)) s).gsc.engine = .warming)
    ∧ (Settled d ∧ FaultLaw d ∧ d.given.shutdown = true ∧ d.gsc.adoption = false ∧ d.stp.fail1 ≠ 4
      ∧ d.stp.held1 = some ⟨3, .controller .stopped 60⟩
      ∧ recordFails (d.stp.held1.map Partner1.nibble) (List.replicate 16 0) = true) := by
  unfold Settled FaultLaw; (repeat' apply And.intro) <;> decide +kernel
theorem test_meets_GensetCompletionsFollowTheEngine_adoption :
    let s := (shutdownAt .off).setGsc { (shutdownAt .off).gsc with adoption := true }
    Settled s ∧ FaultLaw s ∧ s.given.shutdown = true ∧ s.gsc.adoption = true ∧ s.gsc.engine = .off
      ∧ s.stp.inFlight = some ⟨.p1, [], .none⟩ ∧ recordFails (s.stp.held1.map Partner1.nibble) (controllerRecord 1 2 50) = false
      ∧ (after (.exchangeCompletion (controllerRecord 1 2 50)) s).gsc.engine = .running := by
  unfold Settled FaultLaw; (repeat' apply And.intro) <;> decide +kernel

/-- The cold start's edge: an attempt with the held coolant at 9 and at 10 °C (R95). -/
theorem test_meets_AttemptsNeedEveryStartCondition_cold :
    let s := fun (coolant : Int) => holding1 genset5 (.controller .stopped coolant)
    (s 9).stp.held1 = some ⟨0, .controller .stopped 9⟩ ∧ Settled (s 9) ∧ Settled (s 10)
      ∧ (itemAt (after .tick (s 9)).wau.items 3).acc = 1 ∧ (itemAt (after .tick (s 10)).wau.items 3).acc = 0
      ∧ (after .tick (s 10)).gsc.engine = .cranking := by
  unfold Settled; (repeat' apply And.intro) <;> decide +kernel

end Sys2Proof.Tests
end

/-! # Sharing the driveline demand

The split procedure (R8) and the bounds of the share computation (R9, R13, R23). The split rests on two facts: the floor
parts fall short of the total by less than one for each weighted member, and, the addresses being pairwise different, exactly
one member bears the shortfall. -/

section
namespace Sys2Proof.Machine

/-! ### The weighted members -/

theorem exists_weighted_of_pos {ws : List (Address × Nat)} (hpos : 0 < weightSum ws) : ∃ m ∈ ws, m.2 ≠ 0 := by
  by_contra! hzero
  exact hpos.ne' (List.sum_eq_zero_iff.mpr (List.forall_mem_map.mpr hzero))

theorem lowestWeighted_eq_none_iff {ws : List (Address × Nat)} :
    lowestWeighted ws = none ↔ ∀ m ∈ ws, m.2 = 0 := by
  induction ws with
  | nil => simp [lowestWeighted]
  | cons m ws ih =>
    rw [List.forall_mem_cons, ← ih, lowestWeighted]
    cases lowestWeighted ws with
    | none => simp
    | some a => by_cases hlow : m.2 ≠ 0 ∧ m.1 < a <;> simp [hlow]

theorem lowestWeighted_least {ws : List (Address × Nat)} {a : Address} (h : lowestWeighted ws = some a) :
    (∃ m ∈ ws, m.2 ≠ 0 ∧ m.1 = a) ∧ ∀ m ∈ ws, m.2 ≠ 0 → a ≤ m.1 := by
  induction ws generalizing a with
  | nil => simp [lowestWeighted] at h
  | cons m ws ih =>
    rw [lowestWeighted] at h
    rw [List.exists_mem_cons_iff, List.forall_mem_cons]
    cases htail : lowestWeighted ws with
    | none =>
      have hzero := lowestWeighted_eq_none_iff.mp htail
      obtain ⟨hm, rfl⟩ : m.2 ≠ 0 ∧ m.1 = a := by simpa [htail] using h
      exact ⟨.inl ⟨hm, rfl⟩, fun _ => BitVec.le_refl _, fun x hx hw => absurd (hzero x hx) hw⟩
    | some b =>
      obtain ⟨hmem, hle⟩ := ih htail
      simp only [htail] at h
      split at h
      next hlow =>
        cases h
        exact ⟨.inl ⟨hlow.1, rfl⟩, fun _ => BitVec.le_refl _, fun x hx hw =>
          BitVec.le_trans (BitVec.le_of_lt hlow.2) (hle x hx hw)⟩
      next hlow =>
        cases h
        exact ⟨.inr hmem, fun hw => BitVec.not_lt.mp fun hlt => hlow ⟨hw, hlt⟩, hle⟩

/-- Among the weighted members, the lowest-addressed one is the one `lowestWeighted` names. -/
theorem lowestWeighted_eq_some_iff {ws : List (Address × Nat)} {m : Address × Nat} (hm : m ∈ ws) (hw : m.2 ≠ 0) :
    lowestWeighted ws = some m.1 ↔ ∀ x ∈ ws, x.2 ≠ 0 → m.1 ≤ x.1 := by
  refine ⟨fun h => (lowestWeighted_least h).2, fun hleast => ?_⟩
  cases h : lowestWeighted ws with
  | none => exact absurd (lowestWeighted_eq_none_iff.mp h m hm) hw
  | some a =>
    obtain ⟨⟨x, hx, hxw, rfl⟩, hle⟩ := lowestWeighted_least h
    rw [BitVec.le_antisymm (hle m hm hw) (hleast x hx hxw)]

theorem exists_lowest_of_pos {ws : List (Address × Nat)} (hpos : 0 < weightSum ws) :
    ∃ x ∈ ws, x.2 ≠ 0 ∧ lowestWeighted ws = some x.1 := by
  cases h : lowestWeighted ws with
  | none =>
    obtain ⟨m, hm, hw⟩ := exists_weighted_of_pos hpos
    exact absurd (lowestWeighted_eq_none_iff.mp h m hm) hw
  | some a =>
    obtain ⟨x, hx, hw, rfl⟩ := (lowestWeighted_least h).1
    exact ⟨x, hx, hw, rfl⟩

/-! ### The provisional parts (R8 steps 1 and 2) -/

@[simp] theorem provisional_zero (total sum : Nat) : provisional total sum 0 = 0 := by simp [provisional]

theorem sum_provisional_le_div (total sum : Nat) (ws : List (Address × Nat)) :
    (ws.map fun m => provisional total sum m.2).sum ≤ total * weightSum ws / sum := by
  induction ws with
  | nil => simp
  | cons m ws ih =>
    calc ((m :: ws).map fun m => provisional total sum m.2).sum
        ≤ total * m.2 / sum + total * weightSum ws / sum := Nat.add_le_add_left ih _
      _ ≤ (total * m.2 + total * weightSum ws) / sum := Nat.div_add_div_le_add_div ..
      _ = total * weightSum (m :: ws) / sum := by simp [weightSum, Nat.mul_add]

theorem sum_provisional_le (total : Nat) {ws : List (Address × Nat)} (hpos : 0 < weightSum ws) :
    (ws.map fun m => provisional total (weightSum ws) m.2).sum ≤ total :=
  (sum_provisional_le_div ..).trans_eq (Nat.mul_div_cancel _ hpos)

/-- A weighted member's floor part raised by 1 exceeds its exact part, and a member of weight 0 has neither; here summed over
the members and multiplied by the divisor. -/
theorem exact_add_weighted_le (total : Nat) {sum : Nat} (hpos : 0 < sum) (ws : List (Address × Nat)) :
    total * weightSum ws + (ws.filter fun m => decide (m.2 ≠ 0)).length
      ≤ sum * ((ws.map fun m => provisional total sum m.2).sum + (ws.filter fun m => decide (m.2 ≠ 0)).length) := by
  induction ws with
  | nil => simp [weightSum]
  | cons m ws ih =>
    have hsum : weightSum (m :: ws) = m.2 + weightSum ws := by simp [weightSum]
    by_cases hw : m.2 = 0
    · simpa [hsum, hw] using ih
    · have hfloor : total * m.2 < sum * (provisional total sum m.2 + 1) := Nat.lt_mul_div_succ _ hpos
      simp only [hsum, List.filter_cons, hw, ne_eq, not_false_eq_true, decide_true, if_true, List.length_cons,
        List.map_cons, List.sum_cons]
      linarith

/-- The bound R8 gives for the remainder. -/
theorem splitRemainder_lt_weighted (total : Nat) {ws : List (Address × Nat)} (hpos : 0 < weightSum ws) :
    splitRemainder total ws < (ws.filter fun m => decide (m.2 ≠ 0)).length := by
  have hexact := exact_add_weighted_le total hpos ws
  have hweighted : 0 < (ws.filter fun m => decide (m.2 ≠ 0)).length := by
    obtain ⟨m, hm, hw⟩ := exists_weighted_of_pos hpos
    exact List.length_pos_of_mem (List.mem_filter.mpr ⟨hm, decide_eq_true hw⟩)
  have hlt : total < (ws.map fun m => provisional total (weightSum ws) m.2).sum
      + (ws.filter fun m => decide (m.2 ≠ 0)).length :=
    Nat.lt_of_mul_lt_mul_left (a := weightSum ws) (by linarith)
  unfold splitRemainder
  omega

/-! ### What each member takes (R8 step 3) -/

theorem splitResult_of_weight_zero (total : Nat) (ws : List (Address × Nat)) {m : Address × Nat} (hw : m.2 = 0) :
    splitResult total ws m = 0 := by
  simp [splitResult, splitPart, hw]

/-- Every member takes its provisional part, the one `lowestWeighted` names the remainder as well. -/
theorem splitResult_of_pos (total : Nat) {ws : List (Address × Nat)} (hpos : 0 < weightSum ws) (m : Address × Nat) :
    splitResult total ws m = provisional total (weightSum ws) m.2
      + if m.2 ≠ 0 ∧ lowestWeighted ws = some m.1 then splitRemainder total ws else 0 := by
  rw [splitResult, if_neg hpos.ne', splitPart]

theorem splitResult_of_lower (total : Nat) {ws : List (Address × Nat)} {m : Address × Nat} (hpos : 0 < weightSum ws)
    (hlower : ∃ x ∈ ws, x.2 ≠ 0 ∧ x.1 < m.1) :
    splitResult total ws m = provisional total (weightSum ws) m.2 := by
  obtain ⟨x, hx, hxw, hlt⟩ := hlower
  have hnot : ¬ (m.2 ≠ 0 ∧ lowestWeighted ws = some m.1) := fun ⟨_, h⟩ =>
    BitVec.not_lt.mpr ((lowestWeighted_least h).2 x hx hxw) hlt
  rw [splitResult_of_pos total hpos, if_neg hnot, Nat.add_zero]

theorem splitResult_of_lowest (total : Nat) {ws : List (Address × Nat)} {m : Address × Nat} (hpos : 0 < weightSum ws)
    (hm : m ∈ ws) (hw : m.2 ≠ 0) (hleast : ∀ x ∈ ws, x.2 ≠ 0 → m.1 ≤ x.1) :
    splitResult total ws m = provisional total (weightSum ws) m.2 + splitRemainder total ws := by
  rw [splitResult_of_pos total hpos, if_pos ⟨hw, (lowestWeighted_eq_some_iff hm hw).mpr hleast⟩]

theorem sum_map_eq_of_nodup {α : Type} [DecidableEq α] {l : List α} (hl : l.Nodup) {x : α} (hx : x ∈ l) (f : α → Nat)
    (hothers : ∀ y, y ≠ x → y ∈ l → f y = 0) : (l.map f).sum = f x := by
  rw [List.sum_map_eq_nsmul_single x f hothers, List.count_eq_one_of_mem hl hx, one_smul]

/-- With pairwise different addresses the remainder is given out exactly once. -/
theorem sum_remainder_given (r : Nat) {ws : List (Address × Nat)} (hnodup : (ws.map Prod.fst).Nodup)
    (hpos : 0 < weightSum ws) :
    (ws.map fun m => if m.2 ≠ 0 ∧ lowestWeighted ws = some m.1 then r else 0).sum = r := by
  obtain ⟨x, hx, hxw, hlow⟩ := exists_lowest_of_pos hpos
  have hothers : ∀ m, m ≠ x → m ∈ ws → (if m.2 ≠ 0 ∧ lowestWeighted ws = some m.1 then r else 0) = 0 := by
    intro m hne hm
    exact if_neg fun ⟨_, hlow'⟩ =>
      hne (List.inj_on_of_nodup_map hnodup hm hx (Option.some.inj (hlow'.symm.trans hlow)))
  rw [sum_map_eq_of_nodup hnodup.of_map hx _ hothers, if_pos ⟨hxw, hlow⟩]

theorem sum_splitResult (total : Nat) {ws : List (Address × Nat)} (hnodup : (ws.map Prod.fst).Nodup)
    (hpos : 0 < weightSum ws) : (ws.map (splitResult total ws)).sum = total := by
  have hle := sum_provisional_le total hpos
  rw [List.map_congr_left fun m _ => splitResult_of_pos total hpos m, List.sum_map_add,
    sum_remainder_given _ hnodup hpos, splitRemainder]
  omega

/-! ### The share computation (R9 to R20) -/

/-- With D > 0 the drive share is cut at the own Pd (R12) and the other two are 0. -/
theorem tractionShare_le_own (own : Member) (es : List PeerEntry) (d aux : Nat) :
    (tractionShare own es d aux).d ≤ own.pd ∧ (tractionShare own es d aux).r ≤ own.pr
      ∧ (tractionShare own es d aux).f ≤ own.fb :=
  ⟨Nat.min_le_right .., Nat.zero_le _, Nat.zero_le _⟩

/-- With D < 0 the drive share is 0 (R19), the regen share cut at the own Pr (R15), the friction share at the own Fb (R18). -/
theorem brakingShare_le_own (own : Member) (es : List PeerEntry) (b v aux lo hi : Nat) :
    (brakingShare own es b v aux lo hi).d ≤ own.pd ∧ (brakingShare own es b v aux lo hi).r ≤ own.pr
      ∧ (brakingShare own es b v aux lo hi).f ≤ own.fb :=
  ⟨Nat.zero_le _, Nat.min_le_right .., Nat.min_le_right ..⟩

theorem fade_of_ge {lo hi v : Nat} (h : hi ≤ v) : fade lo hi v = 100 := if_pos h

theorem fade_of_le {lo hi v : Nat} (hlim : lo < hi) (h : v ≤ lo) : fade lo hi v = 0 := by
  rw [fade, if_neg (by omega), if_pos h]

theorem fade_of_between {lo hi v : Nat} (hlo : lo < v) (hhi : v < hi) :
    fade lo hi v = 100 * (v - lo) / (hi - lo) := by
  rw [fade, if_neg (by omega), if_neg (by omega)]

@[simp] theorem weightSum_regenWeights (x : List Member) : weightSum (regenWeights x) = (x.map Member.pr).sum := by
  simp [weightSum, regenWeights, Function.comp_def]

theorem regenTotal_eq_min (b phi : Nat) (x : List Member) (es : List PeerEntry) (aux : Nat) :
    regenTotal b phi x es aux = min b (min (phi * (x.map Member.pr).sum / 100) (acceptanceSum es + aux)) := by
  rw [regenTotal, weightSum_regenWeights]

theorem regenTotal_eq_zero {b phi : Nat} {x : List Member} {es : List PeerEntry} {aux : Nat}
    (h : (x.map Member.pr).sum = 0 ∨ phi = 0 ∨ acceptanceSum es + aux = 0) : regenTotal b phi x es aux = 0 := by
  rw [regenTotal_eq_min]
  obtain hpr | hphi | habsorb := h
  · simp [hpr]
  · simp [hphi]
  · simp [habsorb]

/-! ### The statements settled -/

/-- Settles O11: the floor parts and the one remainder, assembled from the lemmas above. -/
theorem splitsSumToTheTotal : Obligations.SplitsSumToTheTotal := by
  intro total ws hnodup hpos
  exact ⟨sum_splitResult total hnodup hpos, splitRemainder_lt_weighted total hpos, fun m hm =>
    ⟨splitResult_of_weight_zero total ws, fun _ => splitResult_of_lower total hpos,
      splitResult_of_lowest total hpos hm⟩⟩

/-- Settles O12, by the sign of the demand. -/
theorem sharesStayWithinTheOwnCapability : Obligations.SharesStayWithinTheOwnCapability := by
  intro own es d v aux lo hi
  unfold computeShare
  split
  · exact ⟨Nat.zero_le _, Nat.zero_le _, Nat.zero_le _⟩
  split
  · exact tractionShare_le_own ..
  · exact brakingShare_le_own ..

/-- Settles O14: R13's minimum, R9's three ranges and the two default limits. -/
theorem regenTotalIsTheLeastOfItsBounds : Obligations.RegenTotalIsTheLeastOfItsBounds := by
  intro b v aux lo hi x es r cr faded
  have hmin : r = min b (min faded (acceptanceSum es + aux)) := regenTotal_eq_min ..
  refine ⟨by omega, by omega, by omega, by omega, regenTotal_eq_zero, fun hlim => ?_, by decide, by decide⟩
  exact ⟨fade_of_ge, fade_of_le hlim, fade_of_between⟩

end Sys2Proof.Machine
end

/-! # What the readers of the demand record are given

The readers' view (R42) depends on the demand record and on DEMAND_LOST alone. At an expiry (R41) and at an arrival (R40)
the record and DEMAND_LOST are written first, and what comes after them in the event, SYNC exit and withdrawal included,
leaves both as written. -/

section
namespace Sys2Proof.Machine

/-! ### The readers' view (R42, Table 2.5-2) -/

theorem State.given_of_present {s : State} (hp : s.ptb.demand.present = true) (hl : s.demandLost = false) :
    s.given = s.ptb.demand := by
  simp [State.given, givenDemand, hp, hl]

theorem State.given_of_lost {s : State} (hp : s.ptb.demand.present = true) (hl : s.demandLost = true) :
    s.given = { s.ptb.demand with d := 0, parked := false, shutdown := false, hold := false } := by
  simp [State.given, givenDemand, hp, hl]

theorem State.given_of_absent {s : State} (hp : s.ptb.demand.present = false) : s.given = DemandRecord.initial := by
  simp [State.given, givenDemand, hp]

@[simp] theorem demandOfPayload_present (words : List Word) : (demandOfPayload words).present = true := rfl

/-! ### What leaves DEMAND_LOST as it is -/

theorem State.demandLost_of_stu {s t : State} (h : t.stu = s.stu) : t.demandLost = s.demandLost := by
  simp only [State.demandLost, State.status, h]

@[simp] theorem State.putStatus_demandLost (s : State) (v : Bool) : (s.putStatus .demandLost v).demandLost = v :=
  s.putStatus_status_self _ _

@[simp] theorem State.reportShortBrake_demandLost (s : State) : s.reportShortBrake.demandLost = s.demandLost :=
  s.putStatus_status_ne _ (by decide)

@[simp] theorem State.reportShortBrake_withdraws (s : State) : s.reportShortBrake.withdraws = s.withdraws :=
  s.putStatus_withdraws _ (by decide)

/-- Withdrawal and its end leave the statuses and the Peer Table (R136). -/
theorem State.decideOp_kept {s : State} (h : s.mpt.ringSeq < seqMax) :
    KeptBut s s.decideOp [.nsq, .pins, .blu, .plu, .gsc, .sli, .stp, .mpt] := by
  rcases s.decideOp_cases with e | ⟨-, -, e⟩ | ⟨-, -, e⟩ <;> rw [e]
  · exact KeptBut.refl _ _
  · exact State.enterServing_kept h _
  · exact State.enterServing_kept h _

theorem State.settle_demandLost {s : State} (h : s.mpt.ringSeq < seqMax) : s.settle.demandLost = s.demandLost :=
  s.decideOp.compareF_demandLost.trans (State.demandLost_of_stu (State.decideOp_kept h .stu (by decide)))

theorem State.settle_ptb {s : State} (h : s.mpt.ringSeq < seqMax) : s.settle.ptb = s.ptb :=
  State.settle_kept h .ptb (by decide)

/-! ### The onset of DEMAND_LOST (R41) -/

theorem State.loseAxleDemand_cases (s : State) :
    s.loseAxleDemand = s
      ∨ s.loseAxleDemand = ((s.setShe ShareRecord.initial).setBlu s.blu.demandLostOnset).reportShortBrake := by
  unfold State.loseAxleDemand
  split
  · exact .inr rfl
  · exact .inl rfl

@[simp] theorem State.loseAxleDemand_nsq (s : State) : s.loseAxleDemand.nsq = s.nsq := by
  rcases s.loseAxleDemand_cases with h | h <;> simp [h]
@[simp] theorem State.loseAxleDemand_ptb (s : State) : s.loseAxleDemand.ptb = s.ptb := by
  rcases s.loseAxleDemand_cases with h | h <;> simp [h]
@[simp] theorem State.loseAxleDemand_demandLost (s : State) : s.loseAxleDemand.demandLost = s.demandLost := by
  rcases s.loseAxleDemand_cases with h | h <;> simp [h]
@[simp] theorem State.loseAxleDemand_withdraws (s : State) : s.loseAxleDemand.withdraws = s.withdraws := by
  rcases s.loseAxleDemand_cases with h | h <;> simp [h]

@[simp] theorem State.loseDemand_op (s : State) : s.loseDemand.nsq.op = s.nsq.op := by
  simp [State.loseDemand, State.cancelHold]

@[simp] theorem State.loseDemand_ptb (s : State) :
    s.loseDemand.ptb = { s.ptb with demandTimer := ⟨false, 50⟩ } := by
  simp [State.loseDemand]

@[simp] theorem State.loseDemand_demandLost (s : State) : s.loseDemand.demandLost = true := by
  simp [State.loseDemand]

/-- Neither DEMAND_LOST nor SHORT_BRAKE is in the withdrawing set (R136). -/
@[simp] theorem State.loseDemand_withdraws (s : State) : s.loseDemand.withdraws = s.withdraws := by
  have hset : statusIn withdrawingSet .demandLost = false := by decide
  simp [State.loseDemand, State.putStatus_withdraws _ _ hset]

theorem exec_demandTimerExpiry_of_due {s : State} (hs : s.serves = true) (hd : s.ptb.demandTimer.due 50 = true) :
    exec .demandTimerExpiry s = .next s.loseDemand.settle := by
  show execDemandTimerExpiry s = _
  simp only [execDemandTimerExpiry, hs, hd, Bool.and_self, if_true]

/-- The onset moves no node between ACTIVE and WITHDRAWN, so that the event ends with the comparison of F alone. -/
theorem Settled.settle_loseDemand {s : State} (h : Settled s) : s.loseDemand.settle = s.loseDemand.compareF :=
  h.settle_eq s.loseDemand_op s.loseDemand_withdraws

/-! ### A DEMAND arrival (R40, R43) -/

@[simp] theorem State.storeDemand_demand (s : State) (words : List Word) :
    (s.storeDemand words).ptb.demand = demandOfPayload words := rfl
@[simp] theorem State.storeDemand_demandLost (s : State) (words : List Word) :
    (s.storeDemand words).demandLost = false := State.putStatus_demandLost _ _
@[simp] theorem State.storeDemand_mpt (s : State) (words : List Word) : (s.storeDemand words).mpt = s.mpt := rfl

theorem State.computeShares_cases (s : State) :
    s.computeShares = s ∨ ∃ r, s.computeShares = (s.setShe r).reportShortBrake := by
  unfold State.computeShares
  split
  · exact .inr ⟨_, rfl⟩
  · exact .inl rfl

theorem State.rampArrives_cases (s : State) : s.rampArrives = s ∨ s.rampArrives = s.setBlu s.blu.demandArrives := by
  unfold State.rampArrives
  split
  · exact .inr rfl
  · exact .inl rfl

/-- The shutdown hold is the Node Sequencer's (R180). -/
theorem State.watchShutdown_eq_setNsq (s : State) : ∃ b, s.watchShutdown = s.setNsq b := by
  unfold State.watchShutdown
  split
  · split
    · exact ⟨s.nsq, rfl⟩
    · exact ⟨_, rfl⟩
  · exact ⟨_, rfl⟩

@[simp] theorem State.computeShares_ptb (s : State) : s.computeShares.ptb = s.ptb := by
  rcases s.computeShares_cases with h | ⟨r, h⟩ <;> simp [h]
@[simp] theorem State.computeShares_mpt (s : State) : s.computeShares.mpt = s.mpt := by
  rcases s.computeShares_cases with h | ⟨r, h⟩ <;> simp [h]
@[simp] theorem State.computeShares_demandLost (s : State) : s.computeShares.demandLost = s.demandLost := by
  rcases s.computeShares_cases with h | ⟨r, h⟩ <;> simp [h]

@[simp] theorem State.rampArrives_ptb (s : State) : s.rampArrives.ptb = s.ptb := by
  rcases s.rampArrives_cases with h | h <;> simp [h]
@[simp] theorem State.rampArrives_mpt (s : State) : s.rampArrives.mpt = s.mpt := by
  rcases s.rampArrives_cases with h | h <;> simp [h]
@[simp] theorem State.rampArrives_demandLost (s : State) : s.rampArrives.demandLost = s.demandLost := by
  rcases s.rampArrives_cases with h | h <;> simp [h]

@[simp] theorem State.watchShutdown_ptb (s : State) : s.watchShutdown.ptb = s.ptb := by
  obtain ⟨b, h⟩ := s.watchShutdown_eq_setNsq
  simp [h]
@[simp] theorem State.watchShutdown_mpt (s : State) : s.watchShutdown.mpt = s.mpt := by
  obtain ⟨b, h⟩ := s.watchShutdown_eq_setNsq
  simp [h]
@[simp] theorem State.watchShutdown_demandLost (s : State) : s.watchShutdown.demandLost = s.demandLost := by
  obtain ⟨b, h⟩ := s.watchShutdown_eq_setNsq
  simp [h]

/-! ### SYNC exit at an arrival (R178)

A flush that an event requests leaves the ring position as it is until its last page is stored (R172), so that the limit
on the ring position, which the frames of `Laws/Reach` ask for, holds at each stage of the event. -/

theorem State.requestFlush_ringSeq {s : State} (h : s.mpt.ringSeq < seqMax) (ps : List Party) :
    (s.requestFlush ps).mpt.ringSeq = s.mpt.ringSeq := by
  by_cases ho : s.mpt.op = .none
  · rw [State.requestFlush_idle ho, State.launchFlush_eq h]; rfl
  · rw [State.requestFlush_busy ho]; rfl

theorem State.testStandby_ringSeq {s : State} (h : s.mpt.ringSeq < seqMax) :
    s.testStandby.mpt.ringSeq = s.mpt.ringSeq := by
  rcases s.testStandby_cases with e | e <;> rw [e]
  exact State.requestFlush_ringSeq h _

@[simp] theorem State.reformOwn_mpt (s : State) : s.reformOwn.mpt = s.mpt := s.reformOwn_kept .mpt (by decide)

@[simp] theorem State.enterEngine_mpt (s : State) (e : EngineState) : (s.enterEngine e).mpt = s.mpt :=
  s.enterEngine_kept e .mpt (by decide)

theorem State.engineOff_ringSeq {s : State} (h : s.mpt.ringSeq < seqMax) (n : Nat) :
    (s.engineOff n).mpt.ringSeq = s.mpt.ringSeq := by
  unfold State.engineOff
  rw [State.testStandby_ringSeq (by simpa using h)]
  simp

theorem State.engineWithdrawn_ringSeq {s : State} (h : s.mpt.ringSeq < seqMax) :
    s.engineWithdrawn.mpt.ringSeq = s.mpt.ringSeq := by
  have hcool : s.engineCooldown.mpt = s.mpt := s.engineCooldown_kept .mpt (by decide)
  unfold State.engineWithdrawn
  split
  · rw [hcool]
  · rw [hcool]
  · exact State.engineOff_ringSeq h _
  all_goals rfl

theorem State.enterServing_ringSeq {s : State} (h : s.mpt.ringSeq < seqMax) (op : OpState) :
    (s.enterServing op).mpt.ringSeq = s.mpt.ringSeq := by
  unfold State.enterServing
  dsimp only
  split
  · rw [State.engineWithdrawn_ringSeq (by simpa using h)]
    simp
  · simp

/-- Entry to ACTIVE or WITHDRAWN with the STANDBY conditions tested at its end. -/
theorem State.enterServing_testStandby_ringSeq {s : State} (h : s.mpt.ringSeq < seqMax) (op : OpState) :
    (s.enterServing op).testStandby.mpt.ringSeq = s.mpt.ringSeq := by
  have hserving := State.enterServing_ringSeq h op
  rw [State.testStandby_ringSeq (hserving.trans_lt h), hserving]

theorem State.enterServing_testStandby_kept {s : State} (h : s.mpt.ringSeq < seqMax) (op : OpState) :
    KeptBut s (s.enterServing op).testStandby [.nsq, .pins, .blu, .plu, .gsc, .sli, .stp, .mpt] :=
  have htest := State.testStandby_kept ((State.enterServing_ringSeq h op).trans_lt h)
  (State.enterServing_kept h op).trans (htest.mono (by decide))

theorem State.leaveSync_ringSeq {s : State} (h : s.mpt.ringSeq < seqMax) :
    s.leaveSync.mpt.ringSeq = s.mpt.ringSeq :=
  State.enterServing_testStandby_ringSeq (s := s.setMpt { s.mpt with flush := Timer.started }) h _

/-- SYNC exit leaves the statuses and the Peer Table. -/
theorem State.leaveSync_kept {s : State} (h : s.mpt.ringSeq < seqMax) :
    KeptBut s s.leaveSync [.nsq, .pins, .blu, .plu, .gsc, .sli, .stp, .mpt] := by
  have hflush : KeptBut s (s.setMpt { s.mpt with flush := Timer.started })
      [.nsq, .pins, .blu, .plu, .gsc, .sli, .stp, .mpt] := (s.setMpt_kept _).mono (by decide)
  have hserving := State.enterServing_testStandby_kept (s := s.setMpt { s.mpt with flush := Timer.started }) h
    (if s.withdraws then .withdrawn else .active)
  exact hflush.trans hserving

theorem State.demandEndsSync_cases (s : State) : s.demandEndsSync = s ∨ s.demandEndsSync = s.leaveSync := by
  unfold State.demandEndsSync
  split
  · exact .inr rfl
  · exact .inl rfl

theorem State.demandEndsSync_ringSeq {s : State} (h : s.mpt.ringSeq < seqMax) :
    s.demandEndsSync.mpt.ringSeq = s.mpt.ringSeq := by
  rcases s.demandEndsSync_cases with e | e <;> rw [e]
  exact State.leaveSync_ringSeq h

theorem State.demandEndsSync_kept {s : State} (h : s.mpt.ringSeq < seqMax) :
    KeptBut s s.demandEndsSync [.nsq, .pins, .blu, .plu, .gsc, .sli, .stp, .mpt] := by
  rcases s.demandEndsSync_cases with e | e <;> rw [e]
  · exact KeptBut.refl _ _
  · exact State.leaveSync_kept h

/-! ### The arrival taken whole -/

section
variable {s : State} (words : List Word) (h : s.mpt.ringSeq < seqMax)
include h

theorem State.takeDemand_ringSeq : (s.takeDemand words).mpt.ringSeq = s.mpt.ringSeq := by
  unfold State.takeDemand
  rw [State.demandEndsSync_ringSeq (by simpa using h)]
  simp

theorem State.takeDemand_demand : (s.takeDemand words).ptb.demand = demandOfPayload words := by
  unfold State.takeDemand
  rw [State.demandEndsSync_kept (by simpa using h) .ptb (by decide)]
  simp

theorem State.takeDemand_demandLost : (s.takeDemand words).demandLost = false := by
  unfold State.takeDemand
  rw [State.demandLost_of_stu (State.demandEndsSync_kept (by simpa using h) .stu (by decide))]
  simp

theorem State.settle_takeDemand_demand : (s.takeDemand words).settle.ptb.demand = demandOfPayload words := by
  rw [State.settle_ptb (by rw [State.takeDemand_ringSeq words h]; exact h), State.takeDemand_demand words h]

theorem State.settle_takeDemand_demandLost : (s.takeDemand words).settle.demandLost = false := by
  rw [State.settle_demandLost (by rw [State.takeDemand_ringSeq words h]; exact h), State.takeDemand_demandLost words h]

end

/-- The end of a good frame is the receiver's, and CLASH's where its source is the node's own address (R142, R146). -/
theorem State.goodFrameEnds_kept (s : State) (src : Address) : KeptBut s (s.goodFrameEnds src) [.sli, .stu] := by
  have hends : KeptBut s s.frameEnds [.sli, .stu] := (s.setSli_kept _).mono (by decide)
  unfold State.goodFrameEnds
  dsimp only
  split
  · exact hends.putStatus (by decide) _ _
  · exact hends

theorem State.goodFrameEnds_serves (s : State) (src : Address) : (s.goodFrameEnds src).serves = s.serves :=
  congrArg (fun b => b.op.serves) (s.goodFrameEnds_kept src .nsq (by decide))

/-- A frame that meets R39 is taken where the node serves. -/
theorem exec_demandArrival_of_serves {s : State} {words : List Word} (hr : s.receives = true) (hs : s.serves = true)
    (hlen : words.length = 4) :
    exec (.demandArrival 0 words) s = .next ((s.goodFrameEnds 0).takeDemand words).settle := by
  show execDemandArrival 0 words s = _
  have hcarried : payloadCarried words = true := by simp [payloadCarried, hlen]
  have hcounts : demandCounts 0 words = true := by simp [demandCounts, hlen]
  simp only [execDemandArrival, hr, hcarried, hcounts, State.goodFrameEnds_serves, hs, if_true]

/-! ### The statement settled -/

/-- The record survives the expiry that brings DEMAND_LOST (R41, R42). -/
theorem demandTimerExpiry_keeps_demand {s : State} {e : Nat} (hset : Settled s) (hs : s.serves = true)
    (ht : s.ptb.demandTimer = ⟨true, e⟩) (he : 50 ≤ e) :
    ∃ t, exec .demandTimerExpiry s = .next t ∧ t.demandLost = true ∧ t.ptb.demand = s.ptb.demand := by
  have hdue : s.ptb.demandTimer.due 50 = true := by simp [ht, Timer.due, he]
  refine ⟨_, exec_demandTimerExpiry_of_due hs hdue, ?_, ?_⟩
  · rw [hset.settle_loseDemand, State.compareF_demandLost, State.loseDemand_demandLost]
  · rw [hset.settle_loseDemand, State.compareF_ptb, State.loseDemand_ptb]

/-- The readers are given the record as the arrival has just written it (R40, R43). -/
theorem demandArrival_given {s : State} {words : List Word} (hr : s.receives = true) (hs : s.serves = true)
    (hlen : words.length = 4) (h : s.mpt.ringSeq < seqMax) :
    ∃ t, exec (.demandArrival 0 words) s = .next t ∧ t.demandLost = false ∧ t.given = t.ptb.demand := by
  have hseq : (s.goodFrameEnds 0).mpt.ringSeq < seqMax := by
    rw [s.goodFrameEnds_kept 0 .mpt (by decide)]; exact h
  have hlost := State.settle_takeDemand_demandLost words hseq
  have hpresent : ((s.goodFrameEnds 0).takeDemand words).settle.ptb.demand.present = true := by
    rw [State.settle_takeDemand_demand words hseq, demandOfPayload_present]
  exact ⟨_, exec_demandArrival_of_serves hr hs hlen, hlost, State.given_of_present hpresent hlost⟩

/-- Settles O9: Table 2.5-2's three cases, then the expiry and the arrival. -/
theorem readersAreGivenSafeValues : Obligations.ReadersAreGivenSafeValues := by
  intro s
  refine ⟨State.given_of_present, fun hp hl => ?_, fun hp => ?_,
    fun e hset hs ht he => demandTimerExpiry_keeps_demand hset hs ht he,
    fun w1 w2 w3 w4 hr hs h => demandArrival_given hr hs rfl h⟩
  · rw [State.given_of_lost hp hl]
    exact ⟨rfl, rfl, rfl, rfl, rfl, rfl, rfl⟩
  · rw [State.given_of_absent hp]
    exact ⟨rfl, rfl, rfl, rfl, rfl, rfl, rfl⟩

end Sys2Proof.Machine
end

/-! # What a command can do, move by move

Every command is a run of small moves: the update of one block within the bounds that the laws of spec/ set it, or one of the
composite operations that a law needs whole (entry to ACTIVE or WITHDRAWN, STANDBY entry, a reset, a wear item replaced).
A law that every move keeps is kept by every command (`exec_moves`). The few effects that reach the EEPROM, the image or the
ring position come first in their commands and are told apart from the moves as the command's opening. -/

section
namespace Sys2Proof.Machine

/-! ### The moves -/

/-- What every command but TICK and the crank timer's expiry makes of the scheduler (R94 to R96): no reading joins the ring,
the engine is not brought into CRANKING, and an engine in OFF has entered it anew with a dwell of 20 s or has stayed there. -/
structure Genset.Drifts (a b : Genset) : Prop where
  starts : b.starts = a.starts
  clock : b.clock = a.clock
  cranking : b.engine = .cranking → a.engine = .cranking
  off : b.engine = .off → b.off.elapsed = 0 ∧ b.dwell = 20
    ∨ a.engine = .off ∧ b.dwell = a.dwell ∧ b.off.elapsed = a.off.elapsed

/-- The Memory Port with its EEPROM, image and ring position as they were; its operation is as before, ended, or a service
request's on a word of the image (R167, R173). -/
structure MemoryPort.Keeps (a b : MemoryPort) : Prop where
  copy : b.copy = a.copy
  ringSlot : b.ringSlot = a.ringSlot
  ringSeq : b.ringSeq = a.ringSeq
  eeprom : b.eeprom = a.eeprom
  torn : b.torn = a.torn
  op : b.op = a.op ∨ b.op = .none ∨ (∃ p n, b.op = .configRead p n)
    ∨ ∃ p n mask value, b.op = .configWrite p n mask value ∧ n ≤ 62

/-- A WEAR_RESET's effect before its flush is requested (R125). -/
def State.emptyItem (s : State) (item : Nat) : State :=
  let w := s.wau.resetItem s.role item
  let s := (s.setWau w).putStatus .wearNear (anyNear w.items)
  match s.role with
  | some .axle => if item = 1 then s.reformOwn else s
  | some .pack => if item = 1 then s.formPackLimits else s
  | some .genset | none => s

theorem State.carryWearReset_eq (s : State) (item place : Nat) :
    s.carryWearReset item place = (s.emptyItem item).requestFlush [.wearReset place item] := rfl

/-- ACTIVE or WITHDRAWN taken up: the operating state, the discrete lines and the own capability record (R136, R137). -/
def State.takeOp (s : State) (op : OpState) : State :=
  ((s.setNsq { s.nsq with op := op }).setPins { s.pins with ready := true, traction := op == .active }).reformOwn

/-- One move of the command `c`. -/
inductive Move (c : Instr) : State → State → Prop where
  | nsq (s : State) (b : Sequencer) (op : b.op = s.nsq.op) (sample : b.sample = s.nsq.sample)
      (reset : b.pendingReset = s.nsq.pendingReset ∨ s.serves = true ∨ s.nsq.pendingReset ≠ .none) : Move c s (s.setNsq b)
  | pins (s : State) (b : PinLevels) (ready : b.ready = s.pins.ready) (traction : b.traction = s.pins.traction) :
      Move c s (s.setPins b)
  | stu (s : State) (b : StatusUnit) (fault : statusIn b.set .partnerFault = s.status .partnerFault) : Move c s (s.setStu b)
  | ptb (s : State) (b : PeerTable) (table : TableLaw s → TableLaw (s.setPtb b)) : Move c s (s.setPtb b)
  | she (s : State) (b : ShareRecord) : Move c s (s.setShe b)
  | blu (s : State) (b : BlendUnit) (own : b.own = s.blu.own) (factor : FactorLaw s → FactorLaw (s.setBlu b)) :
      Move c s (s.setBlu b)
  | plu (s : State) (b : PackUnit) (own : b.own = s.plu.own) (formed : b.paF = s.plu.paF) : Move c s (s.setPlu b)
  | gsc (s : State) (b : Genset) (po : b.ownPo = s.gsc.ownPo) (pa : b.ownPa = s.gsc.ownPa)
      (drifts : c = .tick ∨ c = .crankTimerExpiry ∨ s.gsc.Drifts b) : Move c s (s.setGsc b)
  | wau (s : State) (b : Wear) (items : b.items = s.wau.items) (q : b.q = s.wau.q) (dw : b.dw = s.wau.dw) :
      Move c s (s.setWau b)
  | sli (s : State) (b : LineUnit) (queue : QueueLaw s → QueueLaw (s.setSli b)) : Move c s (s.setSli b)
  | stp (s : State) (b : StagePort) (held0 : b.held0 = s.stp.held0) (held1 : b.held1 = s.stp.held1) : Move c s (s.setStp b)
  | mpt (s : State) (b : MemoryPort) (keeps : s.mpt.Keeps b) : Move c s (s.setMpt b)
  | free (s : State) (n : Nat) : Move c s (s.setFree n)
  | attempt (s : State) (p : Snapshot) (ps : List Party) (n : Nat) (job : FlushJob) (hn : n = 1 ∨ n = 2)
      (hj : attemptJob s.mpt p ps n = some job) : Move c s (s.setMpt (s.mpt.beginAttempt job))
  | reform (s : State) : Move c s s.reformOwn
  | takeOp (s : State) (op : OpState) (serves : s.serves = true) (hop : op = .active ∨ op = .withdrawn) :
      Move c s (s.takeOp op)
  | standby (s : State) (ready : s.standbyReady = true) : Move c s s.enterStandby
  | reboot (s : State) (ended : s.abandonOperation = s) : Move c s (s.hardReset .reboot)
  | restart (s : State) (pending : s.nsq.pendingReset = .restart) : Move c s s.restartReset
  | wake (s : State) (standby : s.nsq.op = .standby) : Move c s s.wakeReset
  | putItem (s : State) (i : Nat) (x : WearItem) (hi : 1 ≤ i)
      (grows : (itemAt s.wau.items i).acc ≤ accMax → (itemAt s.wau.items i).acc ≤ x.acc ∧ x.acc ≤ accMax) :
      Move c s (s.putItem i x)
  | emptyItem (s : State) (i : Nat) (hi : 1 ≤ i) (hc : ∃ src target args, c = .wearReset src target args) :
      Move c s (s.emptyItem i)
  | packLimits (s : State) : Move c s s.formPackLimits
  | judge0 (s : State) (role : Role) (x : OwnReading) (record : List Byte) (hc : c = .exchangeCompletion record) :
      Move c s (s.judge0 role x record)
  | judge1 (s : State) (role : Role) (record : List Byte) (hc : c = .exchangeCompletion record) :
      Move c s (s.judge1 role record)

/-- A run of moves. -/
def Moves (c : Instr) : State → State → Prop := Relation.ReflTransGen (Move c)

section
variable {c : Instr} {s t u : State}

theorem Moves.refl (s : State) : Moves c s s := Relation.ReflTransGen.refl
theorem Moves.trans (h : Moves c s t) (k : Moves c t u) : Moves c s u := Relation.ReflTransGen.trans h k

/-- The later moves first, as the operations of a meaning are nested. -/
theorem Moves.after (k : Moves c t u) (h : Moves c s t) : Moves c s u := h.trans k
theorem Moves.move (h : Moves c s t) (k : Move c t u) : Moves c s u := Relation.ReflTransGen.tail h k
theorem Move.moves (h : Move c s t) : Moves c s t := Relation.ReflTransGen.single h

/-- A law that every move keeps is kept by a run of moves. -/
theorem Moves.induct {P : State → Prop} (h : Moves c s t) (hs : P s) (step : ∀ a b, Move c a b → P a → P b) : P t := by
  induction h with
  | refl => exact hs
  | tail _ hm ih => exact step _ _ hm ih

/-! ### Moves that need no guard -/

theorem Moves.setNsq (s : State) (b : Sequencer) (op : b.op = s.nsq.op) (sample : b.sample = s.nsq.sample)
    (reset : b.pendingReset = s.nsq.pendingReset ∨ s.serves = true ∨ s.nsq.pendingReset ≠ .none) :
    Moves c s (s.setNsq b) := (Move.nsq s b op sample reset).moves

theorem Moves.setPins (s : State) (b : PinLevels) (ready : b.ready = s.pins.ready) (traction : b.traction = s.pins.traction) :
    Moves c s (s.setPins b) := (Move.pins s b ready traction).moves

theorem Moves.setStu (s : State) (b : StatusUnit) (fault : statusIn b.set .partnerFault = s.status .partnerFault) :
    Moves c s (s.setStu b) := (Move.stu s b fault).moves

theorem Moves.setShe (s : State) (b : ShareRecord) : Moves c s (s.setShe b) := (Move.she s b).moves

/-- The Blend Unit but for its own record and its droop factors. -/
theorem Moves.setBlu (s : State) (b : BlendUnit) (own : b.own = s.blu.own) (gd : b.gd = s.blu.gd) (gr : b.gr = s.blu.gr) :
    Moves c s (s.setBlu b) :=
  (Move.blu s b own fun h => by simpa only [FactorLaw, State.setBlu_blu, gd, gr] using h).moves

theorem Moves.setPlu (s : State) (b : PackUnit) (own : b.own = s.plu.own) (formed : b.paF = s.plu.paF) :
    Moves c s (s.setPlu b) := (Move.plu s b own formed).moves

theorem Moves.setGsc (s : State) (b : Genset) (po : b.ownPo = s.gsc.ownPo) (pa : b.ownPa = s.gsc.ownPa)
    (h : c = .tick ∨ c = .crankTimerExpiry ∨ s.gsc.Drifts b) : Moves c s (s.setGsc b) := (Move.gsc s b po pa h).moves

theorem Moves.setWau (s : State) (b : Wear) (items : b.items = s.wau.items) (q : b.q = s.wau.q) (dw : b.dw = s.wau.dw) :
    Moves c s (s.setWau b) := (Move.wau s b items q dw).moves

theorem Moves.setStp (s : State) (b : StagePort) (held0 : b.held0 = s.stp.held0) (held1 : b.held1 = s.stp.held1) :
    Moves c s (s.setStp b) := (Move.stp s b held0 held1).moves

/-- The Memory Port but for its EEPROM, image, ring position and operation. -/
theorem Moves.setMpt (s : State) (b : MemoryPort) (copy : b.copy = s.mpt.copy) (slot : b.ringSlot = s.mpt.ringSlot)
    (seq : b.ringSeq = s.mpt.ringSeq) (eeprom : b.eeprom = s.mpt.eeprom) (torn : b.torn = s.mpt.torn)
    (op : b.op = s.mpt.op) : Moves c s (s.setMpt b) := (Move.mpt s b ⟨copy, slot, seq, eeprom, torn, .inl op⟩).moves

theorem Moves.putStatus (s : State) {x : Status} (v : Bool) (h : x ≠ .partnerFault) : Moves c s (s.putStatus x v) :=
  Moves.setStu s _ ((s.putStatus_status x .partnerFault v).trans (if_neg h))

theorem Moves.setSli_replies (s : State) (b : LineUnit) (h : b.replies = s.sli.replies) : Moves c s (s.setSli b) :=
  (Move.sli s b fun hq => by simpa only [QueueLaw, State.setSli_sli, h] using hq).moves

theorem Moves.setPtb_entries (s : State) (b : PeerTable) (h : b.entries = s.ptb.entries) : Moves c s (s.setPtb b) :=
  (Move.ptb s b fun hq => by simpa only [TableLaw, State.setPtb_ptb, State.setPtb_ownAddress, h] using hq).moves

theorem Moves.requestPrompt (s : State) : Moves c s s.requestPrompt := Moves.setSli_replies _ _ rfl
theorem Moves.writeSlot0 (s : State) (p : Setpoint) : Moves c s (s.writeSlot0 p) := Moves.setStp s _ rfl rfl
theorem Moves.writeSlot1 (s : State) (p : Setpoint) : Moves c s (s.writeSlot1 p) := Moves.setStp s _ rfl rfl
theorem Moves.frameEnds (s : State) : Moves c s s.frameEnds := Moves.setSli_replies _ _ rfl
theorem Moves.pinStraps (s : State) (p : Straps) : Moves c s (s.pinStraps p) := Moves.setPins s _ rfl rfl

/-- Putting statuses, prompts and fields that no law reads. -/
theorem Moves.compareF (s : State) : Moves c s s.compareF := by
  have h : Moves c s (s.setStu { s.stu with fValue := if s.formsF then s.fBit else s.stu.fValue }) :=
    Moves.setStu s _ rfl
  rcases s.compareF_cases with e | e <;> rw [e]
  · exact h
  · exact h.trans (Moves.requestPrompt _)

/-! ### Flushes -/

/-- Forming a reply leaves the places in use as they are (R148). -/
theorem formReply_places (rs : List ReplyPlace) (n : Nat) (r : ReplyResult) (d : List Word) :
    (formReply rs n r d).map ReplyPlace.place = rs.map ReplyPlace.place := by
  simp only [formReply, List.map_map]
  apply List.map_congr_left
  intro x _
  simp only [Function.comp]
  split <;> rfl

/-- The queue's law is about the places in use alone. -/
theorem queueLaw_iff_places (s : State) :
    QueueLaw s ↔ (s.sli.replies.map ReplyPlace.place).length ≤ 3 ∧ (s.sli.replies.map ReplyPlace.place).Nodup
      ∧ ∀ n ∈ s.sli.replies.map ReplyPlace.place, 1 ≤ n ∧ n ≤ 3 := by
  simp [QueueLaw]

/-- Places that go, or stay in their order, keep the queue's law. -/
theorem QueueLaw.of_sublist {s t : State}
    (h : (t.sli.replies.map ReplyPlace.place).Sublist (s.sli.replies.map ReplyPlace.place)) (hs : QueueLaw s) :
    QueueLaw t := by
  rw [queueLaw_iff_places] at hs ⊢
  obtain ⟨hlen, hnodup, hrange⟩ := hs
  exact ⟨h.length_le.trans hlen, hnodup.sublist h, fun n hn => hrange n (h.subset hn)⟩

theorem Moves.setSli_places (s : State) (b : LineUnit)
    (h : (b.replies.map ReplyPlace.place).Sublist (s.sli.replies.map ReplyPlace.place)) : Moves c s (s.setSli b) :=
  (Move.sli s b (QueueLaw.of_sublist h)).moves

theorem Moves.reply (s : State) (n : Nat) (r : ReplyResult) (d : List Word) : Moves c s (s.reply n r d) :=
  Moves.setSli_places s _ (by rw [formReply_places])

theorem Moves.replyTo (s : State) (n : Option Nat) (r : ReplyResult) (d : List Word) : Moves c s (s.replyTo n r d) := by
  cases n with
  | none => exact Moves.refl _
  | some n => exact Moves.reply _ _ _ _

/-- What stands on the EEPROM while the parties of a flush are told: nothing, or the boot load of a REBOOT among them. -/
def State.flushEnded (s : State) : Prop := s.mpt.op = .none ∨ s.mpt.op = .bootLoad

theorem State.flushEnded.abandon (h : s.flushEnded) : s.abandonOperation = s := by
  unfold State.abandonOperation
  rcases h with h | h <;> rw [h]

/-- STANDBY entry stops the flush timer and leaves the rest of the Memory Port (R181). -/
theorem State.enterStandby_mpt (s : State) : s.enterStandby.mpt = { s.mpt with flush := s.mpt.flush.halt } := by
  have h : ∀ t : State, t.roleStandby.mpt = t.mpt := fun t => t.roleStandby_kept .mpt (by decide)
  unfold State.enterStandby
  dsimp only
  split
  · simp [h]
  · rw [State.beginFinal_kept _ .mpt (by decide)]; simp [h]

theorem State.hardReset_flushEnded (s : State) (k : ResetKind) : (s.hardReset k).flushEnded := by
  unfold State.hardReset
  split
  · exact .inr rfl
  · exact .inl rfl

theorem State.reportParty_flushEnded (h : s.flushEnded) (ok : Bool) (p : Party) : (s.reportParty ok p).flushEnded := by
  cases p with
  | wearReset place item => exact h
  | standby =>
    show State.flushEnded (if s.standbyReady then s.enterStandby else s)
    split
    · rw [State.flushEnded, State.enterStandby_mpt]; exact h
    · exact h
  | reboot => exact s.hardReset_flushEnded _

theorem Moves.reportParty (h : s.flushEnded) (ok : Bool) (p : Party) : Moves c s (s.reportParty ok p) := by
  cases p with
  | wearReset place item => exact Moves.reply _ _ _ _
  | standby =>
    show Moves c s (if s.standbyReady then s.enterStandby else s)
    split
    · next hr => exact (Move.standby s hr).moves
    · exact Moves.refl _
  | reboot => exact (Move.reboot s h.abandon).moves

theorem Moves.reportFlush (h : s.flushEnded) (ok : Bool) (ps : List Party) : Moves c s (s.reportFlush ok ps) := by
  unfold State.reportFlush
  induction ps generalizing s with
  | nil => exact Moves.refl _
  | cons p ps ih => exact (Moves.reportParty h ok p).trans (ih (State.reportParty_flushEnded h ok p))

/-- The operation in flight ended (R167). -/
theorem Moves.endOp (s : State) (b : MemoryPort) (h : b = { s.mpt with op := .none, poll := Timer.stopped }) :
    Moves c s (s.setMpt b) :=
  (Move.mpt s b (by subst h; exact ⟨rfl, rfl, rfl, rfl, rfl, .inr (.inl rfl)⟩)).moves

theorem Moves.concludeFlush (s : State) (ok : Bool) (ps : List Party) : Moves c s (s.concludeFlush ok ps) := by
  unfold State.concludeFlush
  dsimp only
  refine (Moves.endOp s _ rfl).trans ?_
  split
  · exact Moves.reportFlush (.inl rfl) _ _
  · exact (Moves.putStatus _ _ (by decide)).trans (Moves.reportFlush (.inl rfl) _ _)

theorem Moves.launchFlush (s : State) (ps : List Party) : Moves c s (s.launchFlush ps) := by
  unfold State.launchFlush
  split
  · next job h => exact (Move.attempt s _ _ 1 job (.inl rfl) h).moves
  · exact Moves.concludeFlush _ _ _

theorem Moves.setPending_flush (s : State) (p : Option (List Party)) :
    Moves c s (s.setMpt { s.mpt with pendingFlush := p }) :=
  Moves.setMpt s _ rfl rfl rfl rfl rfl rfl

theorem Moves.startPending (s : State) : Moves c s s.startPending := by
  unfold State.startPending
  split
  · split
    · exact (Moves.setPending_flush s _).trans (Moves.launchFlush _ _)
    · exact Moves.refl _
  · exact Moves.refl _

theorem Moves.requestFlush (s : State) (ps : List Party) : Moves c s (s.requestFlush ps) := by
  unfold State.requestFlush
  split
  · exact Moves.launchFlush _ _
  · exact Moves.setPending_flush _ _

theorem Moves.endFlush (s : State) (ok : Bool) (ps : List Party) : Moves c s (s.endFlush ok ps) :=
  (Moves.concludeFlush s ok ps).trans (Moves.startPending _)

theorem Moves.endOperation (s : State) : Moves c s s.endOperation :=
  (Moves.endOp s _ rfl).trans (Moves.startPending _)

theorem Moves.testStandby (s : State) : Moves c s s.testStandby := by
  rcases s.testStandby_cases with h | h <;> rw [h]
  · exact Moves.requestFlush _ _
  · exact Moves.refl _

theorem Moves.proceedReset (s : State) : Moves c s s.proceedReset := by
  unfold State.proceedReset
  split
  · next h => exact (Move.restart s h).moves
  · next h =>
    refine Moves.trans (Moves.setNsq s _ ?_ ?_ (.inr (.inr (by simp [h])))) (Moves.requestFlush _ _) <;> rfl
  · exact Moves.refl _
  · exact Moves.refl _

/-! ### The engine and the operating state -/

/-- A change of engine state that the scheduler may make outside TICK and the crank timer's expiry. -/
theorem Moves.enterEngine {g : Genset} {e : EngineState} (s : State) (po : g.ownPo = s.gsc.ownPo)
    (pa : g.ownPa = s.gsc.ownPa) (h : c = .tick ∨ c = .crankTimerExpiry ∨ s.gsc.Drifts (g.enter e)) :
    Moves c s ((s.setGsc g).enterEngine e) := by
  have h1 : Moves c s ((s.setGsc g).setGsc (g.enter e)) := (Move.gsc s (g.enter e) po pa h).moves
  exact (h1.trans (Moves.writeSlot1 _ _)).trans (Move.reform _).moves

theorem Moves.engineCooldown (s : State) : Moves c s s.engineCooldown :=
  Moves.enterEngine s rfl rfl (.inr (.inr ⟨rfl, rfl, nofun, nofun⟩))

theorem Moves.engineWarming (s : State) : Moves c s s.engineWarming :=
  Moves.enterEngine s rfl rfl (.inr (.inr ⟨rfl, rfl, nofun, nofun⟩))

theorem Moves.engineRunning (s : State) : Moves c s s.engineRunning :=
  Moves.enterEngine s rfl rfl (.inr (.inr ⟨rfl, rfl, nofun, nofun⟩))

/-- Entry to OFF, with a dwell of 20 s but at the crank timer's expiry (R95, R96). -/
theorem Moves.engineOff_dwell (s : State) {n : Nat} (h : c = .tick ∨ c = .crankTimerExpiry ∨ n = 20) :
    Moves c s (s.engineOff n) := by
  unfold State.engineOff
  dsimp only
  refine Moves.trans ?_ (Moves.testStandby _)
  refine Moves.enterEngine s rfl rfl ?_
  rcases h with h | h | rfl
  · exact .inl h
  · exact .inr (.inl h)
  · exact .inr (.inr ⟨rfl, rfl, nofun, fun _ => .inl ⟨rfl, rfl⟩⟩)

theorem Moves.engineOff (s : State) : Moves c s (s.engineOff 20) := Moves.engineOff_dwell s (.inr (.inr rfl))

theorem Moves.engineWithdrawn (s : State) : Moves c s s.engineWithdrawn := by
  unfold State.engineWithdrawn
  split
  · exact Moves.engineCooldown _
  · exact Moves.engineCooldown _
  · exact Moves.engineOff _
  all_goals exact Moves.refl _

/-- Entry to ACTIVE or WITHDRAWN is the operating state taken up, a prompt STATE and the engine's part. -/
theorem State.enterServing_eq (s : State) (op : OpState) :
    s.enterServing op = if op = .withdrawn ∧ (s.takeOp op).requestPrompt.role = some .genset
      then (s.takeOp op).requestPrompt.engineWithdrawn else (s.takeOp op).requestPrompt := rfl

theorem Moves.enterServing (hs : s.serves = true) {op : OpState} (hop : op = .active ∨ op = .withdrawn) :
    Moves c s (s.enterServing op) := by
  have h : Moves c s (s.takeOp op).requestPrompt := (Move.takeOp s op hs hop).moves.trans (Moves.requestPrompt _)
  rw [State.enterServing_eq]
  split
  · exact h.trans (Moves.engineWithdrawn _)
  · exact h

theorem Moves.leaveSync (hs : s.serves = true) : Moves c s s.leaveSync := by
  unfold State.leaveSync
  have h : Moves c s (s.setMpt { s.mpt with flush := Timer.started }) :=
    Moves.setMpt s _ rfl rfl rfl rfl rfl rfl
  have hs' : (s.setMpt { s.mpt with flush := Timer.started }).serves = true := hs
  refine (h.trans (Moves.enterServing hs' ?_)).trans (Moves.testStandby _)
  split
  · exact .inr rfl
  · exact .inl rfl

theorem State.serves_of_op {op : OpState} (h : s.nsq.op = op) (hop : op.serves = true) : s.serves = true := by
  rw [State.serves, h, hop]

theorem Moves.decideOp (s : State) : Moves c s s.decideOp := by
  rcases s.decideOp_cases with e | ⟨h, -, e⟩ | ⟨h, -, e⟩ <;> rw [e]
  · exact Moves.refl _
  · exact Moves.enterServing (State.serves_of_op h rfl) (.inr rfl)
  · exact Moves.enterServing (State.serves_of_op h rfl) (.inl rfl)

theorem Moves.settle (s : State) : Moves c s s.settle := (Moves.decideOp s).trans (Moves.compareF _)

theorem Moves.settled (h : Moves c s t) : Moves c s t.settle := h.trans (Moves.settle t)

end

end Sys2Proof.Machine
end

section
namespace Sys2Proof.Machine

/-! ### The moves of each meaning -/

section
variable {c : Instr} {s t u : State}

/-! #### Frames -/

theorem Moves.badFrameEnds (s : State) : Moves c s s.badFrameEnds := by
  unfold State.badFrameEnds
  dsimp only
  have h : Moves c s (s.frameEnds.setSli { s.frameEnds.sli with rxErrors := min (s.sli.rxErrors + 1) 65535 }) :=
    (Moves.frameEnds s).trans (Moves.setSli_replies _ _ rfl)
  refine Moves.settled ?_
  split
  · exact h.trans (Moves.putStatus _ _ (by decide))
  · exact h

theorem Moves.goodFrameEnds (s : State) (src : Address) : Moves c s (s.goodFrameEnds src) := by
  unfold State.goodFrameEnds
  dsimp only
  split
  · exact (Moves.frameEnds s).trans (Moves.putStatus _ _ (by decide))
  · exact Moves.frameEnds s

theorem Moves.reportShortBrake (s : State) : Moves c s s.reportShortBrake := Moves.putStatus _ _ (by decide)

theorem Moves.takeDemand (s : State) (words : List Word) : Moves c s (s.takeDemand words) := by
  have h1 : Moves c s (s.storeDemand words) :=
    Moves.after (Moves.putStatus _ _ (by decide)) (Moves.setPtb_entries s _ rfl)
  have h2 : ∀ t : State, Moves c t t.computeShares := fun t => by
    rcases t.computeShares_cases with h | ⟨r, h⟩ <;> rw [h]
    · exact Moves.refl _
    · exact (Moves.setShe _ _).trans (Moves.reportShortBrake _)
  have h3 : ∀ t : State, Moves c t t.rampArrives := fun t => by
    rcases t.rampArrives_cases with h | h <;> rw [h]
    · exact Moves.refl _
    · unfold BlendUnit.demandArrives
      split <;> exact Moves.setBlu _ _ rfl rfl rfl
  have h4 : ∀ t : State, Moves c t t.watchShutdown := fun t => by
    unfold State.watchShutdown State.cancelHold
    split
    · split
      · exact Moves.refl _
      · exact Moves.setNsq _ _ rfl rfl (.inl rfl)
    · exact Moves.setNsq _ _ rfl rfl (.inl rfl)
  have h5 : ∀ t : State, Moves c t t.demandEndsSync := fun t => by
    unfold State.demandEndsSync
    split
    · next h => exact Moves.leaveSync (State.serves_of_op h.1 rfl)
    · exact Moves.refl _
  exact (((h1.trans (h2 _)).trans (h3 _)).trans (h4 _)).trans (h5 _)

theorem exec_demandArrival_moves (src : Address) (words : List Word) (s : State) :
    ∃ t, exec (.demandArrival src words) s = .next t ∧ Moves c s t := by
  refine ⟨_, rfl, ?_⟩
  split
  · split
    · dsimp only
      have h := Moves.goodFrameEnds (c := c) s src
      split
      · split
        · exact (h.trans (Moves.takeDemand _ _)).settled
        · split
          · next hw => exact h.move (.wake _ hw.1)
          · exact h.settled
      · exact h.settled
    · exact Moves.badFrameEnds s
  · exact Moves.refl _

/-! #### The peer table (R25 to R33) -/

/-- A table whose addresses are as before keeps the law of R31. -/
theorem TableLaw.of_addresses {s t : State} (h : t.ptb.entries.map PeerEntry.address = s.ptb.entries.map PeerEntry.address)
    (ha : t.ownAddress = s.ownAddress) (hs : TableLaw s) : TableLaw t := by
  obtain ⟨hlen, hnodup, hown⟩ := hs
  refine ⟨?_, h ▸ hnodup, fun e he => ?_⟩
  · rw [← List.length_map (f := PeerEntry.address), h, List.length_map]
    exact hlen
  · have hmem : e.address ∈ s.ptb.entries.map PeerEntry.address := h ▸ List.mem_map_of_mem he
    obtain ⟨d, hd, hde⟩ := List.mem_map.mp hmem
    rw [← hde, ha]
    exact hown d hd

theorem Moves.setPtb_addresses (s : State) (b : PeerTable)
    (h : b.entries.map PeerEntry.address = s.ptb.entries.map PeerEntry.address) : Moves c s (s.setPtb b) :=
  (Move.ptb s b (TableLaw.of_addresses h rfl)).moves

/-- An entry overwritten in its place keeps its address (R29, R30). -/
theorem putEntry_addresses (es : List PeerEntry) (x : PeerEntry) :
    (putEntry es x).map PeerEntry.address = es.map PeerEntry.address := by
  simp only [putEntry, List.map_map]
  apply List.map_congr_left
  intro e _
  simp only [Function.comp]
  split
  · next h => exact h.symm
  · rfl

theorem hasEntry_eq_false {es : List PeerEntry} {a : Address} (h : ¬ hasEntry es a = true) : a ∉ es.map PeerEntry.address := by
  intro hmem
  obtain ⟨e, he, rfl⟩ := List.mem_map.mp hmem
  exact h (List.any_eq_true.mpr ⟨e, he, by simp⟩)

/-- A new entry of a peer, in a table with room, keeps the law of R31. -/
theorem TableLaw.append {s : State} {x : PeerEntry} (hx : x.address ≠ s.ownAddress)
    (hnew : x.address ∉ s.ptb.entries.map PeerEntry.address) (hroom : s.ptb.entries.length < tableCapacity)
    (hs : TableLaw s) : TableLaw (s.setPtb { s.ptb with entries := s.ptb.entries ++ [x] }) := by
  obtain ⟨-, hnodup, hown⟩ := hs
  refine ⟨?_, ?_, ?_⟩
  · simp only [State.setPtb_ptb, List.length_append, List.length_singleton]
    exact hroom
  · simp only [State.setPtb_ptb, List.map_append, List.map_cons, List.map_nil]
    exact hnodup.append (List.nodup_singleton _) (by simpa using hnew)
  · intro e he
    rcases List.mem_append.mp he with h | h
    · exact hown e h
    · rw [List.mem_singleton.mp h]; exact hx

theorem Moves.takeState (s : State) {src : Address} (words : List Word) (hp : s.isPeer src = true) :
    Moves c s (s.takeState src words) := by
  have hsrc : src ≠ s.ownAddress := by
    simp only [State.isPeer, Bool.and_eq_true, bne_iff_ne] at hp
    exact hp.2
  unfold State.takeState
  dsimp only
  split
  · exact Moves.setPtb_addresses _ _ (putEntry_addresses _ _)
  · next hnew =>
    split
    · next hroom =>
      exact (Move.ptb s _ (TableLaw.append hsrc (hasEntry_eq_false hnew) hroom)).moves.trans
        (Moves.putStatus _ _ (by decide))
    · exact Moves.putStatus _ _ (by decide)

theorem exec_stateArrival_moves (src : Address) (words : List Word) (s : State) :
    ∃ t, exec (.stateArrival src words) s = .next t ∧ Moves c s t := by
  refine ⟨_, rfl, ?_⟩
  split
  · split
    · dsimp only
      have h := Moves.goodFrameEnds (c := c) s src
      refine Moves.settled ?_
      split
      · next hp =>
        simp only [Bool.and_eq_true] at hp
        exact h.trans (Moves.takeState _ _ hp.2)
      · exact h
    · exact Moves.badFrameEnds s
  · exact Moves.refl _

/-- An expiry at an entry keeps every address. -/
theorem Moves.ageEntry (s : State) (a : Address) {f : PeerEntry → PeerEntry} (hf : ∀ e, (f e).address = e.address) :
    Moves c s (s.ageEntry a f) := by
  refine Moves.setPtb_addresses _ _ ?_
  simp only [List.map_map]
  apply List.map_congr_left
  intro e _
  simp only [Function.comp]
  split
  · exact hf e
  · rfl

@[simp] theorem PeerEntry.staleExpiry_address (e : PeerEntry) : e.staleExpiry.address = e.address := by
  unfold PeerEntry.staleExpiry; split <;> rfl
@[simp] theorem PeerEntry.lostExpiry_address (e : PeerEntry) : e.lostExpiry.address = e.address := by
  unfold PeerEntry.lostExpiry; split <;> rfl

theorem Moves.cancelHold (s : State) : Moves c s s.cancelHold := Moves.setNsq _ _ rfl rfl (.inl rfl)

theorem Moves.loseDemand (s : State) : Moves c s s.loseDemand := by
  have h1 : Moves c s ((s.setPtb { s.ptb with demandTimer := ⟨false, 50⟩ }).putStatus .demandLost true) :=
    Moves.after (Moves.putStatus _ _ (by decide)) (Moves.setPtb_entries _ _ rfl)
  have h2 : ∀ t : State, Moves c t t.loseAxleDemand := fun t => by
    rcases t.loseAxleDemand_cases with h | h <;> rw [h]
    · exact Moves.refl _
    · exact Moves.after (Moves.reportShortBrake _) (Moves.after (Moves.setBlu _ _ rfl rfl rfl) (Moves.setShe _ _))
  exact (h1.trans (h2 _)).trans (Moves.cancelHold _)

/-! #### Wear -/

theorem WearItem.add_acc {x : WearItem} (c : List Word) (i n : Nat) :
    (x.add c i n).acc = min (x.acc + n) accMax := by
  unfold WearItem.add
  dsimp only
  split
  · next h => exact h.symm
  · rfl

/-- An increment keeps an accumulator within its range and never lowers it (R119). -/
theorem WearItem.add_grows {x : WearItem} (c : List Word) (i n : Nat) (h : x.acc ≤ accMax) :
    x.acc ≤ (x.add c i n).acc ∧ (x.add c i n).acc ≤ accMax := by
  rw [WearItem.add_acc]; omega

theorem Moves.addUnits (s : State) {i : Nat} (n : Nat) (hi : 1 ≤ i) : Moves c s (s.addUnits i n) :=
  (Move.putItem s i _ hi (WearItem.add_grows _ _ _)).moves

theorem Moves.gather (s : State) {i : Nat} (unit inc : Nat) (hi : 1 ≤ i) : Moves c s (s.gather i unit inc) :=
  (Move.putItem s i _ hi (WearItem.add_grows (x := { itemAt s.wau.items i with
    residue := ((itemAt s.wau.items i).residue + inc) % unit }) _ _ _)).moves

/-! #### Exchanges -/

theorem Moves.beginExchange (s : State) (p : Partner) (r : OwnReading) : Moves c s (s.beginExchange p r) := by
  cases p <;> exact Moves.setStp _ _ rfl rfl

theorem Moves.beginFinal (s : State) : Moves c s s.beginFinal :=
  Moves.after (Moves.beginExchange _ _ _) (Moves.setStp _ _ rfl rfl)

theorem driveDroop_le (c : List Word) (u : Nat) : driveDroop c u ≤ 100 := by
  unfold driveDroop
  split
  · exact le_refl _
  · split
    · exact Nat.zero_le _
    · exact Nat.div_le_of_le_mul (by rw [Nat.mul_comm]; exact Nat.mul_le_mul_right _ (by omega))

theorem regenDroop_le (c : List Word) (u : Nat) : regenDroop c u ≤ 100 := by
  unfold regenDroop
  split
  · exact le_refl _
  · split
    · exact Nat.zero_le _
    · exact Nat.div_le_of_le_mul (by rw [Nat.mul_comm]; exact Nat.mul_le_mul_right _ (by omega))

/-- The Blend Unit with droop factors in their range (Table 3.1-1). -/
theorem Moves.setBlu_factors (s : State) (b : BlendUnit) (own : b.own = s.blu.own) (gd : b.gd ≤ 100) (gr : b.gr ≤ 100) :
    Moves c s (s.setBlu b) := (Move.blu s b own fun _ => ⟨gd, gr⟩).moves

theorem Moves.formDroop (s : State) : Moves c s s.formDroop :=
  Moves.after (Moves.putStatus _ _ (by decide)) (Moves.setBlu_factors s _ rfl (driveDroop_le _ _) (regenDroop_le _ _))

theorem Moves.formShares (s : State) : Moves c s s.formShares :=
  Moves.after (Moves.reportShortBrake _) (Moves.setBlu _ _ rfl rfl rfl)

theorem Moves.axleCompletes0 (s : State) : Moves c s s.axleCompletes0 := by
  have h1 : Moves c s ((s.formDroop.reformOwn).putStatus .stageHot (stageHotHolds s.stp.held0)) :=
    ((Moves.formDroop s).move (.reform _)).trans (Moves.putStatus _ _ (by decide))
  have h2 : ∀ t : State, Moves c t t.formTorque := fun t =>
    Moves.after (Moves.writeSlot0 _ _) (Moves.setBlu _ _ rfl rfl rfl)
  have h3 : ∀ t : State, Moves c t t.gatherRegen := fun t => by
    unfold State.gatherRegen
    split
    · exact Moves.gather _ _ _ (by decide)
    · exact Moves.refl _
  exact ((h1.trans (Moves.formShares _)).trans (h2 _)).trans (h3 _)

theorem BlendUnit.evaluateSlip_own (b : BlendUnit) (d : Int) (v w : Nat) :
    (b.evaluateSlip d v w).own = b.own ∧ (b.evaluateSlip d v w).gd = b.gd ∧ (b.evaluateSlip d v w).gr = b.gr := by
  unfold BlendUnit.evaluateSlip
  split
  · exact ⟨rfl, rfl, rfl⟩
  · split
    · split
      · split <;> exact ⟨rfl, rfl, rfl⟩
      · exact ⟨rfl, rfl, rfl⟩
    · exact ⟨rfl, rfl, rfl⟩

theorem Moves.evaluateSlip (s : State) : Moves c s s.evaluateSlip := by
  unfold State.evaluateSlip
  split
  · dsimp only
    have h : ∀ d v w, Moves c s (s.setBlu (s.blu.evaluateSlip d v w)) := fun d v w =>
      have ⟨own, gd, gr⟩ := s.blu.evaluateSlip_own d v w
      Moves.setBlu _ _ own gd gr
    split
    · exact ((h _ _ _).trans (Moves.addUnits _ _ (by decide))).trans (Moves.requestPrompt _)
    · exact h _ _ _
  · exact Moves.refl _

theorem Moves.gatherPads (s : State) : Moves c s s.gatherPads := by
  unfold State.gatherPads
  split
  · dsimp only
    split
    · exact Moves.after (Moves.addUnits _ _ (by decide)) (Moves.after (Moves.setWau _ _ rfl rfl rfl)
        (Moves.gather _ _ _ (by decide)))
    · exact Moves.after (Moves.setWau _ _ rfl rfl rfl) (Moves.gather _ _ _ (by decide))
  · exact Moves.refl _

theorem Moves.axleCompletes1 (s : State) : Moves c s s.axleCompletes1 := by
  have h1 : ∀ t : State, Moves c t t.formPressure := fun t =>
    Moves.after (Moves.writeSlot1 _ _) (Moves.setBlu _ _ rfl rfl rfl)
  exact ((((Moves.evaluateSlip s).move (.reform _)).trans (Moves.formShares _)).trans (h1 _)).trans (Moves.gatherPads _)

theorem Moves.packCompletes0 (s : State) : Moves c s s.packCompletes0 :=
  Moves.after (Moves.writeSlot0 _ _) (Moves.after (Moves.setPlu _ _ rfl rfl)
    (Moves.after (Moves.putStatus _ _ (by decide)) (Move.reform s).moves))

theorem Moves.gatherPack (s : State) : Moves c s s.gatherPack := by
  unfold State.gatherPack
  split
  · dsimp only
    split
    · exact Moves.after (Moves.addUnits _ _ (by decide)) (Moves.after (Moves.setWau _ _ rfl rfl rfl)
        (Moves.gather _ _ _ (by decide)))
    · exact Moves.after (Moves.setWau _ _ rfl rfl rfl) (Moves.gather _ _ _ (by decide))
  · exact Moves.refl _

theorem Moves.packCompletes1 (s : State) : Moves c s s.packCompletes1 := (Moves.gatherPack s).move (.packLimits _)

theorem Moves.gensetCompletes0 (s : State) : Moves c s s.gensetCompletes0 :=
  Moves.after (Moves.writeSlot0 _ _) (Moves.after (Moves.putStatus _ _ (by decide)) (Move.reform s).moves)

/-- Scheduler fields that no law reads. -/
theorem Genset.Drifts.still {a b : Genset} (starts : b.starts = a.starts) (clock : b.clock = a.clock)
    (engine : b.engine = a.engine) (dwell : b.dwell = a.dwell) (off : b.off.elapsed = a.off.elapsed) : a.Drifts b :=
  ⟨starts, clock, fun h => engine ▸ h, fun h => .inr ⟨engine ▸ h, dwell, off⟩⟩

theorem Moves.setGsc_still (s : State) (b : Genset) (po : b.ownPo = s.gsc.ownPo) (pa : b.ownPa = s.gsc.ownPa)
    (starts : b.starts = s.gsc.starts) (clock : b.clock = s.gsc.clock) (engine : b.engine = s.gsc.engine)
    (dwell : b.dwell = s.gsc.dwell) (off : b.off.elapsed = s.gsc.off.elapsed) : Moves c s (s.setGsc b) :=
  Moves.setGsc s b po pa (.inr (.inr (.still starts clock engine dwell off)))

theorem Moves.engineStalls (s : State) : Moves c s s.engineStalls :=
  Moves.after (Moves.engineOff _) (Moves.after (Moves.putStatus _ _ (by decide))
    (Moves.setGsc_still s _ rfl rfl rfl rfl rfl rfl rfl))

theorem Moves.testEngine (s : State) (report : EngineReport) (coolant : Int) : Moves c s (s.testEngine report coolant) := by
  unfold State.testEngine
  split
  · split
    · exact Moves.engineWarming _
    · exact Moves.refl _
  · split
    · split
      · exact Moves.engineRunning _
      · exact Moves.refl _
    · exact Moves.engineStalls _
  · split
    · exact Moves.refl _
    · exact Moves.engineStalls _
  · split
    · exact Moves.refl _
    · exact Moves.engineOff _
  all_goals exact Moves.refl _

theorem Moves.adopt (s : State) (coolant : Int) : Moves c s (s.adopt coolant) := by
  have h1 : Moves c s (s.setGsc { s.gsc with off := s.gsc.off.halt, runMet := true }) :=
    Moves.setGsc_still _ _ rfl rfl rfl rfl rfl rfl rfl
  have h2 : ∀ t : State, Moves c t (if coolant < 50 then (t.setGsc { t.gsc with warm := Timer.started }).enterEngine .warming
      else t.enterEngine .running) := fun t => by
    split
    · exact Moves.enterEngine _ rfl rfl (.inr (.inr ⟨rfl, rfl, nofun, nofun⟩))
    · exact Moves.enterEngine (g := t.gsc) _ rfl rfl (.inr (.inr ⟨rfl, rfl, nofun, nofun⟩))
  have h3 : ∀ t : State, Moves c t (if t.nsq.op = .withdrawn then t.engineCooldown else t) := fun t => by
    split
    · exact Moves.engineCooldown _
    · exact Moves.refl _
  exact Moves.after (h3 _) (Moves.after (h2 _) h1)

theorem Moves.testAdoption (s : State) (report : EngineReport) (coolant : Int) :
    Moves c s (s.testAdoption report coolant) := by
  unfold State.testAdoption
  dsimp only
  have h1 : Moves c s (s.setGsc { s.gsc with adoption := false }) :=
    Moves.setGsc_still _ _ rfl rfl rfl rfl rfl rfl rfl
  split
  · exact h1.trans (Moves.adopt _ _)
  · exact h1

theorem Moves.gensetCompletes1 (s : State) (good : Bool) : Moves c s (s.gensetCompletes1 good) := by
  unfold State.gensetCompletes1
  dsimp only
  have h1 : Moves c s (if s.given.shutdown then s.engineWithdrawn else s) := by
    split
    · exact Moves.engineWithdrawn _
    · exact Moves.refl _
  generalize (if s.given.shutdown = true then s.engineWithdrawn else s) = t at h1 ⊢
  split
  · refine Moves.trans ?_ (Moves.writeSlot1 _ _)
    split
    · exact h1.trans (Moves.testAdoption _ _ _)
    · exact h1.trans (Moves.testEngine _ _ _)
  · exact h1

theorem Moves.roleCompletes0 (s : State) (role : Role) : Moves c s (s.roleCompletes0 role) := by
  cases role
  · exact Moves.axleCompletes0 s
  · exact Moves.packCompletes0 s
  · exact Moves.gensetCompletes0 s

theorem Moves.roleCompletes1 (s : State) (role : Role) (good : Bool) : Moves c s (s.roleCompletes1 role good) := by
  cases role
  · exact Moves.axleCompletes1 s
  · exact Moves.packCompletes1 s
  · exact Moves.gensetCompletes1 s good

theorem exec_exchangeCompletion_moves (record : List Byte) (s : State) :
    ∃ t, exec (.exchangeCompletion record) s = .next t ∧ Moves (.exchangeCompletion record) s t := by
  refine ⟨_, rfl, ?_⟩
  split
  · next x role _ _ =>
    split
    · refine Moves.settled ?_
      unfold State.completeExchange
      dsimp only
      have h : Moves (.exchangeCompletion record) s (s.setStp { s.stp with inFlight := none }) :=
        Moves.setStp _ _ rfl rfl
      split
      · exact (h.move (.judge0 _ _ _ _ rfl)).trans (Moves.roleCompletes0 _ _)
      · exact (h.move (.judge1 _ _ _ rfl)).trans (Moves.roleCompletes1 _ _ _)
    · split
      · exact Moves.beginFinal _
      · exact Moves.refl _
  · exact Moves.refl _

end

end Sys2Proof.Machine
end

section
namespace Sys2Proof.Machine

section
variable {c : Instr} {s t u : State}

/-! #### The tick and the engine's timers -/

theorem Moves.tickClock (s : State) (hc : c = .tick) : Moves c s s.tickClock := by
  unfold State.tickClock
  split
  · exact Moves.after (Move.free _ _).moves (Moves.setGsc _ _ rfl rfl (.inl hc))
  · exact Moves.setGsc _ _ rfl rfl (.inl hc)

theorem Moves.tickSamples (s : State) : Moves c s s.tickSamples := Moves.setGsc_still _ _ rfl rfl rfl rfl rfl rfl rfl

theorem Moves.engineAttempt (s : State) (hc : c = .tick) : Moves c s s.engineAttempt := by
  unfold State.engineAttempt
  dsimp only
  have h : Moves c s (State.enterEngine (s.setGsc { s.gsc with
      starts := s.gsc.starts ++ [s.gsc.clock], crank := Timer.started, off := s.gsc.off.halt }) .cranking) :=
    Moves.enterEngine _ rfl rfl (.inl hc)
  split
  · exact Moves.after (Moves.addUnits _ _ (by decide)) (Moves.after (Moves.addUnits _ _ (by decide)) h)
  · exact Moves.after (Moves.addUnits _ _ (by decide)) h

theorem Moves.tickTest (s : State) (hc : c = .tick) : Moves c s s.tickTest := by
  unfold State.tickTest
  dsimp only
  split
  · split
    · exact Moves.engineAttempt _ hc
    · exact Moves.refl _
  · split
    · exact Moves.engineCooldown _
    · exact Moves.refl _
  · split
    · exact Moves.engineRunning _
    · exact Moves.refl _
  all_goals exact Moves.refl _

theorem Moves.tickPower (s : State) (e : EngineState) : Moves c s (s.tickPower e) := by
  unfold State.tickPower
  split
  · exact Moves.setGsc_still _ _ rfl rfl rfl rfl rfl rfl rfl
  · exact Moves.refl _

theorem Moves.tickReport (s : State) : Moves c s s.tickReport := by
  unfold State.tickReport
  split
  · exact Moves.refl _
  · split
    · exact Moves.after (Moves.addUnits _ _ (by decide)) (Moves.setWau _ _ rfl rfl rfl)
    · exact Moves.setWau _ _ rfl rfl rfl

theorem Moves.takeTick (s : State) (hc : c = .tick) : Moves c s s.takeTick := by
  have h1 : Moves c s ((s.setGsc { s.gsc with tick := Timer.started }).tickClock.tickSamples) :=
    Moves.after (Moves.tickSamples _) (Moves.after (Moves.tickClock _ hc)
      (Moves.setGsc_still _ _ rfl rfl rfl rfl rfl rfl rfl))
  have h2 : ∀ t : State, Moves c t t.tickEngine := fun t => by
    refine Moves.after (Moves.tickTest _ hc) ?_
    split
    · exact Moves.engineWithdrawn _
    · exact Moves.refl _
  exact Moves.after (Moves.tickReport _) (Moves.after (Moves.tickPower _ _) (Moves.after (h2 _) h1))

theorem Moves.failAttempt (s : State) (hc : c = .crankTimerExpiry) : Moves c s s.failAttempt := by
  unfold State.failAttempt
  dsimp only
  split
  · exact Moves.after (Moves.putStatus _ _ (by decide)) (Moves.enterEngine _ rfl rfl (.inr (.inl hc)))
  · exact Moves.after (Moves.engineOff_dwell _ (.inr (.inl hc))) (Moves.setGsc_still _ _ rfl rfl rfl rfl rfl rfl rfl)

/-! #### Service requests (R182) -/

/-- A place reserved is one of the three and none in use (R148). -/
theorem freePlace_spec {rs : List ReplyPlace} {n : Nat} (h : freePlace rs = some n) :
    1 ≤ n ∧ n ≤ 3 ∧ n ∉ rs.map ReplyPlace.place := by
  have hmem := List.mem_of_find?_eq_some h
  have hfree := List.find?_some h
  simp only [List.mem_cons, List.not_mem_nil, or_false] at hmem
  refine ⟨by omega, by omega, fun hin => ?_⟩
  obtain ⟨r, hr, rfl⟩ := List.mem_map.mp hin
  exact absurd (List.all_eq_true.mp hfree r hr) (by simp)

/-- Pairwise different places between 1 and 3 are at most three. -/
theorem places_length_le {ns : List Nat} (hnodup : ns.Nodup) (hrange : ∀ n ∈ ns, 1 ≤ n ∧ n ≤ 3) : ns.length ≤ 3 := by
  have hsub : ns ⊆ [1, 2, 3] := fun n hn => by
    have := hrange n hn
    simp only [List.mem_cons, List.not_mem_nil, or_false]
    omega
  exact (hnodup.subperm hsub).length_le

theorem QueueLaw.reserve {s : State} {n : Nat} (code : BitVec 8) (hn : freePlace s.sli.replies = some n)
    (hs : QueueLaw s) : QueueLaw (s.setSli { s.sli with replies := reservePlace s.sli.replies n code }) := by
  obtain ⟨h1, h3, hnew⟩ := freePlace_spec hn
  rw [queueLaw_iff_places] at hs ⊢
  obtain ⟨-, hnodup, hrange⟩ := hs
  have hplaces : (s.setSli { s.sli with replies := reservePlace s.sli.replies n code }).sli.replies.map ReplyPlace.place
      = s.sli.replies.map ReplyPlace.place ++ [n] := by simp [reservePlace]
  rw [hplaces]
  have hnodup' : (s.sli.replies.map ReplyPlace.place ++ [n]).Nodup :=
    hnodup.append (List.nodup_singleton _) (by simpa using hnew)
  have hrange' : ∀ m ∈ s.sli.replies.map ReplyPlace.place ++ [n], 1 ≤ m ∧ m ≤ 3 := fun m hm => by
    rcases List.mem_append.mp hm with h | h
    · exact hrange m h
    · rw [List.mem_singleton.mp h]; exact ⟨h1, h3⟩
  exact ⟨places_length_le hnodup' hrange', hnodup', hrange'⟩

theorem State.requestPlace_spec {src target : Address} {code n : Nat} (h : s.requestPlace src target code = some n) :
    s.serves = true ∧ freePlace s.sli.replies = some n := by
  unfold State.requestPlace at h
  split at h
  · next hc =>
    simp only [Bool.and_eq_true] at hc
    exact ⟨hc.1.1.1, h⟩
  · cases h

/-- A request moves as what it carries out moves, which is asked only where the node serves and refuses nothing. -/
theorem Moves.serviceRequest {s : State} {src target : Address} {code : Nat} {args : List Word}
    {carry : State → Nat → State}
    (hcarry : ∀ t n, t.serves = true → t.refusal code args = none → Moves c t (carry t n)) :
    Moves c s (s.serviceRequest src target code args carry) := by
  unfold State.serviceRequest
  split
  · split
    · dsimp only
      have hends := Moves.goodFrameEnds (c := c) s src
      split
      · next n hn =>
        obtain ⟨hserves, hfree⟩ := State.requestPlace_spec hn
        refine Moves.settled (hends.trans ?_)
        unfold State.answerRequest
        dsimp only
        refine Moves.trans (Move.sli _ _ (QueueLaw.reserve (BitVec.ofNat 8 code) hfree)).moves ?_
        split
        · exact Moves.reply _ _ _ _
        · next hr => exact hcarry _ _ hserves hr
      · exact hends.settled
    · exact Moves.badFrameEnds s
  · exact Moves.refl _

theorem Moves.readStatus (s : State) (n : Nat) : Moves c s (s.readStatus n) := by
  unfold State.readStatus
  dsimp only
  split
  · exact Moves.after (Move.free _ _).moves (Moves.reply _ _ _ _)
  · exact Moves.reply _ _ _ _

theorem statusIn_or (σ τ : StatusSet) (x : Status) : statusIn (σ ||| τ) x = (statusIn σ x || statusIn τ x) :=
  BitVec.getLsbD_or
theorem statusIn_and (σ τ : StatusSet) (x : Status) : statusIn (σ &&& τ) x = (statusIn σ x && statusIn τ x) :=
  BitVec.getLsbD_and
theorem statusIn_not (σ : StatusSet) (x : Status) : statusIn (~~~σ) x = !statusIn σ x := by
  simp [statusIn, x.index_lt]

/-- What a CLEAR leaves of a status: a latched one its standing condition, another as it was (R132). -/
theorem State.statusIn_clearedSet (s : State) (x : Status) :
    statusIn s.clearedSet x = (s.status x && !statusIn latchedSet x || statusIn s.standing x) := by
  rw [State.clearedSet, statusIn_or, statusIn_and, statusIn_not]; rfl

/-- PARTNER_FAULT is neither latched nor among the standing conditions (Table 7.2-1). -/
theorem State.clearedSet_partnerFault (s : State) : statusIn s.clearedSet .partnerFault = s.status .partnerFault := by
  have hstanding : statusIn s.standing .partnerFault = false := by
    simp only [State.standing, statusIn_statusPut]
    rfl
  have hlatched : statusIn latchedSet .partnerFault = false := by decide
  rw [State.statusIn_clearedSet, hstanding, hlatched, Bool.or_false, Bool.not_false, Bool.and_true]

theorem Moves.carryClear (s : State) (n : Nat) : Moves c s (s.carryClear n) := by
  have h : ∀ t : State, Moves c t t.clearEngine := fun t => by
    unfold State.clearEngine
    split
    · exact Moves.after (Moves.engineOff _) (Moves.setGsc_still _ _ rfl rfl rfl rfl rfl rfl rfl)
    · exact Moves.refl _
  exact Moves.after (Moves.reply _ _ _ _) (Moves.after (h _) (Moves.setStu _ _ s.clearedSet_partnerFault))

theorem Moves.putForceFault (s : State) (b : Bool) (n : Nat) : Moves c s (s.putForceFault b n) :=
  Moves.after (Moves.reply _ _ _ _) (Moves.after (Moves.putStatus _ _ (by decide)) (Moves.setStu _ _ rfl))

theorem Moves.putForceWarn (s : State) (b : Bool) (n : Nat) : Moves c s (s.putForceWarn b n) :=
  Moves.after (Moves.reply _ _ _ _) (Moves.after (Moves.putStatus _ _ (by decide)) (Moves.setStu _ _ rfl))

theorem Moves.pendReset (s : State) (r : PendingReset) (n : Nat) (hs : s.serves = true) : Moves c s (s.pendReset r n) :=
  Moves.after (Moves.reply _ _ _ _) (Moves.setNsq _ _ rfl rfl (.inr (.inl hs)))

/-- What a request that passes is not: in bounds of its arguments (R182 step 5). -/
theorem State.badArgument_of_refusal {code : Nat} {args : List Word} (h : s.refusal code args = none) :
    badArgument s.wau.items code args = false := by
  unfold State.refusal at h
  split at h
  · cases h
  · split at h
    · cases h
    · split at h
      · cases h
      · next hb => exact Bool.eq_false_iff.mpr hb

theorem argItem_pos_of_refusal {args : List Word} (h : s.refusal 9 args = none) : 1 ≤ argItem args := by
  have hb := State.badArgument_of_refusal h
  simp only [badArgument, Bool.or_eq_false_iff] at hb
  have hne : argItem args ≠ 0 := by simpa using hb.1
  omega

theorem argWord_le_of_refusal {args : List Word} (h : s.refusal 11 args = none) : argWord args ≤ 62 := by
  have hb := State.badArgument_of_refusal h
  simpa [badArgument] using hb

theorem Moves.startConfigRead (s : State) (word place : Nat) : Moves c s (s.startConfigRead word place) :=
  (Move.mpt s { s.mpt with op := .configRead (some place) word }
    ⟨rfl, rfl, rfl, rfl, rfl, .inr (.inr (.inl ⟨_, _, rfl⟩))⟩).moves

theorem Moves.startConfigWrite (s : State) {word : Nat} (mask value : Word) (place : Nat) (h : word ≤ 62) :
    Moves c s (s.startConfigWrite word mask value place) :=
  (Move.mpt s { s.mpt with op := .configWrite (some place) word mask value, poll := Timer.started }
    ⟨rfl, rfl, rfl, rfl, rfl, .inr (.inr (.inr ⟨_, _, _, _, rfl, h⟩))⟩).moves

/-! #### The node's own attempts -/

/-- A place put in flight, queued again or released leaves the places in use, or fewer (R148). -/
theorem startReply_places (rs : List ReplyPlace) (n : Nat) :
    (startReply rs n).map ReplyPlace.place = rs.map ReplyPlace.place := by
  simp only [startReply, List.map_map]
  apply List.map_congr_left
  intro x _
  simp only [Function.comp]
  split <;> rfl

theorem requeueReplies_places (rs : List ReplyPlace) :
    (requeueReplies rs).map ReplyPlace.place = rs.map ReplyPlace.place := by
  simp only [requeueReplies, List.map_map]
  apply List.map_congr_left
  intro x _
  simp only [Function.comp]
  split <;> rfl

theorem releaseReplies_places (rs : List ReplyPlace) :
    ((releaseReplies rs).map ReplyPlace.place).Sublist (rs.map ReplyPlace.place) := List.filter_sublist.map _

theorem Moves.startState (s : State) (role : Role) : Moves c s (s.startState role) := by
  have hcaptured : statusIn capturedSet .partnerFault = false := by decide
  refine Moves.after (Moves.setSli_replies _ _ rfl) (Moves.after (Moves.setSli_replies _ _ rfl) (Moves.setStu _ _ ?_))
  rw [statusIn_and, statusIn_not, hcaptured, Bool.not_false, Bool.and_true]
  rfl

theorem Moves.requeueAttempt (s : State) : Moves c s s.requeueAttempt :=
  Moves.setSli_places _ _ (by rw [requeueReplies_places])

theorem Moves.completeAttempt (s : State) : Moves c s s.completeAttempt :=
  Moves.setSli_places _ _ (releaseReplies_places _)

theorem Moves.countFailure (s : State) : Moves c s s.countFailure := by
  unfold State.countFailure
  split
  · exact Moves.after (Moves.putStatus _ _ (by decide)) (Moves.setSli_replies _ _ rfl)
  · exact Moves.setSli_replies _ _ rfl

/-! #### The recheck, the straps and the minute -/

theorem Moves.recheckCopy (s : State) : Moves c s s.recheckCopy := by
  unfold State.recheckCopy
  dsimp only
  split
  · exact Moves.after (Moves.putStatus _ _ (by decide)) (Moves.setMpt _ _ rfl rfl rfl rfl rfl rfl)
  · exact Moves.setMpt _ _ rfl rfl rfl rfl rfl rfl

theorem Moves.checkStraps (s : State) : Moves c s s.checkStraps := by
  unfold State.checkStraps
  dsimp only
  split
  · exact Moves.after (Moves.putStatus _ _ (by decide)) (Moves.setNsq _ _ rfl rfl (.inl rfl))
  · exact Moves.setNsq _ _ rfl rfl (.inl rfl)

theorem Moves.takeMinute (s : State) : Moves c s s.takeMinute := by
  unfold State.takeMinute
  dsimp only
  split
  · exact Moves.after (Moves.addUnits _ _ (by decide)) (Moves.setWau _ _ rfl rfl rfl)
  · exact Moves.setWau _ _ rfl rfl rfl

theorem BlendUnit.enterRecover_own (b : BlendUnit) :
    b.enterRecover.own = b.own ∧ b.enterRecover.gd = b.gd ∧ b.enterRecover.gr = b.gr := by
  unfold BlendUnit.enterRecover
  split <;> exact ⟨rfl, rfl, rfl⟩

theorem BlendUnit.moveM_own (b : BlendUnit) : b.moveM.own = b.own ∧ b.moveM.gd = b.gd ∧ b.moveM.gr = b.gr := by
  unfold BlendUnit.moveM
  split <;> exact ⟨rfl, rfl, rfl⟩

theorem BlendUnit.raiseL_own (b : BlendUnit) (x y : Nat) :
    (b.raiseL x y).own = b.own ∧ (b.raiseL x y).gd = b.gd ∧ (b.raiseL x y).gr = b.gr := by
  unfold BlendUnit.raiseL
  split
  · next k _ => cases k <;> dsimp only <;> split <;> exact ⟨rfl, rfl, rfl⟩
  all_goals exact ⟨rfl, rfl, rfl⟩

theorem Moves.takeRamp (s : State) : Moves c s s.takeRamp := by
  unfold State.takeRamp
  dsimp only
  obtain ⟨own, gd, gr⟩ := s.blu.moveM_own
  obtain ⟨own', gd', gr'⟩ := s.blu.moveM.raiseL_own (pdU s.mpt.copy s.stp.held0) (prU s.mpt.copy s.stp.held0)
  split
  · exact Moves.after (Move.reform _).moves (Moves.setBlu _ _ (own'.trans own) (gd'.trans gd) (gr'.trans gr))
  all_goals exact Moves.setBlu _ _ (own'.trans own) (gd'.trans gd) (gr'.trans gr)

end

end Sys2Proof.Machine
end

section
namespace Sys2Proof.Machine

/-! ### The openings: what a command stores, loads or resets before it moves -/

/-- The image and the ring loaded and SYNC entered, before the event is ended (R168, R170, R178). -/
def State.bootLoaded (s : State) (role : Role) (imageAck : Bool) (slotAcks : BitVec 8) : State :=
  let s := ((s.loadImage role imageAck).loadRing role slotAcks).restateWear
  (s.setMpt { s.mpt with op := .none }).enterSync false

/-- A page in the EEPROM: the second page awaited, or the ring position moved and the operation ended (R172). -/
def State.storedPage (s : State) (job : FlushJob) : State :=
  let t := s.writePage job
  if job.page = 1 then t.setMpt { t.mpt with op := .flush { job with page := 2 }, poll := Timer.started }
  else
    t.setMpt { t.mpt with
      torn := t.mpt.torn &&& ~~~(1#8 <<< job.slot), ringSlot := job.slot, ringSeq := job.seq, op := .none
      poll := Timer.stopped }

/-- The opening of a command, the state itself for the commands that have none. -/
def State.opening (s : State) : Instr → State
  | .powerOn p => (s.pinStraps p).hardReset .powerOn
  | .brownOut p => (s.pinStraps p).hardReset .brownOut
  | .bootLoadComplete imageAck slotAcks =>
    match s.role with
    | some role => if s.nsq.op = .boot ∧ s.mpt.op = .bootLoad then s.bootLoaded role imageAck slotAcks else s
    | none => s
  | .recheckTimerExpiry upset =>
    if (s.serves || s.nsq.op == .standby) && s.mpt.recheck.due 100 then s.upsetCopy upset else s
  | .pageStored p =>
    match s.mpt.op with
    | .flush job => (s.pinStraps p).storedPage job
    | .none | .bootLoad | .configRead _ _ | .configWrite _ _ _ _ => s
  | .pageTimeout p =>
    match s.mpt.op with
    | .flush job => if s.mpt.poll.due 20 then (s.pinStraps p).tearPage job else s
    | .none | .bootLoad | .configRead _ _ | .configWrite _ _ _ _ => s
  | .configWriteComplete outcome p =>
    match s.mpt.op with
    | .configWrite _ n mask value =>
      if s.canEndWrite outcome then (s.pinStraps p).writeConfig n mask value outcome else s
    | .none | .bootLoad | .flush _ | .configRead _ _ => s
  | _ => s

section
variable {c : Instr} {s t u : State}

theorem Moves.storePage (s : State) (job : FlushJob) : Moves c (s.storedPage job) (s.storePage job) := by
  by_cases hp : job.page = 1
  · have h1 : s.storePage job = s.storedPage job := by simp only [State.storePage, State.storedPage, hp, if_true]
    rw [h1]
    exact Moves.refl _
  · have h1 : s.storePage job = ((s.storedPage job).reportFlush true job.parties).startPending := by
      simp only [State.storePage, State.storedPage, hp, if_false]
      rfl
    have h2 : (s.storedPage job).flushEnded := .inl (by simp only [State.storedPage, hp, if_false]; rfl)
    rw [h1]
    exact (Moves.reportFlush h2 _ _).trans (Moves.startPending _)

theorem Moves.failPage (s : State) (job : FlushJob) : Moves c (s.tearPage job) (s.failPage job) := by
  unfold State.failPage
  dsimp only
  split
  · split
    · next next h => exact (Move.attempt _ _ _ 2 next (.inr rfl) h).moves
    · exact Moves.endFlush _ _ _
  · exact Moves.endFlush _ _ _

/-- After its opening every command is a run of moves. -/
theorem exec_moves (c : Instr) (s : State) : ∃ t, exec c s = .next t ∧ Moves c (s.opening c) t := by
  cases c with
  | powerOn pins => exact ⟨_, rfl, Moves.refl _⟩
  | brownOut pins => exact ⟨_, rfl, Moves.refl _⟩
  | bootLoadComplete imageAck slotAcks =>
    refine ⟨_, rfl, ?_⟩
    simp only [State.opening]
    cases s.role with
    | none => exact Moves.refl _
    | some role =>
      dsimp only
      split
      · exact Moves.settle _
      · exact Moves.refl _
  | demandArrival src words => exact exec_demandArrival_moves src words s
  | stateArrival src words => exact exec_stateArrival_moves src words s
  | badFrame =>
    refine ⟨_, rfl, ?_⟩
    split
    · exact Moves.badFrameEnds s
    · exact Moves.refl _
  | windowTimerExpiry =>
    refine ⟨_, rfl, ?_⟩
    split
    · exact Moves.setSli_replies _ _ rfl
    · exact Moves.refl _
  | identify src target args => exact ⟨_, rfl, Moves.serviceRequest fun _ _ _ _ => Moves.reply _ _ _ _⟩
  | readStatus src target args => exact ⟨_, rfl, Moves.serviceRequest fun _ _ _ _ => Moves.readStatus _ _⟩
  | clear src target args => exact ⟨_, rfl, Moves.serviceRequest fun _ _ _ _ => Moves.carryClear _ _⟩
  | forceFault src target args => exact ⟨_, rfl, Moves.serviceRequest fun _ _ _ _ => Moves.putForceFault _ _ _⟩
  | releaseFault src target args => exact ⟨_, rfl, Moves.serviceRequest fun _ _ _ _ => Moves.putForceFault _ _ _⟩
  | forceWarn src target args => exact ⟨_, rfl, Moves.serviceRequest fun _ _ _ _ => Moves.putForceWarn _ _ _⟩
  | releaseWarn src target args => exact ⟨_, rfl, Moves.serviceRequest fun _ _ _ _ => Moves.putForceWarn _ _ _⟩
  | readWear src target args => exact ⟨_, rfl, Moves.serviceRequest fun _ _ _ _ => Moves.reply _ _ _ _⟩
  | wearReset src target args =>
    refine ⟨_, rfl, Moves.serviceRequest fun t n _ hr => ?_⟩
    rw [State.carryWearReset_eq]
    exact (Move.emptyItem t _ (argItem_pos_of_refusal hr) ⟨src, target, args, rfl⟩).moves.trans (Moves.requestFlush _ _)
  | configRead src target args => exact ⟨_, rfl, Moves.serviceRequest fun _ _ _ _ => Moves.startConfigRead _ _ _⟩
  | configWrite src target args =>
    exact ⟨_, rfl, Moves.serviceRequest fun _ _ _ hr => Moves.startConfigWrite _ _ _ _ (argWord_le_of_refusal hr)⟩
  | restart src target args => exact ⟨_, rfl, Moves.serviceRequest fun _ _ hs _ => Moves.pendReset _ _ _ hs⟩
  | reboot src target args => exact ⟨_, rfl, Moves.serviceRequest fun _ _ hs _ => Moves.pendReset _ _ _ hs⟩
  | unsupportedRequest src target code args =>
    refine ⟨_, rfl, ?_⟩
    split
    · exact Moves.refl _
    · exact Moves.serviceRequest fun _ _ _ _ => Moves.refl _
  | attemptStart =>
    refine ⟨_, rfl, ?_⟩
    split
    · split
      · exact Moves.settled (Moves.startState _ _)
      · exact Moves.setSli_places s _ (by rw [startReply_places])
      · exact Moves.refl _
    · exact Moves.refl _
  | arbitrationLost =>
    refine ⟨_, rfl, ?_⟩
    split
    · exact Moves.requeueAttempt _
    · exact Moves.refl _
  | attemptAbandoned =>
    refine ⟨_, rfl, ?_⟩
    split
    · exact Moves.settled (Moves.after (Moves.countFailure _) (Moves.requeueAttempt _))
    · exact Moves.refl _
  | attemptComplete pins =>
    refine ⟨_, rfl, ?_⟩
    split
    · dsimp only
      have h : Moves (.attemptComplete pins) s (s.pinStraps pins).completeAttempt :=
        Moves.after (Moves.completeAttempt _) (Moves.pinStraps _ _)
      split
      · split
        · exact Moves.settled (h.trans (Moves.proceedReset _))
        · exact Moves.settled h
      · exact Moves.settled h
    · exact Moves.refl _
  | silenceTimerExpiry =>
    refine ⟨_, rfl, ?_⟩
    split
    · exact Moves.settled (Moves.after (Moves.putStatus _ _ (by decide)) (Moves.setSli_replies _ _ rfl))
    · exact Moves.refl _
  | statePeriodExpiry =>
    refine ⟨_, rfl, ?_⟩
    split
    · exact Moves.setSli_replies _ _ rfl
    · exact Moves.refl _
  | ageTimerStale address =>
    refine ⟨_, rfl, ?_⟩
    split
    · exact Moves.ageEntry _ _ PeerEntry.staleExpiry_address
    · exact Moves.refl _
  | ageTimerLost address =>
    refine ⟨_, rfl, ?_⟩
    split
    · exact Moves.ageEntry _ _ PeerEntry.lostExpiry_address
    · exact Moves.refl _
  | demandTimerExpiry =>
    refine ⟨_, rfl, ?_⟩
    split
    · exact Moves.settled (Moves.loseDemand _)
    · exact Moves.refl _
  | exchangeStart sense =>
    refine ⟨_, rfl, ?_⟩
    split
    · exact Moves.after (Moves.beginExchange _ _ _) (Moves.setStp _ _ rfl rfl)
    · exact Moves.refl _
  | exchangeCompletion record => exact exec_exchangeCompletion_moves record s
  | settleTimerExpiry =>
    refine ⟨_, rfl, ?_⟩
    split
    · exact Moves.setStp _ _ rfl rfl
    · exact Moves.refl _
  | partnerResetRelease =>
    refine ⟨_, rfl, ?_⟩
    split
    · exact Moves.after (Moves.setStp _ _ rfl rfl) (Moves.setPins _ _ rfl rfl)
    · exact Moves.refl _
  | finalExchangeEnd =>
    refine ⟨_, rfl, ?_⟩
    split
    · exact Moves.after (Moves.beginExchange _ _ _) (Moves.setStp _ _ rfl rfl)
    · exact Moves.after (Moves.setStp _ _ rfl rfl) (Moves.setPins _ _ rfl rfl)
    all_goals exact Moves.refl _
  | rampTimerExpiry =>
    refine ⟨_, rfl, ?_⟩
    split
    · exact Moves.takeRamp _
    · exact Moves.refl _
  | slipHoldTimerExpiry =>
    refine ⟨_, rfl, ?_⟩
    obtain ⟨own, gd, gr⟩ := s.blu.enterRecover_own
    split
    · exact Moves.after (Move.reform _).moves (Moves.setBlu _ _ own gd gr)
    · exact Moves.refl _
  | tick =>
    refine ⟨_, rfl, ?_⟩
    split
    · exact Moves.settled (Moves.takeTick _ rfl)
    · exact Moves.refl _
  | crankTimerExpiry =>
    refine ⟨_, rfl, ?_⟩
    split
    · exact Moves.settled (Moves.failAttempt _ rfl)
    · exact Moves.refl _
  | warmTimerExpiry =>
    refine ⟨_, rfl, ?_⟩
    split
    · exact Moves.engineRunning _
    · exact Moves.refl _
  | runTimerExpiry =>
    refine ⟨_, rfl, ?_⟩
    split
    · exact Moves.setGsc_still _ _ rfl rfl rfl rfl rfl rfl rfl
    · exact Moves.refl _
  | cooldownTimerExpiry =>
    refine ⟨_, rfl, ?_⟩
    split
    · exact Moves.settled (Moves.engineOff _)
    · exact Moves.refl _
  | minuteTimerExpiry =>
    refine ⟨_, rfl, ?_⟩
    split
    · exact Moves.settled (Moves.takeMinute _)
    · exact Moves.refl _
  | recheckTimerExpiry upset =>
    refine ⟨_, rfl, ?_⟩
    simp only [State.opening]
    split
    · exact Moves.settled (Moves.recheckCopy _)
    · exact Moves.refl _
  | flushTimerExpiry =>
    refine ⟨_, rfl, ?_⟩
    split
    · exact Moves.settled (Moves.after (Moves.requestFlush _ _) (Moves.setMpt _ _ rfl rfl rfl rfl rfl rfl))
    · exact Moves.refl _
  | pageStored pins =>
    refine ⟨_, rfl, ?_⟩
    simp only [State.opening]
    cases s.mpt.op with
    | flush job => exact Moves.settled (Moves.storePage _ _)
    | none | bootLoad | configRead | configWrite => exact Moves.refl _
  | pageTimeout pins =>
    refine ⟨_, rfl, ?_⟩
    simp only [State.opening]
    cases s.mpt.op with
    | flush job =>
      dsimp only
      split
      · exact Moves.settled (Moves.failPage _ _)
      · exact Moves.refl _
    | none | bootLoad | configRead | configWrite => exact Moves.refl _
  | configReadComplete ack pins =>
    refine ⟨_, rfl, ?_⟩
    split
    · exact Moves.settled (Moves.after (Moves.endOperation _) (Moves.after (Moves.replyTo _ _ _ _) (Moves.pinStraps _ _)))
    all_goals exact Moves.refl _
  | configWriteComplete outcome pins =>
    refine ⟨_, rfl, ?_⟩
    simp only [State.opening]
    cases s.mpt.op with
    | configWrite place n mask value =>
      dsimp only
      split
      · exact Moves.settled (Moves.after (Moves.endOperation _) (Moves.replyTo _ _ _ _))
      · exact Moves.refl _
    | none | bootLoad | configRead | flush => exact Moves.refl _
  | strapCheckExpiry pins =>
    refine ⟨_, rfl, ?_⟩
    split
    · exact Moves.settled (Moves.after (Moves.checkStraps _) (Moves.pinStraps _ _))
    · exact Moves.refl _
  | syncTimerExpiry =>
    refine ⟨_, rfl, ?_⟩
    split
    · next h =>
      dsimp only
      have h1 : Moves .syncTimerExpiry s (s.setNsq { s.nsq with sync := .expired }) := Moves.setNsq _ _ rfl rfl (.inl rfl)
      have hs : (s.setNsq { s.nsq with sync := .expired }).serves = true := State.serves_of_op (op := .sync) h.1 rfl
      refine Moves.settled ?_
      split
      · exact h1.trans (Moves.leaveSync hs)
      · exact h1
    · exact Moves.refl _
  | shutdownHoldExpiry =>
    refine ⟨_, rfl, ?_⟩
    split
    · exact Moves.settled (Moves.after (Moves.testStandby _) (Moves.setNsq _ _ rfl rfl (.inl rfl)))
    · exact Moves.refl _
  | replyLimitExpiry pins =>
    refine ⟨_, rfl, ?_⟩
    split
    · exact Moves.settled (Moves.after (Moves.proceedReset _) (Moves.pinStraps _ _))
    · exact Moves.refl _
  | svcReplyArrival src words =>
    refine ⟨_, rfl, ?_⟩
    split
    · split
      · exact Moves.settled (Moves.goodFrameEnds _ _)
      · exact Moves.badFrameEnds s
    · exact Moves.refl _
  | receiverIdle =>
    refine ⟨_, rfl, ?_⟩
    split
    · exact Moves.setSli_replies _ _ rfl
    all_goals exact Moves.refl _

/-- What a command answers is reached from its opening. -/
theorem moves_of_exec {c : Instr} (h : exec c s = .next t) : Moves c (s.opening c) t := by
  obtain ⟨u, hu, hm⟩ := exec_moves c s
  rw [h] at hu
  cases hu
  exact hm

/-- A law kept by the passage of time, by every opening and by every move is kept by every step. -/
theorem step_induct {P : State → Prop} (helapse : s.pending = [] → P s.elapse)
    (hopen : ∀ c rest, s.pending = c :: rest → P ((s.setPending rest).opening c))
    (hmove : ∀ c rest a b, s.pending = c :: rest → Move c a b → P a → P b) (h : step s = .next t) : P t := by
  unfold step at h
  split at h
  · next c rest hp => exact (moves_of_exec h).induct (hopen c rest hp) fun a b => hmove c rest a b hp
  · next hp =>
    cases h
    exact helapse hp

end

end Sys2Proof.Machine
end

/-! # Laws that every step keeps -/
section
namespace Sys2Proof.Machine

section
variable {c : Instr} {s t u : State}

/-! ### What the resets and STANDBY entry leave, block by block -/

theorem State.hardReset_cases (s : State) (k : ResetKind) :
    (∃ role, strapRole s.pins.straps = some role ∧ s.hardReset k = s.abandonOperation.intoBoot k role)
      ∨ strapRole s.pins.straps = none ∧ s.hardReset k = s.abandonOperation.intoMute k := by
  unfold State.hardReset
  split
  · next role h => exact .inl ⟨role, h, rfl⟩
  · next h => exact .inr ⟨h, rfl⟩

section
variable (s : State) (k : ResetKind)

@[simp] theorem State.hardReset_ptb : (s.hardReset k).ptb = PeerTable.initial := by
  rcases s.hardReset_cases k with ⟨role, -, h⟩ | ⟨-, h⟩ <;> rw [h] <;> rfl
@[simp] theorem State.hardReset_replies : (s.hardReset k).sli.replies = [] := by
  rcases s.hardReset_cases k with ⟨role, -, h⟩ | ⟨-, h⟩ <;> rw [h] <;> rfl

end

section
variable (s : State)

/-- STANDBY entry up to the role block's part: the operating state, the lines, and what the role block leaves (R181). -/
def State.lowered : State :=
  ((s.setNsq { s.nsq with
    op := .standby, sync := .stopped, strapCheck := s.nsq.strapCheck.halt, hold := s.nsq.hold.halt
    limit := s.nsq.limit.halt }).setPins { s.pins with ready := false, traction := false }).roleStandby

/-- STANDBY entry, with what the Stage Port is left as told apart. -/
theorem State.enterStandby_eq : ∃ p : StagePort, p.held0 = s.lowered.stp.held0 ∧ p.held1 = s.lowered.stp.held1
    ∧ s.enterStandby = ((((s.lowered.setPtb { s.lowered.ptb with
        entries := s.lowered.ptb.entries.map fun e => { e with ageTimer := e.ageTimer.halt }
        demandTimer := s.lowered.ptb.demandTimer.halt }).setSli { s.lowered.sli with period := s.lowered.sli.period.halt }).setMpt
        { s.lowered.mpt with flush := s.lowered.mpt.flush.halt }).setWau
        { s.lowered.wau with minute := s.lowered.wau.minute.halt }).setStp p := by
  unfold State.enterStandby
  dsimp only
  split <;> refine ⟨_, ?_, ?_, rfl⟩ <;> rfl

theorem State.lowered_kept : KeptBut s s.lowered [.nsq, .pins, .blu, .plu, .gsc, .stp] :=
  (((KeptBut.refl s _).setNsq (by decide) _).setPins (by decide) _).trans ((State.roleStandby_kept _).mono (by decide))

/-- The Peer Table at STANDBY entry: its timers are stopped, with their values as they stand. -/
theorem State.enterStandby_ptb : s.enterStandby.ptb = { s.ptb with
    entries := s.ptb.entries.map fun e => { e with ageTimer := e.ageTimer.halt }
    demandTimer := s.ptb.demandTimer.halt } := by
  have hptb : s.lowered.ptb = s.ptb := s.lowered_kept .ptb (by decide)
  obtain ⟨p, -, -, h⟩ := s.enterStandby_eq
  simp [h, hptb]

theorem State.lowered_nsq : s.lowered.nsq = { s.nsq with
    op := .standby, sync := .stopped, strapCheck := s.nsq.strapCheck.halt, hold := s.nsq.hold.halt
    limit := s.nsq.limit.halt } := by
  unfold State.lowered; exact State.roleStandby_kept _ .nsq (by decide)

theorem State.lowered_pins : s.lowered.pins = { s.pins with ready := false, traction := false } := by
  unfold State.lowered; exact State.roleStandby_kept _ .pins (by decide)

theorem State.enterStandby_nsq : s.enterStandby.nsq = { s.nsq with
    op := .standby, sync := .stopped, strapCheck := s.nsq.strapCheck.halt, hold := s.nsq.hold.halt
    limit := s.nsq.limit.halt } := by
  obtain ⟨p, -, -, h⟩ := s.enterStandby_eq
  simp [h, State.lowered_nsq]

theorem State.enterStandby_pins : s.enterStandby.pins = { s.pins with ready := false, traction := false } := by
  obtain ⟨p, -, -, h⟩ := s.enterStandby_eq
  simp [h, State.lowered_pins]

theorem State.enterStandby_sli : s.enterStandby.sli = { s.sli with period := s.sli.period.halt } := by
  have hsli : s.lowered.sli = s.sli := s.lowered_kept .sli (by decide)
  obtain ⟨p, -, -, h⟩ := s.enterStandby_eq
  simp [h, hsli]

theorem State.enterStandby_wau : s.enterStandby.wau = { s.wau with minute := s.wau.minute.halt } := by
  have hwau : s.lowered.wau = s.wau := s.lowered_kept .wau (by decide)
  obtain ⟨p, -, -, h⟩ := s.enterStandby_eq
  simp [h, hwau]

theorem State.enterStandby_stu : s.enterStandby.stu = s.stu := s.enterStandby_kept .stu (by decide)

end

/-! ### The peer table and the transmit queue (R31, R148) -/

theorem TableLaw.of_kept {bs : List Block} (h : KeptBut s t bs) (hptb : Block.ptb ∉ bs) (hnsq : Block.nsq ∉ bs)
    (hs : TableLaw s) : TableLaw t :=
  have ptb : t.ptb = s.ptb := h .ptb hptb
  have nsq : t.nsq = s.nsq := h .nsq hnsq
  hs.of_addresses (by rw [ptb]) (by rw [State.ownAddress, State.ownAddress, nsq])

theorem QueueLaw.of_replies (h : t.sli.replies = s.sli.replies) (hs : QueueLaw s) : QueueLaw t :=
  hs.of_sublist (by rw [h])

theorem QueueLaw.of_kept {bs : List Block} (h : KeptBut s t bs) (hsli : Block.sli ∉ bs) (hs : QueueLaw s) : QueueLaw t :=
  have sli : t.sli = s.sli := h .sli hsli
  hs.of_replies (by rw [sli])

theorem TableLaw.of_empty (h : t.ptb.entries = []) : TableLaw t := by simp [TableLaw, h]
theorem QueueLaw.of_empty (h : t.sli.replies = []) : QueueLaw t := by simp [QueueLaw, h]

/-- SYNC entry before the own capability record is formed: the operating state, the lines, and the timers started (R178). -/
def State.syncStarted (s : State) (held : Bool) : State :=
  let s := s.setNsq { s.nsq with op := .sync, sync := .running 0, strapCheck := Timer.started }
  let s := s.setPins { s.pins with ready := false, traction := false, partnerReset := held }
  let s := s.setPtb { s.ptb with demandTimer := Timer.started }
  let s := s.setSli { s.sli with line := .waitIdle 0, window := Timer.started, period := Timer.started }
  let s := s.setMpt { s.mpt with recheck := Timer.started }
  let s :=
    if held then s.setStp { s.stp with release := Timer.started }
    else s.setStp { s.stp with exchange := Timer.started, settle := .running 0 }
  match s.role with
  | some .axle => s.setBlu { s.blu with rampTimer := Timer.started }
  | some .pack => s.setWau { s.wau with minute := Timer.started }
  | some .genset => s.setGsc { s.gsc with tick := Timer.started, off := Timer.started }
  | none => s

theorem State.enterSync_eq (s : State) (held : Bool) : s.enterSync held
    = (s.syncStarted held).reformOwn.requestPrompt.setStu { (s.syncStarted held).reformOwn.requestPrompt.stu with
        fValue := (s.syncStarted held).reformOwn.requestPrompt.fBit } := rfl

section
variable (s : State) (held : Bool)

theorem State.syncStarted_nsq : (s.syncStarted held).nsq
    = { s.nsq with op := .sync, sync := .running 0, strapCheck := Timer.started } := by
  unfold State.syncStarted; cases held <;> dsimp only <;> split <;> rfl
theorem State.syncStarted_pins : (s.syncStarted held).pins
    = { s.pins with ready := false, traction := false, partnerReset := held } := by
  unfold State.syncStarted; cases held <;> dsimp only <;> split <;> rfl
theorem State.syncStarted_ptb : (s.syncStarted held).ptb = { s.ptb with demandTimer := Timer.started } := by
  unfold State.syncStarted; cases held <;> dsimp only <;> split <;> rfl
theorem State.syncStarted_sli : (s.syncStarted held).sli
    = { s.sli with line := .waitIdle 0, window := Timer.started, period := Timer.started } := by
  unfold State.syncStarted; cases held <;> dsimp only <;> split <;> rfl
theorem State.syncStarted_mpt : (s.syncStarted held).mpt = { s.mpt with recheck := Timer.started } := by
  unfold State.syncStarted; cases held <;> dsimp only <;> split <;> rfl
theorem State.syncStarted_stp : (s.syncStarted held).stp = if held then { s.stp with release := Timer.started }
    else { s.stp with exchange := Timer.started, settle := .running 0 } := by
  unfold State.syncStarted; cases held <;> dsimp only <;> split <;> rfl
theorem State.syncStarted_kept : KeptBut s (s.syncStarted held) [.nsq, .pins, .ptb, .sli, .mpt, .stp, .blu, .wau, .gsc] := by
  intro b hb
  unfold State.syncStarted
  cases b <;> first | exact absurd (by decide) hb | (cases held <;> dsimp only <;> split <;> rfl)

theorem State.enterSync_nsq : (s.enterSync held).nsq
    = { s.nsq with op := .sync, sync := .running 0, strapCheck := Timer.started } := by
  rw [← State.syncStarted_nsq s held]; exact State.reformOwn_kept _ .nsq (by decide)
theorem State.enterSync_pins : (s.enterSync held).pins
    = { s.pins with ready := false, traction := false, partnerReset := held } := by
  rw [← State.syncStarted_pins s held]; exact State.reformOwn_kept _ .pins (by decide)
theorem State.enterSync_ptb : (s.enterSync held).ptb = { s.ptb with demandTimer := Timer.started } := by
  rw [← State.syncStarted_ptb s held]; exact State.reformOwn_kept _ .ptb (by decide)
theorem State.enterSync_mpt : (s.enterSync held).mpt = { s.mpt with recheck := Timer.started } := by
  rw [← State.syncStarted_mpt s held]; exact State.reformOwn_kept _ .mpt (by decide)
theorem State.enterSync_stp : (s.enterSync held).stp = if held then { s.stp with release := Timer.started }
    else { s.stp with exchange := Timer.started, settle := .running 0 } := by
  rw [← State.syncStarted_stp s held]; exact State.reformOwn_kept _ .stp (by decide)
theorem State.enterSync_sli : (s.enterSync held).sli = { s.sli with
    line := .waitIdle 0, window := Timer.started, period := Timer.started, state := s.sli.state.promptRequest } := by
  have h : (s.syncStarted held).reformOwn.sli = (s.syncStarted held).sli := State.reformOwn_kept _ .sli (by decide)
  rw [State.enterSync_eq]
  simp only [State.setStu_sli, State.requestPrompt, State.setSli_sli, h, State.syncStarted_sli]
theorem State.enterSync_set : (s.enterSync held).stu.set = s.stu.set := by
  have h : (s.syncStarted held).reformOwn.stu = (s.syncStarted held).stu := State.reformOwn_kept _ .stu (by decide)
  have h2 : (s.syncStarted held).stu = s.stu := s.syncStarted_kept held .stu (by decide)
  rw [State.enterSync_eq]
  simp only [State.setStu_stu, State.requestPrompt_stu, h, h2]

end

theorem State.emptyItem_kept (s : State) (i : Nat) : KeptBut s (s.emptyItem i) [.wau, .stu, .blu, .plu, .gsc] := by
  have h : KeptBut s ((s.setWau (s.wau.resetItem s.role i)).putStatus .wearNear (anyNear (s.wau.resetItem s.role i).items))
      [.wau, .stu, .blu, .plu, .gsc] :=
    ((KeptBut.refl s _).setWau (by decide) _).putStatus (by decide) _ _
  unfold State.emptyItem
  dsimp only
  split
  · split
    · exact h.reformOwn (by decide)
    · exact h
  · split
    · exact h.trans ((State.formPackLimits_kept _).mono (by decide))
    · exact h
  all_goals exact h

theorem State.recordFailed_kept (s : State) (p : Partner) : KeptBut s (s.recordFailed p) [.stp, .stu] := by
  unfold State.recordFailed
  cases p
  all_goals
    dsimp only
    split
    · exact ((KeptBut.refl s _).setStp (by decide) _).putStatus (by decide) _ _
    · exact (KeptBut.refl s _).setStp (by decide) _

theorem State.holdPartner0_kept (s : State) (role : Role) (r : Partner0) : KeptBut s (s.holdPartner0 role r) [.stp, .stu] := by
  have hput : ∀ (t : State) (b : Bool) (x : Status), KeptBut s t [.stp, .stu] →
      KeptBut s (if b then t.putStatus x true else t) [.stp, .stu] := fun t b x h => by
    split
    · exact h.putStatus (by decide) _ _
    · exact h
  unfold State.holdPartner0
  cases role
  · exact hput _ _ _ (hput _ _ _ ((KeptBut.refl s _).setStp (by decide) _))
  · exact (KeptBut.refl s _).setStp (by decide) _
  · exact hput _ _ _ (hput _ _ _ ((KeptBut.refl s _).setStp (by decide) _))

/-- Judging a record changes the Stage Port and the statuses alone (R159 to R164). -/
theorem State.judge0_kept (s : State) (role : Role) (x : OwnReading) (record : List Byte) :
    KeptBut s (s.judge0 role x record) [.stp, .stu] := by
  have h : KeptBut s (s.setStp { s.stp with own := x }) [.stp, .stu] := (s.setStp_kept _).mono (by decide)
  unfold State.judge0
  dsimp only
  refine KeptBut.putStatus ?_ (by decide) _ _
  split
  · exact h.trans (State.recordFailed_kept _ _)
  · split
    · exact (h.trans (State.holdPartner0_kept _ _ _)).putStatus (by decide) _ _
    · exact h.trans (State.holdPartner0_kept _ _ _)

theorem State.judge1_kept (s : State) (role : Role) (record : List Byte) :
    KeptBut s (s.judge1 role record) [.stp, .stu] := by
  unfold State.judge1
  dsimp only
  refine KeptBut.putStatus ?_ (by decide) _ _
  split
  · exact State.recordFailed_kept _ _
  · exact (s.setStp_kept _).mono (by decide)

theorem State.takeOp_kept (s : State) (op : OpState) : KeptBut s (s.takeOp op) [.nsq, .pins, .blu, .plu, .gsc] :=
  KeptBut.reformOwn (((KeptBut.refl s _).setNsq (by decide) _).setPins (by decide) _) (by decide)

theorem State.takeOp_nsq (s : State) (op : OpState) : (s.takeOp op).nsq = { s.nsq with op := op } :=
  State.reformOwn_kept _ .nsq (by decide)

theorem Move.keeps_tableLaw (h : Move c s t) (hs : TableLaw s) : TableLaw t := by
  cases h with
  | nsq b op sample reset => 
    exact TableLaw.of_addresses (s := s) rfl (congrArg strapAddress sample : strapAddress b.sample = _) hs
  | ptb b table => exact table hs
  | reform => exact hs.of_kept s.reformOwn_kept (by decide) (by decide)
  | takeOp op serves hop =>
    have ptb : (s.takeOp op).ptb = s.ptb := s.takeOp_kept op .ptb (by decide)
    exact hs.of_addresses (by rw [ptb]) (by rw [State.ownAddress, State.takeOp_nsq]; rfl)
  | standby ready =>
    refine hs.of_addresses ?_ (by rw [State.ownAddress, State.enterStandby_nsq]; rfl)
    rw [State.enterStandby_ptb]
    simp [Function.comp_def]
  | reboot ended => exact .of_empty (by rw [State.hardReset_ptb]; rfl)
  | restart pending => exact .of_empty (by rw [State.restartReset, State.enterSync_ptb]; rfl)
  | wake standby => exact .of_empty (by rw [State.wakeReset, State.enterSync_ptb]; rfl)
  | putItem i x hi grows => exact hs.of_kept (s.putItem_kept i x) (by decide) (by decide)
  | emptyItem i hi hc => exact hs.of_kept (s.emptyItem_kept i) (by decide) (by decide)
  | packLimits => exact hs.of_kept s.formPackLimits_kept (by decide) (by decide)
  | judge0 role x record hc => exact hs.of_kept (s.judge0_kept role x record) (by decide) (by decide)
  | judge1 role record hc => exact hs.of_kept (s.judge1_kept role record) (by decide) (by decide)
  | _ => exact hs

theorem Move.keeps_queueLaw (h : Move c s t) (hs : QueueLaw s) : QueueLaw t := by
  cases h with
  | sli b queue => exact queue hs
  | reform => exact hs.of_kept s.reformOwn_kept (by decide)
  | takeOp op serves hop => exact hs.of_kept (s.takeOp_kept op) (by decide)
  | standby ready => exact hs.of_replies (by rw [State.enterStandby_sli])
  | reboot ended => exact .of_empty (by rw [State.hardReset_replies])
  | restart pending => exact .of_empty (by rw [State.restartReset, State.enterSync_sli]; rfl)
  | wake standby => exact .of_empty (by rw [State.wakeReset, State.enterSync_sli]; rfl)
  | putItem i x hi grows => exact hs.of_kept (s.putItem_kept i x) (by decide)
  | emptyItem i hi hc => exact hs.of_kept (s.emptyItem_kept i) (by decide)
  | packLimits => exact hs.of_kept s.formPackLimits_kept (by decide)
  | judge0 role x record hc => exact hs.of_kept (s.judge0_kept role x record) (by decide)
  | judge1 role record hc => exact hs.of_kept (s.judge1_kept role record) (by decide)
  | _ => exact hs

/-- What the opening of a command may change but for the resets and the boot load. -/
theorem State.loadImage_kept (s : State) (role : Role) (ack : Bool) : KeptBut s (s.loadImage role ack) [.mpt, .stu] := by
  unfold State.loadImage
  dsimp only
  split
  · exact (s.setMpt_kept _).mono (by decide)
  · exact ((KeptBut.refl s _).setMpt (by decide) _).putStatus (by decide) _ _

theorem State.loadRing_kept (s : State) (role : Role) (acks : BitVec 8) :
    KeptBut s (s.loadRing role acks) [.mpt, .stu, .wau] := by
  unfold State.loadRing
  split
  · exact ((KeptBut.refl s _).setWau (by decide) _).setMpt (by decide) _
  · exact (((KeptBut.refl s _).setWau (by decide) _).setMpt (by decide) _).putStatus (by decide) _ _

theorem State.restateWear_kept (s : State) : KeptBut s s.restateWear [.wau, .stu, .blu] := by
  have h : ∀ w v, KeptBut s ((s.setWau w).putStatus .wearNear v) [.wau, .stu, .blu] := fun w v =>
    ((KeptBut.refl s _).setWau (by decide) w).putStatus (by decide) _ _
  unfold State.restateWear
  dsimp only
  refine KeptBut.setBlu ?_ (by decide) _
  split
  · exact (h _ _).putStatus (by decide) _ _
  · exact h _ _

/-- The load before SYNC entry: the Memory Port, the wear accounts and their statuses. -/
def State.loaded (s : State) (role : Role) (imageAck : Bool) (slotAcks : BitVec 8) : State :=
  let s := ((s.loadImage role imageAck).loadRing role slotAcks).restateWear
  s.setMpt { s.mpt with op := .none }

theorem State.bootLoaded_eq (s : State) (role : Role) (a : Bool) (b : BitVec 8) :
    s.bootLoaded role a b = (s.loaded role a b).enterSync false := rfl

theorem State.loaded_kept (s : State) (role : Role) (a : Bool) (b : BitVec 8) :
    KeptBut s (s.loaded role a b) [.mpt, .stu, .wau, .blu] :=
  KeptBut.setMpt (((s.loadImage_kept role a).mono (by decide)).trans (((State.loadRing_kept _ role b).mono (by decide)).trans
    ((State.restateWear_kept _).mono (by decide)))) (by decide) _

theorem State.writeConfig_kept (s : State) (n : Nat) (mask value : Word) (o : WriteOutcome) :
    KeptBut s (s.writeConfig n mask value o) [.mpt, .free] := by
  unfold State.writeConfig
  cases o
  · exact ((KeptBut.refl s _).setMpt (by decide) _).setMpt (by decide) _
  · exact KeptBut.refl _ _
  · exact ((KeptBut.refl s _).setMpt (by decide) _).setFree (by decide) _
  · exact (KeptBut.refl s _).setMpt (by decide) _

theorem State.storedPage_kept (s : State) (job : FlushJob) : KeptBut s (s.storedPage job) [.mpt] := by
  unfold State.storedPage
  dsimp only
  split <;> exact ((KeptBut.refl s _).setMpt (by decide) _).setMpt (by decide) _

theorem State.upsetCopy_kept (s : State) (u : Option (BitVec 6 × Word)) : KeptBut s (s.upsetCopy u) [.mpt] := by
  rcases s.upsetCopy_cases u with h | ⟨n, bits, -, -, h⟩ <;> rw [h]
  · exact KeptBut.refl _ _
  · exact s.setMpt_kept _

/-- The openings: a reset, the boot load into SYNC, or bytes and flags of the Memory Port. -/
theorem State.opening_cases (s : State) (c : Instr) :
    s.opening c = s
      ∨ (∃ p, (c = .powerOn p ∧ s.opening c = (s.pinStraps p).hardReset .powerOn)
          ∨ (c = .brownOut p ∧ s.opening c = (s.pinStraps p).hardReset .brownOut))
      ∨ (∃ role a b, c = .bootLoadComplete a b ∧ s.role = some role ∧ s.nsq.op = .boot ∧ s.mpt.op = .bootLoad
          ∧ s.opening c = s.bootLoaded role a b)
      ∨ (∃ u, c = .recheckTimerExpiry u ∧ s.opening c = s.upsetCopy u)
      ∨ (∃ p job, c = .pageStored p ∧ s.mpt.op = .flush job ∧ s.opening c = (s.pinStraps p).storedPage job)
      ∨ (∃ p job, c = .pageTimeout p ∧ s.mpt.op = .flush job ∧ s.opening c = (s.pinStraps p).tearPage job)
      ∨ ∃ p o place n mask value, c = .configWriteComplete o p ∧ s.mpt.op = .configWrite place n mask value
          ∧ s.opening c = (s.pinStraps p).writeConfig n mask value o := by
  cases c with
  | powerOn p => exact .inr (.inl ⟨p, .inl ⟨rfl, rfl⟩⟩)
  | brownOut p => exact .inr (.inl ⟨p, .inr ⟨rfl, rfl⟩⟩)
  | bootLoadComplete a b =>
    cases hr : s.role with
    | none => exact .inl (by simp [State.opening, hr])
    | some role =>
      by_cases hb : s.nsq.op = .boot ∧ s.mpt.op = .bootLoad
      · exact .inr (.inr (.inl ⟨role, a, b, rfl, rfl, hb.1, hb.2, by simp [State.opening, hr, hb]⟩))
      · exact .inl (by simp [State.opening, hr, hb])
  | recheckTimerExpiry u =>
    by_cases h : ((s.serves || s.nsq.op == .standby) && s.mpt.recheck.due 100) = true
    · exact .inr (.inr (.inr (.inl ⟨u, rfl, if_pos h⟩)))
    · exact .inl (if_neg h)
  | pageStored p =>
    cases ho : s.mpt.op with
    | flush job => exact .inr (.inr (.inr (.inr (.inl ⟨p, job, rfl, rfl, by simp [State.opening, ho]⟩))))
    | none | bootLoad | configRead | configWrite => exact .inl (by simp [State.opening, ho])
  | pageTimeout p =>
    cases ho : s.mpt.op with
    | flush job =>
      by_cases h : s.mpt.poll.due 20 = true
      · exact .inr (.inr (.inr (.inr (.inr (.inl ⟨p, job, rfl, rfl, by simp [State.opening, ho, h]⟩)))))
      · exact .inl (by simp [State.opening, ho, h])
    | none | bootLoad | configRead | configWrite => exact .inl (by simp [State.opening, ho])
  | configWriteComplete o p =>
    cases ho : s.mpt.op with
    | configWrite place n mask value =>
      by_cases h : s.canEndWrite o = true
      · exact .inr (.inr (.inr (.inr (.inr (.inr ⟨p, o, place, n, mask, value, rfl, rfl, by simp [State.opening, ho, h]⟩)))))
      · exact .inl (by simp [State.opening, ho, h])
    | none | bootLoad | configRead | flush => exact .inl (by simp [State.opening, ho])
  | _ => exact .inl rfl

/-- But for the resets and the boot load an opening changes the pins and the Memory Port alone. -/
theorem State.opening_kept (s : State) (c : Instr) :
    (∃ p k, s.opening c = (s.pinStraps p).hardReset k)
      ∨ (∃ role a b, c = .bootLoadComplete a b ∧ s.role = some role ∧ s.nsq.op = .boot ∧ s.opening c = s.bootLoaded role a b)
      ∨ KeptBut s (s.opening c) [.pins, .mpt, .free] ∧ (s.opening c).pins.ready = s.pins.ready
        ∧ (s.opening c).pins.traction = s.pins.traction := by
  have hpins : ∀ p, KeptBut s (s.pinStraps p) [.pins, .mpt, .free] := fun p => (s.setPins_kept _).mono (by decide)
  rcases s.opening_cases c with h | ⟨p, ⟨-, h⟩ | ⟨-, h⟩⟩ | ⟨role, a, b, hc, hr, hb, -, h⟩ | ⟨u, -, h⟩ | ⟨p, job, -, -, h⟩
    | ⟨p, job, -, -, h⟩ | ⟨p, o, place, n, mask, value, -, -, h⟩
  · exact .inr (.inr (by rw [h]; exact ⟨KeptBut.refl _ _, rfl, rfl⟩))
  · exact .inl ⟨p, _, h⟩
  · exact .inl ⟨p, _, h⟩
  · exact .inr (.inl ⟨role, a, b, hc, hr, hb, h⟩)
  · have hp : (s.upsetCopy u).pins = s.pins := s.upsetCopy_kept u .pins (by decide)
    exact .inr (.inr (h ▸ ⟨(s.upsetCopy_kept u).mono (by decide), by rw [hp], by rw [hp]⟩))
  · have hp : ((s.pinStraps p).storedPage job).pins = (s.pinStraps p).pins := State.storedPage_kept _ _ .pins (by decide)
    exact .inr (.inr (h ▸ ⟨(hpins p).trans ((State.storedPage_kept _ _).mono (by decide)), by rw [hp]; rfl, by rw [hp]; rfl⟩))
  · exact .inr (.inr (h ▸ ⟨((hpins p).setMpt (by decide) _).setFree (by decide) _, rfl, rfl⟩))
  · have hp : ((s.pinStraps p).writeConfig n mask value o).pins = (s.pinStraps p).pins :=
      State.writeConfig_kept _ _ _ _ _ .pins (by decide)
    exact .inr (.inr (h ▸ ⟨(hpins p).trans ((State.writeConfig_kept _ _ _ _ _).mono (by decide)), by rw [hp]; rfl, by rw [hp]; rfl⟩))

theorem State.opening_keeps_tableLaw (c : Instr) (hs : TableLaw s) : TableLaw (s.opening c) := by
  rcases s.opening_kept c with ⟨p, k, h⟩ | ⟨role, a, b, -, -, -, h⟩ | ⟨h, -, -⟩
  · exact .of_empty (by rw [h, State.hardReset_ptb]; rfl)
  · have hptb : (s.loaded role a b).ptb = s.ptb := s.loaded_kept role a b .ptb (by decide)
    have hnsq : (s.loaded role a b).nsq = s.nsq := s.loaded_kept role a b .nsq (by decide)
    rw [h, State.bootLoaded_eq]
    exact hs.of_addresses (by rw [State.enterSync_ptb, hptb])
      (by rw [State.ownAddress, State.enterSync_nsq, hnsq]; rfl)
  · exact hs.of_kept h (by decide) (by decide)

theorem State.opening_keeps_queueLaw (c : Instr) (hs : QueueLaw s) : QueueLaw (s.opening c) := by
  rcases s.opening_kept c with ⟨p, k, h⟩ | ⟨role, a, b, -, -, -, h⟩ | ⟨h, -, -⟩
  · exact .of_empty (by rw [h, State.hardReset_replies])
  · have hsli : (s.loaded role a b).sli = s.sli := s.loaded_kept role a b .sli (by decide)
    rw [h, State.bootLoaded_eq]
    exact hs.of_replies (by rw [State.enterSync_sli, hsli])
  · exact hs.of_kept h (by decide)

/-- Settles O52: each opening, each move and the passage of time keep the addresses and the places in use, or empty them. -/
theorem everyStepKeepsTheTableAndTheQueue : Obligations.EveryStepKeepsTheTableAndTheQueue := by
  intro s t htable hqueue hstep
  refine step_induct (P := fun t => TableLaw t ∧ QueueLaw t) (fun _ => ⟨?_, hqueue.of_replies rfl⟩)
    (fun c rest _ => ⟨State.opening_keeps_tableLaw c htable, State.opening_keeps_queueLaw c hqueue⟩)
    (fun c rest a b _ hm h => ⟨hm.keeps_tableLaw h.1, hm.keeps_queueLaw h.2⟩) hstep
  refine TableLaw.of_addresses (s := s) ?_ rfl htable
  simp [State.elapse, PeerTable.pass, Function.comp_def]

end

end Sys2Proof.Machine
end

/-! # The operating state, the lines, the capabilities and the statuses that follow the records

The law of withdrawal holds again at the end of each event (R136, R138); the others are kept move by move. -/
section
namespace Sys2Proof.Machine

section
variable {c : Instr} {s t u : State}

/-! ### Every command answers, and keeps the queue -/

@[simp] theorem State.restartReset_eq (s : State) : s.restartReset = (s.keptBlocks .restart).enterSync true := rfl
@[simp] theorem State.wakeReset_eq (s : State) : s.wakeReset = (s.keptBlocks .wake).enterSync false := rfl

theorem Move.keeps_pending (h : Move c s t) : t.pending = s.pending := by
  cases h with
  | reform => exact s.reformOwn_kept.pending (by decide)
  | takeOp op serves hop => exact (s.takeOp_kept op).pending (by decide)
  | standby ready => exact s.enterStandby_kept.pending (by decide)
  | reboot ended => exact s.hardReset_pending _
  | restart pending => exact (State.enterSync_kept _ _).pending (by decide)
  | wake standby => exact (State.enterSync_kept _ _).pending (by decide)
  | putItem i x hi grows => exact (s.putItem_kept i x).pending (by decide)
  | emptyItem i hi hc => exact (s.emptyItem_kept i).pending (by decide)
  | packLimits => exact s.formPackLimits_kept.pending (by decide)
  | judge0 role x record hc => exact (s.judge0_kept role x record).pending (by decide)
  | judge1 role record hc => exact (s.judge1_kept role record).pending (by decide)
  | _ => rfl

theorem State.opening_pending (s : State) (c : Instr) : (s.opening c).pending = s.pending := by
  rcases s.opening_kept c with ⟨p, k, h⟩ | ⟨role, a, b, -, -, -, h⟩ | ⟨h, -, -⟩
  · rw [h, State.hardReset_pending]; rfl
  · rw [h, State.bootLoaded_eq, (State.enterSync_kept _ _).pending (by decide), (s.loaded_kept role a b).pending (by decide)]
  · exact h.pending (by decide)

/-- Settles O3: a command's opening and its moves leave the queue alone. -/
theorem commandsAnswerNextAndKeepTheQueue : Obligations.CommandsAnswerNextAndKeepTheQueue := by
  intro c s
  obtain ⟨t, ht, hm⟩ := exec_moves c s
  exact ⟨t, ht, hm.induct (s.opening_pending c) fun _ _ hmove h => hmove.keeps_pending.trans h⟩

/-! ### The discrete lines (Table 7.5-1) -/

theorem LinesLaw.of_eq (op : t.nsq.op = s.nsq.op) (ready : t.pins.ready = s.pins.ready)
    (traction : t.pins.traction = s.pins.traction) (hs : LinesLaw s) : LinesLaw t := by
  unfold LinesLaw
  rw [op, ready, traction]
  exact hs

theorem LinesLaw.of_kept {bs : List Block} (h : KeptBut s t bs) (hnsq : Block.nsq ∉ bs) (hpins : Block.pins ∉ bs)
    (hs : LinesLaw s) : LinesLaw t :=
  have nsq : t.nsq = s.nsq := h .nsq hnsq
  have pins : t.pins = s.pins := h .pins hpins
  hs.of_eq (by rw [nsq]) (by rw [pins]) (by rw [pins])

/-- Both lines are low in every state but ACTIVE and WITHDRAWN. -/
theorem LinesLaw.of_low (op : t.nsq.op ≠ .active ∧ t.nsq.op ≠ .withdrawn) (ready : t.pins.ready = false)
    (traction : t.pins.traction = false) : LinesLaw t := by
  unfold LinesLaw
  rw [ready, traction]
  cases h : t.nsq.op <;> simp_all

theorem State.takeOp_pins (s : State) (op : OpState) :
    (s.takeOp op).pins = { s.pins with ready := true, traction := op == .active } :=
  State.reformOwn_kept _ .pins (by decide)

theorem State.hardReset_low (s : State) (k : ResetKind) :
    ((s.hardReset k).nsq.op = .boot ∨ (s.hardReset k).nsq.op = .mute) ∧ (s.hardReset k).pins.ready = false
      ∧ (s.hardReset k).pins.traction = false := by
  rcases s.hardReset_cases k with ⟨role, -, h⟩ | ⟨-, h⟩ <;> rw [h]
  · exact ⟨.inl rfl, rfl, rfl⟩
  · exact ⟨.inr rfl, rfl, rfl⟩

theorem State.hardReset_lines (s : State) (k : ResetKind) : LinesLaw (s.hardReset k) := by
  obtain ⟨hop, hready, htraction⟩ := s.hardReset_low k
  exact .of_low (by rcases hop with h | h <;> rw [h] <;> decide) hready htraction

theorem State.enterSync_lines (s : State) (held : Bool) : LinesLaw (s.enterSync held) := by
  refine .of_low ?_ ?_ ?_
  · rw [State.enterSync_nsq]; simp
  all_goals rw [State.enterSync_pins]

theorem Move.keeps_linesLaw (h : Move c s t) (hs : LinesLaw s) : LinesLaw t := by
  cases h with
  | nsq b op sample reset => exact LinesLaw.of_eq (s := s) op rfl rfl hs
  | pins b ready traction => exact LinesLaw.of_eq (s := s) rfl ready traction hs
  | reform => exact hs.of_kept s.reformOwn_kept (by decide) (by decide)
  | takeOp op serves hop =>
    unfold LinesLaw
    rw [State.takeOp_nsq, State.takeOp_pins]
    rcases hop with rfl | rfl <;> exact ⟨rfl, rfl⟩
  | standby ready =>
    refine .of_low ?_ ?_ ?_
    · rw [State.enterStandby_nsq]; simp
    all_goals rw [State.enterStandby_pins]
  | reboot ended => exact s.hardReset_lines _
  | restart pending => exact State.enterSync_lines _ _
  | wake standby => exact State.enterSync_lines _ _
  | putItem i x hi grows => exact hs.of_kept (s.putItem_kept i x) (by decide) (by decide)
  | emptyItem i hi hc => exact hs.of_kept (s.emptyItem_kept i) (by decide) (by decide)
  | packLimits => exact hs.of_kept s.formPackLimits_kept (by decide) (by decide)
  | judge0 role x record hc => exact hs.of_kept (s.judge0_kept role x record) (by decide) (by decide)
  | judge1 role record hc => exact hs.of_kept (s.judge1_kept role record) (by decide) (by decide)
  | _ => exact hs

theorem State.opening_keeps_linesLaw (c : Instr) (hs : LinesLaw s) : LinesLaw (s.opening c) := by
  rcases s.opening_kept c with ⟨p, k, h⟩ | ⟨role, a, b, -, -, -, h⟩ | ⟨h, ready, traction⟩
  · rw [h]; exact State.hardReset_lines _ _
  · rw [h]; exact State.enterSync_lines _ _
  · have nsq : (s.opening c).nsq = s.nsq := h .nsq (by decide)
    exact hs.of_eq (by rw [nsq]) ready traction

/-! ### The droop factors (Table 3.1-1) -/

theorem FactorLaw.of_eq (gd : t.blu.gd = s.blu.gd) (gr : t.blu.gr = s.blu.gr) (hs : FactorLaw s) : FactorLaw t := by
  unfold FactorLaw
  rw [gd, gr]
  exact hs

/-- Re-forming the own capability record leaves the rest of the Blend Unit (R46). -/
theorem State.reformOwn_blu (s : State) : s.reformOwn.blu = { s.blu with own := s.reformOwn.blu.own } := by
  unfold State.reformOwn
  split <;> rfl

theorem State.formPackLimits_blu (s : State) : s.formPackLimits.blu = { s.blu with own := s.formPackLimits.blu.own } := by
  unfold State.formPackLimits
  exact State.reformOwn_blu (s.setPlu _)

theorem State.putItem_blu (s : State) (i : Nat) (x : WearItem) :
    (s.putItem i x).blu = { s.blu with own := (s.putItem i x).blu.own } := by
  unfold State.putItem
  dsimp only
  generalize hu : ite (x.state = .due ∧ (itemAt s.wau.items i).state ≠ .due) _ _ = u
  have hblu : u.blu = s.blu := by rw [← hu]; split <;> rfl
  split
  · split
    · rw [State.reformOwn_blu]; simp [hblu]
    · simp [hblu]
  · simp [hblu]

theorem State.emptyItem_blu (s : State) (i : Nat) : (s.emptyItem i).blu = { s.blu with own := (s.emptyItem i).blu.own } := by
  unfold State.emptyItem
  dsimp only
  split
  · split
    · exact State.reformOwn_blu _
    · rfl
  · split
    · exact State.formPackLimits_blu _
    · rfl
  all_goals rfl

theorem State.takeOp_blu (s : State) (op : OpState) : (s.takeOp op).blu = { s.blu with own := (s.takeOp op).blu.own } :=
  State.reformOwn_blu _

theorem FactorLaw.of_own (h : t.blu = { s.blu with own := t.blu.own }) (hs : FactorLaw s) : FactorLaw t :=
  hs.of_eq (by rw [h]) (by rw [h])

theorem FactorLaw.of_kept {bs : List Block} (h : KeptBut s t bs) (hblu : Block.blu ∉ bs) (hs : FactorLaw s) : FactorLaw t :=
  have blu : t.blu = s.blu := h .blu hblu
  hs.of_eq (by rw [blu]) (by rw [blu])

theorem FactorLaw.of_full (gd : t.blu.gd = 100) (gr : t.blu.gr = 100) : FactorLaw t := by
  unfold FactorLaw
  rw [gd, gr]
  exact ⟨le_refl _, le_refl _⟩

theorem State.roleStandby_factors (s : State) : s.roleStandby.blu.gd = s.blu.gd ∧ s.roleStandby.blu.gr = s.blu.gr := by
  unfold State.roleStandby
  split
  · simp only [State.writeSlot1_blu, State.writeSlot0_blu]
    rw [State.reformOwn_blu]; exact ⟨rfl, rfl⟩
  · simp only [State.writeSlot0_blu]
    rw [State.reformOwn_blu]; exact ⟨rfl, rfl⟩
  · simp only [State.writeSlot1_blu, State.writeSlot0_blu]
    rw [State.reformOwn_blu]; exact ⟨rfl, rfl⟩
  · exact ⟨rfl, rfl⟩

theorem State.enterStandby_blu (s : State) : s.enterStandby.blu = s.lowered.blu := by
  obtain ⟨p, -, -, h⟩ := s.enterStandby_eq
  rw [h]; rfl

/-- SYNC entry leaves the Blend Unit but for its ramp timer and its own record. -/
theorem State.enterSync_factors (s : State) (held : Bool) :
    (s.enterSync held).blu.gd = s.blu.gd ∧ (s.enterSync held).blu.gr = s.blu.gr := by
  have h : (s.syncStarted held).blu.gd = s.blu.gd ∧ (s.syncStarted held).blu.gr = s.blu.gr := by
    unfold State.syncStarted
    cases held <;> dsimp only <;> split <;> exact ⟨rfl, rfl⟩
  have hblu : (s.enterSync held).blu = (s.syncStarted held).reformOwn.blu := rfl
  rw [hblu, State.reformOwn_blu]
  exact h

theorem State.hardReset_blu (s : State) (k : ResetKind) : (s.hardReset k).blu = BlendUnit.initial 100 := by
  rcases s.hardReset_cases k with ⟨role, -, h⟩ | ⟨-, h⟩ <;> rw [h] <;> rfl

theorem Move.keeps_factorLaw (h : Move c s t) (hs : FactorLaw s) : FactorLaw t := by
  cases h with
  | blu b own factor => exact factor hs
  | reform => exact hs.of_own s.reformOwn_blu
  | takeOp op serves hop => exact hs.of_own (s.takeOp_blu op)
  | standby ready =>
    have hfactors := State.roleStandby_factors ((s.setNsq { s.nsq with
      op := .standby, sync := .stopped, strapCheck := s.nsq.strapCheck.halt, hold := s.nsq.hold.halt
      limit := s.nsq.limit.halt }).setPins { s.pins with ready := false, traction := false })
    exact hs.of_eq (by rw [State.enterStandby_blu]; exact hfactors.1) (by rw [State.enterStandby_blu]; exact hfactors.2)
  | reboot ended => exact .of_full (by rw [State.hardReset_blu]; rfl) (by rw [State.hardReset_blu]; rfl)
  | restart pending => exact .of_full (State.enterSync_factors _ _).1 (State.enterSync_factors _ _).2
  | wake standby => exact .of_full (State.enterSync_factors _ _).1 (State.enterSync_factors _ _).2
  | putItem i x hi grows => exact hs.of_own (s.putItem_blu i x)
  | emptyItem i hi hc => exact hs.of_own (s.emptyItem_blu i)
  | packLimits => exact hs.of_own s.formPackLimits_blu
  | judge0 role x record hc => exact hs.of_kept (s.judge0_kept role x record) (by decide)
  | judge1 role record hc => exact hs.of_kept (s.judge1_kept role record) (by decide)
  | _ => exact hs

theorem State.restateWear_blu (s : State) : s.restateWear.blu = { s.blu with own := s.restateWear.blu.own } := by
  unfold State.restateWear
  dsimp only
  split <;> rfl

theorem State.loaded_blu (s : State) (role : Role) (a : Bool) (b : BitVec 8) :
    (s.loaded role a b).blu = { s.blu with own := (s.loaded role a b).blu.own } := by
  have h1 : (s.loadImage role a).blu = s.blu := s.loadImage_kept role a .blu (by decide)
  have h2 : ((s.loadImage role a).loadRing role b).blu = s.blu := (State.loadRing_kept _ role b .blu (by decide)).trans h1
  unfold State.loaded
  dsimp only [State.setMpt_blu]
  rw [State.restateWear_blu, h2]

theorem State.opening_keeps_factorLaw (c : Instr) (hs : FactorLaw s) : FactorLaw (s.opening c) := by
  rcases s.opening_kept c with ⟨p, k, h⟩ | ⟨role, a, b, -, -, -, h⟩ | ⟨h, -, -⟩
  · exact .of_full (by rw [h, State.hardReset_blu]; rfl) (by rw [h, State.hardReset_blu]; rfl)
  · rw [h, State.bootLoaded_eq]
    obtain ⟨gd, gr⟩ := State.enterSync_factors (s.loaded role a b) false
    exact hs.of_eq (by rw [gd, State.loaded_blu]) (by rw [gr, State.loaded_blu])
  · exact hs.of_kept h (by decide)

end
end Sys2Proof.Machine
end

/-! # The withdrawal laws: capabilities, PARTNER_FAULT, and the agreement of the operating state -/
section
namespace Sys2Proof.Machine

section
variable {c : Instr} {s t u : State}

/-! ### The advertised capabilities (R45, R70, R86, R137) -/

/-- The capabilities of the roles that the node does not have are 0. -/
def OthersZero (s : State) : Prop :=
  (s.role ≠ some .axle → s.blu.own.pd = 0 ∧ s.blu.own.pr = 0)
    ∧ (s.role ≠ some .pack → s.plu.own.po = 0 ∧ s.plu.own.pa = 0)
    ∧ (s.role ≠ some .genset → s.gsc.ownPo = 0 ∧ s.gsc.ownPa = 0)

theorem AdvertisedLaw.others (h : AdvertisedLaw s) : OthersZero s :=
  ⟨fun hr => h.1 fun hh => hr hh.2, fun hr => h.2.1 fun hh => hr hh.2, fun hr => h.2.2 fun hh => hr hh.2⟩

/-- Own parts that are as before, in a node of the same role. -/
theorem OthersZero.of_eq (role : t.role = s.role) (blu : t.blu.own = s.blu.own) (plu : t.plu.own = s.plu.own)
    (po : t.gsc.ownPo = s.gsc.ownPo) (pa : t.gsc.ownPa = s.gsc.ownPa) (hs : OthersZero s) : OthersZero t := by
  unfold OthersZero
  rw [role, blu, plu, po, pa]
  exact hs

theorem OthersZero.of_zero (pd : s.blu.own.pd = 0) (pr : s.blu.own.pr = 0) (po : s.plu.own.po = 0) (pa : s.plu.own.pa = 0)
    (gpo : s.gsc.ownPo = 0) (gpa : s.gsc.ownPa = 0) : OthersZero s :=
  ⟨fun _ => ⟨pd, pr⟩, fun _ => ⟨po, pa⟩, fun _ => ⟨gpo, gpa⟩⟩

theorem AdvertisedLaw.of_zero (pd : s.blu.own.pd = 0) (pr : s.blu.own.pr = 0) (po : s.plu.own.po = 0)
    (pa : s.plu.own.pa = 0) (gpo : s.gsc.ownPo = 0) (gpa : s.gsc.ownPa = 0) : AdvertisedLaw s :=
  ⟨fun _ => ⟨pd, pr⟩, fun _ => ⟨po, pa⟩, fun _ => ⟨gpo, gpa⟩⟩

theorem AdvertisedLaw.of_eq (op : t.nsq.op = s.nsq.op) (role : t.role = s.role) (blu : t.blu.own = s.blu.own)
    (plu : t.plu.own = s.plu.own) (po : t.gsc.ownPo = s.gsc.ownPo) (pa : t.gsc.ownPa = s.gsc.ownPa)
    (hs : AdvertisedLaw s) : AdvertisedLaw t := by
  unfold AdvertisedLaw
  rw [op, role, blu, plu, po, pa]
  exact hs

theorem AdvertisedLaw.of_kept {bs : List Block} (h : KeptBut s t bs) (nsq : Block.nsq ∉ bs) (blu : Block.blu ∉ bs)
    (plu : Block.plu ∉ bs) (gsc : Block.gsc ∉ bs) (hs : AdvertisedLaw s) : AdvertisedLaw t :=
  have hnsq : t.nsq = s.nsq := h .nsq nsq
  have hblu : t.blu = s.blu := h .blu blu
  have hplu : t.plu = s.plu := h .plu plu
  have hgsc : t.gsc = s.gsc := h .gsc gsc
  hs.of_eq (by rw [hnsq]) (by rw [State.role, State.role, hnsq]) (by rw [hblu]) (by rw [hplu]) (by rw [hgsc]) (by rw [hgsc])

/-- Only an ACTIVE axle offers drive and regeneration (R137). -/
theorem axleRecord_zero (c : List Word) {op : OpState} (h0 : Option Partner0) (h1 : Option Partner1) (q : Nat)
    (slip : SlipState) (l : Nat) (h : op ≠ .active) :
    (axleRecord c op h0 h1 q slip l).pd = 0 ∧ (axleRecord c op h0 h1 q slip l).pr = 0 := by
  simp [axleRecord, axlePd, axlePr, h]

/-- The own capability record re-formed meets the law of R137, where the parts of the other roles do. -/
theorem OthersZero.reformOwn (h : OthersZero s) : AdvertisedLaw s.reformOwn := by
  obtain ⟨axle, pack, genset⟩ := h
  have hnsq : s.reformOwn.nsq = s.nsq := s.reformOwn_kept .nsq (by decide)
  have hrole : s.reformOwn.role = s.role := by rw [State.role, State.role, hnsq]
  unfold AdvertisedLaw
  rw [hnsq, hrole]
  unfold State.reformOwn
  split
  · next hr =>
    refine ⟨fun hop => axleRecord_zero _ _ _ _ _ _ fun ho => hop ⟨ho, hr⟩, fun _ => pack ?_, fun _ => genset ?_⟩ <;> simp [hr]
  · next hr =>
    refine ⟨fun _ => axle ?_, fun hop => ?_, fun _ => genset ?_⟩
    · simp [hr]
    · have ho : s.nsq.op ≠ .active := fun ho => hop ⟨ho, hr⟩
      simp [PackUnit.advertise, ho]
    · simp [hr]
  · next hr =>
    refine ⟨fun _ => axle ?_, fun _ => pack ?_, fun hop => ?_⟩
    · simp [hr]
    · simp [hr]
    · have ho : s.nsq.op ≠ .active := fun ho => hop ⟨ho, hr⟩
      simp [Genset.reform, ho]
  · next hr => refine ⟨fun _ => axle ?_, fun _ => pack ?_, fun _ => genset ?_⟩ <;> simp [hr]

theorem AdvertisedLaw.reform (h : AdvertisedLaw s) : AdvertisedLaw s.reformOwn := h.others.reformOwn

theorem AdvertisedLaw.packLimits (h : AdvertisedLaw s) : AdvertisedLaw s.formPackLimits := by
  have h1 : OthersZero (s.setPlu (s.plu.formLimits s.mpt.copy (packReading s.stp.held1) s.wau.dw)) :=
    h.others.of_eq rfl rfl rfl rfl rfl
  exact AdvertisedLaw.of_eq rfl rfl rfl rfl rfl rfl h1.reformOwn

theorem AdvertisedLaw.putItem (i : Nat) (x : WearItem) (h : AdvertisedLaw s) : AdvertisedLaw (s.putItem i x) := by
  unfold State.putItem
  dsimp only
  generalize hu : ite (x.state = .due ∧ (itemAt s.wau.items i).state ≠ .due) _ _ = u
  have hlaw : AdvertisedLaw u := by
    rw [← hu]
    split <;> exact AdvertisedLaw.of_eq (s := s) rfl rfl rfl rfl rfl rfl h
  have hderived : ∀ w, AdvertisedLaw (u.setWau w) := fun w => AdvertisedLaw.of_eq (s := u) rfl rfl rfl rfl rfl rfl hlaw
  split
  · split
    · exact (hderived _).reform
    · exact hderived _
  · exact hlaw

theorem AdvertisedLaw.emptyItem (i : Nat) (h : AdvertisedLaw s) : AdvertisedLaw (s.emptyItem i) := by
  unfold State.emptyItem
  dsimp only
  have h1 : AdvertisedLaw ((s.setWau (s.wau.resetItem s.role i)).putStatus .wearNear
      (anyNear (s.wau.resetItem s.role i).items)) := AdvertisedLaw.of_eq (s := s) rfl rfl rfl rfl rfl rfl h
  split
  · split
    · exact h1.reform
    · exact h1
  · split
    · exact h1.packLimits
    · exact h1
  all_goals exact h1

theorem OthersZero.takeOp (op : OpState) (h : OthersZero s) : AdvertisedLaw (s.takeOp op) :=
  OthersZero.reformOwn (OthersZero.of_eq (s := s) rfl rfl rfl rfl rfl h)

/-- The role block's part of STANDBY entry re-forms the own capability record (R68, R84, R104). -/
theorem OthersZero.roleStandby (h : OthersZero s) : AdvertisedLaw s.roleStandby := by
  unfold State.roleStandby
  split
  · exact AdvertisedLaw.of_eq rfl rfl rfl rfl rfl rfl
      (OthersZero.reformOwn (s := s.setBlu { s.blu with
        dE := 0, rE := 0, fE := 0, torque := 0, pressure := 0
        rampTimer := s.blu.rampTimer.halt, slipHold := s.blu.slipHold.halt }) (OthersZero.of_eq (s := s) rfl rfl rfl rfl rfl h))
  · exact AdvertisedLaw.of_eq rfl rfl rfl rfl rfl rfl
      (OthersZero.reformOwn (s := s.setPlu { s.plu with iDis := 0, iChg := 0 }) (OthersZero.of_eq (s := s) rfl rfl rfl rfl rfl h))
  · exact AdvertisedLaw.of_eq rfl rfl rfl rfl rfl rfl
      (OthersZero.reformOwn (s := s.setGsc { s.gsc with
        command := .stop
        tick := s.gsc.tick.halt, off := s.gsc.off.halt, crank := s.gsc.crank.halt, warm := s.gsc.warm.halt
        run := s.gsc.run.halt, cooldown := s.gsc.cooldown.halt }) (OthersZero.of_eq (s := s) rfl rfl rfl rfl rfl h))
  · next hr =>
    obtain ⟨axle, pack, genset⟩ := h
    exact ⟨fun _ => axle (by simp [hr]), fun _ => pack (by simp [hr]), fun _ => genset (by simp [hr])⟩

theorem State.enterStandby_own : s.enterStandby.blu = s.lowered.blu ∧ s.enterStandby.plu = s.lowered.plu
    ∧ s.enterStandby.gsc = s.lowered.gsc := by
  obtain ⟨p, -, -, h⟩ := s.enterStandby_eq
  simp [h]

theorem AdvertisedLaw.enterStandby (h : AdvertisedLaw s) : AdvertisedLaw s.enterStandby := by
  have hlow : AdvertisedLaw s.lowered := by
    unfold State.lowered
    exact OthersZero.roleStandby (OthersZero.of_eq (s := s) rfl rfl rfl rfl rfl h.others)
  obtain ⟨blu, plu, gsc⟩ := s.enterStandby_own
  refine hlow.of_eq ?_ ?_ (by rw [blu]) (by rw [plu]) (by rw [gsc]) (by rw [gsc])
  · rw [State.enterStandby_nsq, State.lowered_nsq]
  · rw [State.role, State.role, State.enterStandby_nsq, State.lowered_nsq]

/-- SYNC entry re-forms the own capability record, in SYNC (R178). -/
theorem OthersZero.enterSync (held : Bool) (h : OthersZero s) : AdvertisedLaw (s.enterSync held) := by
  have hrole : (s.syncStarted held).role = s.role := by rw [State.role, State.syncStarted_nsq]; rfl
  have h1 : OthersZero (s.syncStarted held) := by
    refine h.of_eq hrole ?_ ?_ ?_ ?_
    all_goals
      unfold State.syncStarted
      cases held <;> dsimp only <;> split <;> rfl
  rw [State.enterSync_eq]
  exact AdvertisedLaw.of_eq rfl rfl rfl rfl rfl rfl h1.reformOwn

theorem State.keptBlocks_others (s : State) (k : ResetKind) : OthersZero (s.keptBlocks k) :=
  OthersZero.of_zero rfl rfl rfl rfl rfl rfl

theorem State.hardReset_advertised (s : State) (k : ResetKind) : AdvertisedLaw (s.hardReset k) := by
  rcases s.hardReset_cases k with ⟨role, -, h⟩ | ⟨-, h⟩ <;> rw [h] <;> exact AdvertisedLaw.of_zero rfl rfl rfl rfl rfl rfl

theorem Move.keeps_advertisedLaw (h : Move c s t) (hs : AdvertisedLaw s) : AdvertisedLaw t := by
  cases h with
  | nsq b op sample reset => exact AdvertisedLaw.of_eq (s := s) op (congrArg strapRole sample) rfl rfl rfl rfl hs
  | blu b own factor => exact AdvertisedLaw.of_eq (s := s) rfl rfl own rfl rfl rfl hs
  | plu b own formed => exact AdvertisedLaw.of_eq (s := s) rfl rfl rfl own rfl rfl hs
  | gsc b po pa drifts => exact AdvertisedLaw.of_eq (s := s) rfl rfl rfl rfl po pa hs
  | reform => exact hs.reform
  | takeOp op serves hop => exact hs.others.takeOp op
  | standby ready => exact hs.enterStandby
  | reboot ended => exact s.hardReset_advertised _
  | restart pending => exact (s.keptBlocks_others _).enterSync _
  | wake standby => exact (s.keptBlocks_others _).enterSync _
  | putItem i x hi grows => exact hs.putItem i x
  | emptyItem i hi hc => exact hs.emptyItem i
  | packLimits => exact hs.packLimits
  | judge0 role x record hc =>
    exact hs.of_kept (s.judge0_kept role x record) (by decide) (by decide) (by decide) (by decide)
  | judge1 role record hc =>
    exact hs.of_kept (s.judge1_kept role record) (by decide) (by decide) (by decide) (by decide)
  | _ => exact hs

theorem State.restateWear_own (s : State) : s.restateWear.blu.own = { s.blu.own with q := s.restateWear.wau.q } := by
  unfold State.restateWear
  dsimp only
  split <;> rfl

/-- The load changes the pad weight of the own capability record alone. -/
theorem State.loaded_own (s : State) (role : Role) (a : Bool) (b : BitVec 8) :
    (s.loaded role a b).blu.own = { s.blu.own with q := (s.loaded role a b).wau.q } := by
  have h1 : (s.loadImage role a).blu = s.blu := s.loadImage_kept role a .blu (by decide)
  have h2 : ((s.loadImage role a).loadRing role b).blu = s.blu := (State.loadRing_kept _ role b .blu (by decide)).trans h1
  unfold State.loaded
  dsimp only [State.setMpt_blu, State.setMpt_wau]
  rw [State.restateWear_own, h2]

theorem State.opening_keeps_advertisedLaw (c : Instr) (hs : AdvertisedLaw s) : AdvertisedLaw (s.opening c) := by
  rcases s.opening_kept c with ⟨p, k, h⟩ | ⟨role, a, b, -, -, -, h⟩ | ⟨h, -, -⟩
  · rw [h]; exact State.hardReset_advertised _ _
  · have kept := s.loaded_kept role a b
    have nsq : (s.loaded role a b).nsq = s.nsq := kept .nsq (by decide)
    have plu : (s.loaded role a b).plu = s.plu := kept .plu (by decide)
    have gsc : (s.loaded role a b).gsc = s.gsc := kept .gsc (by decide)
    have hrole : (s.loaded role a b).role = s.role := by rw [State.role, State.role, nsq]
    rw [h, State.bootLoaded_eq]
    refine OthersZero.enterSync false ?_
    unfold OthersZero
    rw [hrole, State.loaded_own, plu, gsc]
    exact hs.others
  · exact hs.of_kept h (by decide) (by decide) (by decide) (by decide)

/-! ### PARTNER_FAULT (R162) -/

theorem FaultLaw.of_eq (fault : t.status .partnerFault = s.status .partnerFault) (role : t.role = s.role)
    (held0 : t.stp.held0 = s.stp.held0) (held1 : t.stp.held1 = s.stp.held1) (hs : FaultLaw s) : FaultLaw t := by
  unfold FaultLaw
  rw [fault, role, held0, held1]
  exact hs

/-- No record held and the status clear, as every reset leaves them (R166). -/
theorem FaultLaw.of_none (fault : t.status .partnerFault = false) (held0 : t.stp.held0 = none) (held1 : t.stp.held1 = none) :
    FaultLaw t := by
  unfold FaultLaw
  rw [fault, held0, held1]
  unfold partnerFaultHolds
  split <;> first | rfl | simp_all

theorem State.status_of_stu (x : Status) (h : t.stu = s.stu) : t.status x = s.status x := by
  rw [State.status, State.status, h]

theorem FaultLaw.of_kept {bs : List Block} (h : KeptBut s t bs) (nsq : Block.nsq ∉ bs) (stu : Block.stu ∉ bs)
    (stp : Block.stp ∉ bs) (hs : FaultLaw s) : FaultLaw t :=
  have hnsq : t.nsq = s.nsq := h .nsq nsq
  have hstp : t.stp = s.stp := h .stp stp
  hs.of_eq (State.status_of_stu _ (h .stu stu)) (by rw [State.role, State.role, hnsq]) (by rw [hstp]) (by rw [hstp])

/-- A status that a set within a mask does not show is clear. -/
theorem statusIn_keptSet_partnerFault : statusIn keptSet .partnerFault = false := by decide

theorem State.keptBlocks_fault (s : State) (k : ResetKind) : (s.keptBlocks k).status .partnerFault = false := by
  show statusIn (statusPut (statusPut (s.stu.set &&& keptSet) .wearNear _) .wearDue _) .partnerFault = false
  rw [statusIn_statusPut, statusIn_statusPut, statusIn_and, statusIn_keptSet_partnerFault]
  simp

theorem State.enterSync_status (s : State) (held : Bool) (x : Status) : (s.enterSync held).status x = s.status x := by
  rw [State.status, State.status, State.enterSync_set]

theorem State.keptBlocks_enterSync_fault (s : State) (k : ResetKind) (held : Bool) :
    FaultLaw ((s.keptBlocks k).enterSync held) := by
  refine FaultLaw.of_none ?_ ?_ ?_
  · rw [State.enterSync_status, State.keptBlocks_fault]
  all_goals
    rw [State.enterSync_stp]
    cases held <;> rfl

theorem State.hardReset_fault (s : State) (k : ResetKind) : FaultLaw (s.hardReset k) := by
  rcases s.hardReset_cases k with ⟨role, -, h⟩ | ⟨-, h⟩ <;> rw [h] <;> refine FaultLaw.of_none ?_ rfl rfl
  · show statusIn 0 _ = false; decide
  · show statusIn 0 _ = false; decide

/-- A wear item replaced touches WEAR_NEAR and WEAR_DUE alone. -/
theorem State.putItem_status (s : State) (i : Nat) (x : WearItem) {y : Status} (h1 : y ≠ .wearNear) (h2 : y ≠ .wearDue) :
    (s.putItem i x).status y = s.status y := by
  unfold State.putItem
  dsimp only
  generalize hu : ite (x.state = .due ∧ (itemAt s.wau.items i).state ≠ .due) _ _ = u
  have hy : u.status y = s.status y := by
    rw [← hu]
    split
    · rw [State.putStatus_status_ne _ _ h2, State.putStatus_status_ne _ _ h1]; rfl
    · rw [State.putStatus_status_ne _ _ h1]; rfl
  split
  · split
    · rw [State.status_of_stu y ((State.reformOwn_kept (u.setWau _)) .stu (by decide))]; exact hy
    · exact hy
  · exact hy

theorem State.formPackLimits_status (s : State) {y : Status} (h : y ≠ .derate) : s.formPackLimits.status y = s.status y := by
  unfold State.formPackLimits
  dsimp only
  rw [State.putStatus_status_ne _ _ h]
  exact State.status_of_stu y (State.reformOwn_kept (s.setPlu _) .stu (by decide))

theorem State.emptyItem_status (s : State) (i : Nat) {y : Status} (h1 : y ≠ .wearNear) (h2 : y ≠ .derate) :
    (s.emptyItem i).status y = s.status y := by
  have h : ∀ w v, ((s.setWau w).putStatus .wearNear v).status y = s.status y := fun w v => by
    rw [State.putStatus_status_ne _ _ h1]; rfl
  unfold State.emptyItem
  dsimp only
  split
  · split
    · rw [State.status_of_stu y (State.reformOwn_kept _ .stu (by decide))]; exact h _ _
    · exact h _ _
  · split
    · rw [State.formPackLimits_status _ h2]; exact h _ _
    · exact h _ _
  all_goals exact h _ _

theorem State.judge0_fault (s : State) (role : Role) (x : OwnReading) (record : List Byte) : FaultLaw (s.judge0 role x record) :=
  State.putStatus_status_self _ _ _

theorem State.judge1_fault (s : State) (role : Role) (record : List Byte) : FaultLaw (s.judge1 role record) :=
  State.putStatus_status_self _ _ _

theorem State.enterStandby_held (s : State) :
    s.enterStandby.stp.held0 = s.stp.held0 ∧ s.enterStandby.stp.held1 = s.stp.held1 := by
  have h : ∀ t : State, t.roleStandby.stp.held0 = t.stp.held0 ∧ t.roleStandby.stp.held1 = t.stp.held1 := fun t => by
    have hr : ∀ u : State, u.reformOwn.stp = u.stp := fun u => u.reformOwn_kept .stp (by decide)
    unfold State.roleStandby State.writeSlot0 State.writeSlot1
    split <;> simp [hr]
  obtain ⟨p, h0, h1, he⟩ := s.enterStandby_eq
  rw [he]
  exact ⟨h0.trans (h _).1, h1.trans (h _).2⟩

theorem Move.keeps_faultLaw (h : Move c s t) (hs : FaultLaw s) : FaultLaw t := by
  cases h with
  | nsq b op sample reset => exact FaultLaw.of_eq (s := s) rfl (congrArg strapRole sample) rfl rfl hs
  | stu b fault => exact FaultLaw.of_eq (s := s) fault rfl rfl rfl hs
  | stp b held0 held1 => exact FaultLaw.of_eq (s := s) rfl rfl held0 held1 hs
  | reform => exact hs.of_kept s.reformOwn_kept (by decide) (by decide) (by decide)
  | takeOp op serves hop =>
    have kept := s.takeOp_kept op
    have stp : (s.takeOp op).stp = s.stp := kept .stp (by decide)
    refine hs.of_eq (State.status_of_stu _ (kept .stu (by decide))) ?_ (by rw [stp]) (by rw [stp])
    rw [State.role, State.role, State.takeOp_nsq]
  | standby ready =>
    obtain ⟨held0, held1⟩ := s.enterStandby_held
    exact hs.of_eq (State.status_of_stu _ s.enterStandby_stu) (by rw [State.role, State.role, State.enterStandby_nsq])
      held0 held1
  | reboot ended => exact s.hardReset_fault _
  | restart pending => exact s.keptBlocks_enterSync_fault _ _
  | wake standby => exact s.keptBlocks_enterSync_fault _ _
  | putItem i x hi grows =>
    have kept := s.putItem_kept i x
    have nsq : (s.putItem i x).nsq = s.nsq := kept .nsq (by decide)
    have stp : (s.putItem i x).stp = s.stp := kept .stp (by decide)
    exact hs.of_eq (s.putItem_status i x (by decide) (by decide)) (by rw [State.role, State.role, nsq]) (by rw [stp]) (by rw [stp])
  | emptyItem i hi hc =>
    have kept := s.emptyItem_kept i
    have nsq : (s.emptyItem i).nsq = s.nsq := kept .nsq (by decide)
    have stp : (s.emptyItem i).stp = s.stp := kept .stp (by decide)
    exact hs.of_eq (s.emptyItem_status i (by decide) (by decide)) (by rw [State.role, State.role, nsq]) (by rw [stp]) (by rw [stp])
  | packLimits =>
    have nsq : s.formPackLimits.nsq = s.nsq := s.formPackLimits_kept .nsq (by decide)
    have stp : s.formPackLimits.stp = s.stp := s.formPackLimits_kept .stp (by decide)
    exact hs.of_eq (s.formPackLimits_status (by decide)) (by rw [State.role, State.role, nsq]) (by rw [stp]) (by rw [stp])
  | judge0 role x record hc => exact s.judge0_fault role x record
  | judge1 role record hc => exact s.judge1_fault role record
  | _ => exact hs

/-- The load latches CFG_DEFAULT, WEAR_BLANK and WEAR_DUE and puts WEAR_NEAR, no other status (R126, R168). -/
theorem State.loaded_status (s : State) (role : Role) (a : Bool) (b : BitVec 8) {y : Status} (h1 : y ≠ .cfgDefault)
    (h2 : y ≠ .wearBlank) (h3 : y ≠ .wearNear) (h4 : y ≠ .wearDue) : (s.loaded role a b).status y = s.status y := by
  have himage : ∀ t : State, (t.loadImage role a).status y = t.status y := fun t => by
    unfold State.loadImage
    dsimp only
    split
    · rfl
    · rw [State.putStatus_status_ne _ _ h1]; rfl
  have hring : ∀ t : State, (t.loadRing role b).status y = t.status y := fun t => by
    unfold State.loadRing
    split
    · rfl
    · rw [State.putStatus_status_ne _ _ h2]; rfl
  have hwear : ∀ t : State, t.restateWear.status y = t.status y := fun t => by
    unfold State.restateWear
    dsimp only
    split
    · show (State.putStatus _ _ _).status y = _
      rw [State.putStatus_status_ne _ _ h4, State.putStatus_status_ne _ _ h3]; rfl
    · show (State.putStatus _ _ _).status y = _
      rw [State.putStatus_status_ne _ _ h3]; rfl
  exact (hwear _).trans ((hring _).trans (himage s))

theorem State.opening_keeps_faultLaw (c : Instr) (hs : FaultLaw s) : FaultLaw (s.opening c) := by
  rcases s.opening_kept c with ⟨p, k, h⟩ | ⟨role, a, b, -, -, -, h⟩ | ⟨h, -, -⟩
  · rw [h]; exact State.hardReset_fault _ _
  · have kept := s.loaded_kept role a b
    have nsq : (s.loaded role a b).nsq = s.nsq := kept .nsq (by decide)
    have stp : (s.loaded role a b).stp = s.stp := kept .stp (by decide)
    rw [h, State.bootLoaded_eq]
    refine hs.of_eq ?_ ?_ ?_ ?_
    · rw [State.enterSync_status, s.loaded_status role a b (by decide) (by decide) (by decide) (by decide)]
    · rw [State.role, State.role, State.enterSync_nsq, nsq]
    · rw [State.enterSync_stp, stp]; rfl
    · rw [State.enterSync_stp, stp]; rfl
  · exact hs.of_kept h (by decide) (by decide) (by decide)

end
end Sys2Proof.Machine
end

/-! # The operating state, the withdrawing set and the F value agree after every step -/
section
namespace Sys2Proof.Machine

section
variable {c : Instr} {s t u : State}

/-! ### What changes of operating state leave of the withdrawing set (R136) -/

theorem State.withdraws_of_stu (h : t.stu = s.stu) : t.withdraws = s.withdraws := by
  rw [State.withdraws, State.withdraws, h]

/-- A flush that STANDBY entry waits on leaves the withdrawing set, and the operating state but for STANDBY entry itself
(R180). -/
theorem State.testStandby_op (s : State) :
    (s.testStandby.nsq.op = s.nsq.op ∨ s.testStandby.nsq.op = .standby) ∧ s.testStandby.withdraws = s.withdraws := by
  have hfail : ∀ t : State, (t.reportFlush false [.standby]).nsq.op = t.nsq.op
      ∨ (t.reportFlush false [.standby]).nsq.op = .standby := fun t => by
    show (if t.standbyReady then t.enterStandby else t).nsq.op = _
      ∨ (if t.standbyReady then t.enterStandby else t).nsq.op = _
    split
    · exact .inr (by rw [State.enterStandby_nsq])
    · exact .inl rfl
  have hstu : ∀ t : State, (t.reportFlush false [.standby]).stu = t.stu := fun t => by
    show (if t.standbyReady then t.enterStandby else t).stu = _
    split
    · exact t.enterStandby_stu
    · rfl
  rcases s.testStandby_cases with h | h <;> rw [h]
  · by_cases ho : s.mpt.op = .none
    · rw [State.requestFlush_idle ho]
      unfold State.launchFlush
      split
      · exact ⟨.inl rfl, rfl⟩
      · unfold State.concludeFlush
        dsimp only [Bool.false_eq_true, if_false]
        refine ⟨hfail _, ?_⟩
        rw [State.withdraws_of_stu (hstu _)]
        exact State.putStatus_withdraws _ _ (by decide)
    · rw [State.requestFlush_busy ho]
      exact ⟨.inl rfl, rfl⟩
  · exact ⟨.inl rfl, rfl⟩

theorem State.enterEngine_op (s : State) (e : EngineState) :
    (s.enterEngine e).nsq = s.nsq ∧ (s.enterEngine e).stu = s.stu :=
  ⟨s.enterEngine_kept e .nsq (by decide), s.enterEngine_kept e .stu (by decide)⟩

theorem State.engineOff_op (s : State) (n : Nat) :
    ((s.engineOff n).nsq.op = s.nsq.op ∨ (s.engineOff n).nsq.op = .standby) ∧ (s.engineOff n).withdraws = s.withdraws := by
  unfold State.engineOff
  dsimp only
  generalize hg : s.setGsc _ = u
  have hu : u.nsq = s.nsq ∧ u.stu = s.stu := by rw [← hg]; exact ⟨rfl, rfl⟩
  obtain ⟨hop, hw⟩ := (u.enterEngine .off).testStandby_op
  obtain ⟨hnsq, hstu⟩ := u.enterEngine_op .off
  rw [hnsq, hu.1] at hop
  exact ⟨hop, hw.trans (State.withdraws_of_stu (hstu.trans hu.2))⟩

theorem State.engineWithdrawn_op (s : State) :
    (s.engineWithdrawn.nsq.op = s.nsq.op ∨ s.engineWithdrawn.nsq.op = .standby)
      ∧ s.engineWithdrawn.withdraws = s.withdraws := by
  have hcool : s.engineCooldown.nsq = s.nsq ∧ s.engineCooldown.stu = s.stu :=
    ⟨s.engineCooldown_kept .nsq (by decide), s.engineCooldown_kept .stu (by decide)⟩
  unfold State.engineWithdrawn
  split
  · exact ⟨.inl (by rw [hcool.1]), State.withdraws_of_stu hcool.2⟩
  · exact ⟨.inl (by rw [hcool.1]), State.withdraws_of_stu hcool.2⟩
  · exact s.engineOff_op 20
  all_goals exact ⟨.inl rfl, rfl⟩

theorem State.enterServing_op (s : State) (op : OpState) :
    ((s.enterServing op).nsq.op = op ∨ (s.enterServing op).nsq.op = .standby)
      ∧ (s.enterServing op).withdraws = s.withdraws := by
  have hop : (s.takeOp op).requestPrompt.nsq.op = op := by rw [State.requestPrompt_nsq, State.takeOp_nsq]
  have hw : (s.takeOp op).requestPrompt.withdraws = s.withdraws :=
    State.withdraws_of_stu (s.takeOp_kept op .stu (by decide))
  rw [State.enterServing_eq]
  split
  · obtain ⟨ho, hw'⟩ := (s.takeOp op).requestPrompt.engineWithdrawn_op
    rw [hop] at ho
    exact ⟨ho, hw'.trans hw⟩
  · exact ⟨.inl hop, hw⟩

/-- After the decision the operating state agrees with the withdrawing set (R136). -/
theorem State.decideOp_agrees (s : State) : (s.decideOp.nsq.op = .active → s.decideOp.withdraws = false)
    ∧ (s.decideOp.nsq.op = .withdrawn → s.decideOp.withdraws = true) := by
  cases hw : s.withdraws with
  | false =>
    rcases s.decideOp_cases with h | ⟨-, hw', -⟩ | ⟨-, -, h⟩
    · refine ⟨fun _ => by rw [h]; exact hw, fun hop => ?_⟩
      rw [h] at hop
      have hs : s.decideOp = s.enterServing .active := by unfold State.decideOp; rw [hop, hw]; rfl
      have hact := (s.enterServing_op .active).1
      rw [← hs, h, hop] at hact
      simp at hact
    · rw [hw] at hw'; cases hw'
    · obtain ⟨hop, hwd⟩ := s.enterServing_op .active
      rw [h]
      refine ⟨fun _ => hwd.trans hw, fun ho => ?_⟩
      rw [ho] at hop; simp at hop
  | true =>
    rcases s.decideOp_cases with h | ⟨-, -, h⟩ | ⟨-, hw', -⟩
    · refine ⟨fun hop => ?_, fun _ => by rw [h]; exact hw⟩
      rw [h] at hop
      have hs : s.decideOp = s.enterServing .withdrawn := by unfold State.decideOp; rw [hop, hw]; rfl
      have hwdn := (s.enterServing_op .withdrawn).1
      rw [← hs, h, hop] at hwdn
      simp at hwdn
    · obtain ⟨hop, hwd⟩ := s.enterServing_op .withdrawn
      rw [h]
      refine ⟨fun ho => ?_, fun _ => hwd.trans hw⟩
      rw [ho] at hop; simp at hop
    · rw [hw] at hw'; cases hw'

theorem State.compareF_fBit (s : State) : s.compareF.fBit = s.fBit := by
  refine State.fBit_of_eq (by rw [s.compareF_nsq]) s.compareF_set ?_ (by rw [s.compareF_mpt])
  rcases s.compareF_prompt with h | h <;> rw [h]
  exact StatePlace.promptRequest_carried _

/-- Every event that ends by the decision and the comparison of F leaves the node settled (R136, R138). -/
theorem State.settle_settled (s : State) : Settled s.settle := by
  obtain ⟨ha, hw⟩ := s.decideOp_agrees
  unfold State.settle
  refine ⟨?_, ?_, ?_⟩
  · rwa [State.compareF_nsq, State.compareF_withdraws]
  · rwa [State.compareF_nsq, State.compareF_withdraws]
  · intro hs
    rw [State.compareF_serves] at hs
    rw [State.compareF_stu_fValue, State.formsF_of_serves hs, State.compareF_fBit]
    rfl

/-! ### Commands that change no status and no operating state -/

theorem Settled.of_eq (op : t.nsq.op = s.nsq.op) (stu : t.stu = s.stu)
    (carried : t.sli.state.carried = s.sli.state.carried) (copy : t.mpt.copy = s.mpt.copy) (hs : Settled s) : Settled t := by
  have hw : t.withdraws = s.withdraws := State.withdraws_of_stu stu
  have hf : t.fBit = s.fBit := State.fBit_of_eq op (by rw [stu]) carried copy
  have hserves : t.serves = s.serves := by rw [State.serves, State.serves, op]
  unfold Settled
  rw [op, hw, hf, hserves, stu]
  exact hs

theorem Settled.of_kept {bs : List Block} (h : KeptBut s t bs) (nsq : Block.nsq ∉ bs) (stu : Block.stu ∉ bs)
    (sli : Block.sli ∉ bs) (mpt : Block.mpt ∉ bs) (hs : Settled s) : Settled t :=
  have hnsq : t.nsq = s.nsq := h .nsq nsq
  have hsli : t.sli = s.sli := h .sli sli
  have hmpt : t.mpt = s.mpt := h .mpt mpt
  hs.of_eq (by rw [hnsq]) (h .stu stu) (by rw [hsli]) (by rw [hmpt])

theorem StatePlace.requeued_carried (p : StatePlace) : p.requeued.carried = p.carried := rfl

theorem StatePlace.periodExpiry_carried (p : StatePlace) : p.periodExpiry.carried = p.carried := by
  unfold StatePlace.periodExpiry
  split <;> rfl

/-- An attempt queued again keeps its carried set (R150). -/
theorem Settled.requeueAttempt (hs : Settled s) : Settled s.requeueAttempt := by
  refine Settled.of_eq (s := s) rfl rfl ?_ rfl hs
  show (if s.sli.state.condition = .inFlight then s.sli.state.requeued else s.sli.state).carried = _
  split <;> rfl

/-- The F value that SYNC entry holds is the F bit it leaves (R138, R178). -/
theorem State.enterSync_settled (s : State) (held : Bool) : Settled (s.enterSync held) := by
  have hop : (s.enterSync held).nsq.op = .sync := by rw [State.enterSync_nsq]
  refine ⟨fun h => ?_, fun h => ?_, fun _ => ?_⟩
  · rw [hop] at h; cases h
  · rw [hop] at h; cases h
  · rfl

theorem State.hardReset_settled (s : State) (k : ResetKind) : Settled (s.hardReset k) := by
  obtain ⟨hop, -, -⟩ := s.hardReset_low k
  have hserves : (s.hardReset k).serves = false := by
    rw [State.serves]
    rcases hop with h | h <;> rw [h] <;> rfl
  refine ⟨fun h => ?_, fun h => ?_, fun h => ?_⟩
  · rcases hop with h' | h' <;> rw [h] at h' <;> cases h'
  · rcases hop with h' | h' <;> rw [h] at h' <;> cases h'
  · rw [hserves] at h; cases h

theorem State.badFrameEnds_settled (s : State) : Settled s.badFrameEnds := State.settle_settled _

theorem Settled.serviceRequest {src target : Address} {code : Nat} {args : List Word} {carry : State → Nat → State}
    (hs : Settled s) : Settled (s.serviceRequest src target code args carry) := by
  unfold State.serviceRequest
  split
  · split
    · dsimp only
      split <;> exact State.settle_settled _
    · exact s.badFrameEnds_settled
  · exact hs

theorem Settled.ite {p : Prop} [Decidable p] (ht : Settled t) (hs : Settled s) : Settled (if p then t else s) := by
  split
  · exact ht
  · exact hs

/-- Every command leaves the node settled (R136, R138). -/
theorem Settled.exec (hs : Settled s) : ∃ t, exec c s = .next t ∧ Settled t := by
  cases c with
  | powerOn p => exact ⟨_, rfl, State.hardReset_settled _ _⟩
  | brownOut p => exact ⟨_, rfl, State.hardReset_settled _ _⟩
  | bootLoadComplete imageAck slotAcks =>
    refine ⟨_, rfl, ?_⟩
    split
    · split
      · exact State.settle_settled _
      · exact hs
    · exact hs
  | demandArrival src words =>
    refine ⟨_, rfl, ?_⟩
    split
    · split
      · dsimp only
        split
        · split
          · exact State.settle_settled _
          · split
            · exact State.enterSync_settled _ _
            · exact State.settle_settled _
        · exact State.settle_settled _
      · exact s.badFrameEnds_settled
    · exact hs
  | stateArrival src words =>
    refine ⟨_, rfl, ?_⟩
    split
    · split
      · exact State.settle_settled _
      · exact s.badFrameEnds_settled
    · exact hs
  | badFrame => exact ⟨_, rfl, Settled.ite s.badFrameEnds_settled hs⟩
  | windowTimerExpiry =>
    refine ⟨_, rfl, ?_⟩
    split
    · exact Settled.of_eq (s := s) rfl rfl rfl rfl hs
    · exact hs
  | identify | readStatus | clear | forceFault | releaseFault | forceWarn | releaseWarn | readWear | wearReset
  | configRead | configWrite | restart | reboot => exact ⟨_, rfl, hs.serviceRequest⟩
  | unsupportedRequest src target code args =>
    refine ⟨_, rfl, ?_⟩
    split
    · exact hs
    · exact hs.serviceRequest
  | attemptAbandoned | silenceTimerExpiry | demandTimerExpiry | tick | crankTimerExpiry | cooldownTimerExpiry
  | minuteTimerExpiry | recheckTimerExpiry | flushTimerExpiry | strapCheckExpiry | syncTimerExpiry
  | shutdownHoldExpiry | replyLimitExpiry => exact ⟨_, rfl, Settled.ite (State.settle_settled _) hs⟩
  | attemptStart =>
    refine ⟨_, rfl, ?_⟩
    split
    · split
      · exact State.settle_settled _
      · exact Settled.of_eq (s := s) rfl rfl rfl rfl hs
      · exact hs
    · exact hs
  | arbitrationLost => exact ⟨_, rfl, Settled.ite hs.requeueAttempt hs⟩
  | attemptComplete p =>
    refine ⟨_, rfl, ?_⟩
    split
    · dsimp only
      split
      · split <;> exact State.settle_settled _
      · exact State.settle_settled _
    · exact hs
  | statePeriodExpiry =>
    refine ⟨_, rfl, ?_⟩
    split
    · exact Settled.of_eq (s := s) rfl rfl (StatePlace.periodExpiry_carried _) rfl hs
    · exact hs
  | ageTimerStale a =>
    refine ⟨_, rfl, ?_⟩
    split
    · exact hs.of_kept (s.setPtb_kept _) (by decide) (by decide) (by decide) (by decide)
    · exact hs
  | ageTimerLost a =>
    refine ⟨_, rfl, ?_⟩
    split
    · exact hs.of_kept (s.setPtb_kept _) (by decide) (by decide) (by decide) (by decide)
    · exact hs
  | exchangeStart sense =>
    refine ⟨_, rfl, ?_⟩
    split
    · exact hs.of_kept ((s.setStp_kept _).trans (State.beginExchange_kept _ _ _)) (by decide) (by decide) (by decide)
        (by decide)
    · exact hs
  | exchangeCompletion record =>
    refine ⟨_, rfl, ?_⟩
    split
    · split
      · exact State.settle_settled _
      · split
        · exact hs.of_kept s.beginFinal_kept (by decide) (by decide) (by decide) (by decide)
        · exact hs
    · exact hs
  | settleTimerExpiry =>
    refine ⟨_, rfl, ?_⟩
    split
    · exact hs.of_kept (s.setStp_kept _) (by decide) (by decide) (by decide) (by decide)
    · exact hs
  | partnerResetRelease =>
    refine ⟨_, rfl, ?_⟩
    split
    · exact Settled.of_eq (s := s) rfl rfl rfl rfl hs
    · exact hs
  | finalExchangeEnd =>
    refine ⟨_, rfl, ?_⟩
    split
    · exact hs.of_kept ((s.setStp_kept _).trans (State.beginExchange_kept _ _ _)) (by decide) (by decide) (by decide)
        (by decide)
    · exact Settled.of_eq (s := s) rfl rfl rfl rfl hs
    all_goals exact hs
  | rampTimerExpiry =>
    refine ⟨_, rfl, ?_⟩
    split
    · have h : KeptBut s s.takeRamp [.blu, .plu, .gsc] := by
        unfold State.takeRamp
        dsimp only
        split
        · exact KeptBut.reformOwn ((s.setBlu_kept _).mono (by decide)) (by decide)
        all_goals exact (s.setBlu_kept _).mono (by decide)
      exact hs.of_kept h (by decide) (by decide) (by decide) (by decide)
    · exact hs
  | slipHoldTimerExpiry =>
    refine ⟨_, rfl, ?_⟩
    split
    · have h : KeptBut s (s.setBlu s.blu.enterRecover).reformOwn [.blu, .plu, .gsc] :=
        KeptBut.reformOwn ((s.setBlu_kept _).mono (by decide)) (by decide)
      exact hs.of_kept h (by decide) (by decide) (by decide) (by decide)
    · exact hs
  | warmTimerExpiry =>
    refine ⟨_, rfl, ?_⟩
    split
    · exact hs.of_kept s.engineRunning_kept (by decide) (by decide) (by decide) (by decide)
    · exact hs
  | runTimerExpiry =>
    refine ⟨_, rfl, ?_⟩
    split
    · exact Settled.of_eq (s := s) rfl rfl rfl rfl hs
    · exact hs
  | pageStored p =>
    refine ⟨_, rfl, ?_⟩
    split
    · exact State.settle_settled _
    all_goals exact hs
  | pageTimeout p =>
    refine ⟨_, rfl, ?_⟩
    split
    · split
      · exact State.settle_settled _
      · exact hs
    all_goals exact hs
  | configReadComplete ack p =>
    refine ⟨_, rfl, ?_⟩
    split
    · exact State.settle_settled _
    all_goals exact hs
  | configWriteComplete o p =>
    refine ⟨_, rfl, ?_⟩
    split
    · split
      · exact State.settle_settled _
      · exact hs
    all_goals exact hs
  | svcReplyArrival src words =>
    refine ⟨_, rfl, ?_⟩
    split
    · split
      · exact State.settle_settled _
      · exact s.badFrameEnds_settled
    · exact hs
  | receiverIdle =>
    refine ⟨_, rfl, ?_⟩
    split
    · exact Settled.of_eq (s := s) rfl rfl rfl rfl hs
    all_goals exact hs

/-- What a step is: the command at the front, or a millisecond. -/
theorem step_cases (h : step s = .next t) :
    (s.pending = [] ∧ t = s.elapse) ∨ ∃ c rest, s.pending = c :: rest ∧ exec c (s.setPending rest) = .next t := by
  unfold step at h
  split at h
  · next c rest hp => exact .inr ⟨c, rest, hp, h⟩
  · next hp => exact .inl ⟨hp, by cases h; rfl⟩

theorem Settled.step (hs : Settled s) (h : step s = .next t) : Settled t := by
  rcases step_cases h with ⟨-, rfl⟩ | ⟨c, rest, -, he⟩
  · exact Settled.of_eq (s := s) rfl rfl rfl rfl hs
  · have hq : Settled (s.setPending rest) := Settled.of_eq (s := s) rfl rfl rfl rfl hs
    obtain ⟨u, hu, hsu⟩ := hq.exec (c := c)
    rw [he] at hu
    cases hu
    exact hsu

/-- Settles O53: the lines, the capabilities, PARTNER_FAULT and the droop factors by the moves, the agreement of the
operating state by what ends each command. -/
theorem everyStepKeepsTheWithdrawalLaws : Obligations.EveryStepKeepsTheWithdrawalLaws := by
  intro s t hsettled hlines hadvertised hfault hfactor hstep
  refine ⟨hsettled.step hstep, ?_⟩
  refine step_induct (P := fun t => LinesLaw t ∧ AdvertisedLaw t ∧ FaultLaw t ∧ FactorLaw t)
    (fun _ => ⟨hlines, hadvertised, hfault, hfactor⟩)
    (fun c rest _ => ⟨State.opening_keeps_linesLaw c hlines, State.opening_keeps_advertisedLaw c hadvertised,
      State.opening_keeps_faultLaw c hfault, State.opening_keeps_factorLaw c hfactor⟩)
    (fun c rest a b _ hm h => ?_) hstep
  obtain ⟨lines, advertised, fault, factor⟩ := h
  exact ⟨hm.keeps_linesLaw lines, hm.keeps_advertisedLaw advertised, hm.keeps_faultLaw fault, hm.keeps_factorLaw factor⟩

end
end Sys2Proof.Machine
end

/-! # A full or a frozen pack accepts nothing (R76) -/
section
namespace Sys2Proof.Machine

section
variable {c : Instr} {s t u : State}

/-! ### The formed acceptance -/

/-- The part of the law of R76 that the own capability record is formed from. -/
def PackFormed (s : State) : Prop :=
  (s.role = some .pack → s.stp.held1.isSome = true → fullOrFrozen s → s.plu.paF = 0) ∧ (s.nsq.op = .boot → s.stp.held1 = none)

theorem PackLaw.formed (h : PackLaw s) : PackFormed s := ⟨fun hr hh => (h.1 hr hh).1, h.2⟩

theorem PackFormed.of_eq (role : t.role = s.role) (op : t.nsq.op = .boot → s.nsq.op = .boot)
    (held1 : t.stp.held1 = s.stp.held1) (copy : t.mpt.copy = s.mpt.copy) (paF : t.plu.paF = s.plu.paF) (hs : PackFormed s) :
    PackFormed t := by
  obtain ⟨formed, boot⟩ := hs
  refine ⟨?_, fun h => held1.trans (boot (op h))⟩
  unfold fullOrFrozen
  rw [role, held1, copy, paF]
  exact formed

theorem PackLaw.of_eq (role : t.role = s.role) (op : t.nsq.op = .boot → s.nsq.op = .boot)
    (held1 : t.stp.held1 = s.stp.held1) (copy : t.mpt.copy = s.mpt.copy) (paF : t.plu.paF = s.plu.paF)
    (own : t.plu.own = s.plu.own) (hs : PackLaw s) : PackLaw t := by
  obtain ⟨formed, boot⟩ := hs
  refine ⟨?_, fun h => held1.trans (boot (op h))⟩
  unfold fullOrFrozen
  rw [role, held1, copy, paF, own]
  exact formed

theorem PackLaw.of_none (h : t.stp.held1 = none) : PackLaw t :=
  ⟨fun _ hh => (by rw [h] at hh; cases hh), fun _ => h⟩

theorem PackLaw.of_kept {bs : List Block} (h : KeptBut s t bs) (nsq : Block.nsq ∉ bs) (stp : Block.stp ∉ bs)
    (mpt : Block.mpt ∉ bs) (plu : Block.plu ∉ bs) (hs : PackLaw s) : PackLaw t :=
  have hnsq : t.nsq = s.nsq := h .nsq nsq
  have hstp : t.stp = s.stp := h .stp stp
  have hmpt : t.mpt = s.mpt := h .mpt mpt
  have hplu : t.plu = s.plu := h .plu plu
  hs.of_eq (by rw [State.role, State.role, hnsq]) (by rw [hnsq]; exact id) (by rw [hstp]) (by rw [hmpt]) (by rw [hplu])
    (by rw [hplu])

/-- The Memory Port with its running copy as it was. -/
theorem PackLaw.of_port (h : KeptBut s t [.mpt, .free]) (copy : t.mpt.copy = s.mpt.copy) (hs : PackLaw s) : PackLaw t :=
  have nsq : t.nsq = s.nsq := h .nsq (by decide)
  have stp : t.stp = s.stp := h .stp (by decide)
  have plu : t.plu = s.plu := h .plu (by decide)
  hs.of_eq (by rw [State.role, State.role, nsq]) (by rw [nsq]; exact id) (by rw [stp]) copy (by rw [plu]) (by rw [plu])

/-- Advertising leaves the formed acceptance, or advertises 0 (R76, R78). -/
theorem State.reformOwn_plu (s : State) : s.reformOwn.plu.paF = s.plu.paF
    ∧ (s.role = some .pack → s.reformOwn.plu.own.pa = s.plu.paF ∨ s.reformOwn.plu.own.pa = 0)
    ∧ (s.role ≠ some .pack → s.reformOwn.plu = s.plu) := by
  unfold State.reformOwn
  split
  · next hr => exact ⟨rfl, fun h => (by rw [hr] at h; cases h), fun _ => rfl⟩
  · next hr =>
    refine ⟨rfl, fun _ => ?_, fun h => absurd hr h⟩
    show (if _ then s.plu.paF else 0) = _ ∨ (if _ then s.plu.paF else 0) = _
    split
    · exact .inl rfl
    · exact .inr rfl
  · next hr => exact ⟨rfl, fun h => (by rw [hr] at h; cases h), fun _ => rfl⟩
  · next hr => exact ⟨rfl, fun h => (by rw [hr] at h; cases h), fun _ => rfl⟩

theorem PackFormed.reformOwn (h : PackFormed s) : PackLaw s.reformOwn := by
  obtain ⟨formed, boot⟩ := h
  have hnsq : s.reformOwn.nsq = s.nsq := s.reformOwn_kept .nsq (by decide)
  have hstp : s.reformOwn.stp = s.stp := s.reformOwn_kept .stp (by decide)
  have hmpt : s.reformOwn.mpt = s.mpt := s.reformOwn_kept .mpt (by decide)
  obtain ⟨paF, own, -⟩ := s.reformOwn_plu
  unfold PackLaw fullOrFrozen
  rw [State.role, hnsq, hstp, hmpt, paF]
  exact ⟨fun hr hh => ⟨formed hr hh, own hr⟩, boot⟩

theorem PackLaw.reform (h : PackLaw s) : PackLaw s.reformOwn := h.formed.reformOwn

/-- The limits formed from a record of a full or a frozen pack leave no acceptance (R73, R74). -/
theorem PackUnit.formLimits_paF (p : PackUnit) {c : List Word} {r : PackReading} (dw : Nat)
    (h : r.soc ≥ socMax c ∨ r.tPack < -10) : (p.formLimits c r dw).paF = 0 := by
  have hpa2 : coldAcceptance r.tPack (taperedAcceptance c r.soc (r.uPack * r.iChgMax / 1000)) = 0 := by
    rcases h with h | h
    · have htaper : taperedAcceptance c r.soc (r.uPack * r.iChgMax / 1000) = 0 := if_pos h
      rw [htaper]
      unfold coldAcceptance
      split
      · rfl
      · split <;> rfl
    · exact if_pos h
  show min (coldAcceptance _ _ * dw / 100) 1000 = 0
  rw [hpa2]
  simp

/-- The limits formed anew meet the law of R76, whatever they were (R72 to R78). -/
theorem State.formPackLimits_packLaw (s : State) (boot : s.nsq.op = .boot → s.stp.held1 = none) :
    PackLaw s.formPackLimits := by
  have h : PackFormed (s.setPlu (s.plu.formLimits s.mpt.copy (packReading s.stp.held1) s.wau.dw)) :=
    ⟨fun _ _ hf => PackUnit.formLimits_paF _ _ hf, boot⟩
  exact h.reformOwn.of_kept ((State.putStatus_kept _ _ _).mono (by decide)) (bs := [.stu]) (by decide) (by decide)
    (by decide) (by decide)

theorem PackLaw.putItem (i : Nat) (x : WearItem) (h : PackLaw s) : PackLaw (s.putItem i x) := by
  unfold State.putItem
  dsimp only
  generalize hu : ite (x.state = .due ∧ (itemAt s.wau.items i).state ≠ .due) _ _ = u
  have hlaw : PackLaw u := by
    rw [← hu]
    split <;> exact PackLaw.of_eq (s := s) rfl id rfl rfl rfl rfl h
  have hderived : ∀ w, PackLaw (u.setWau w) := fun w => PackLaw.of_eq (s := u) rfl id rfl rfl rfl rfl hlaw
  split
  · split
    · exact (hderived _).reform
    · exact hderived _
  · exact hlaw

theorem PackLaw.emptyItem (i : Nat) (h : PackLaw s) : PackLaw (s.emptyItem i) := by
  unfold State.emptyItem
  dsimp only
  have h1 : PackLaw ((s.setWau (s.wau.resetItem s.role i)).putStatus .wearNear
      (anyNear (s.wau.resetItem s.role i).items)) := PackLaw.of_eq (s := s) rfl id rfl rfl rfl rfl h
  split
  · split
    · exact h1.reform
    · exact h1
  · split
    · exact State.formPackLimits_packLaw _ h1.2
    · exact h1
  all_goals exact h1

theorem PackFormed.roleStandby (h : PackFormed s) (hlaw : s.role ≠ some .pack → PackLaw s) : PackLaw s.roleStandby := by
  unfold State.roleStandby
  split
  · next hr =>
    exact PackLaw.of_eq (s := State.reformOwn _) rfl id rfl rfl rfl rfl
      (PackFormed.reformOwn (s := s.setBlu { s.blu with
        dE := 0, rE := 0, fE := 0, torque := 0, pressure := 0
        rampTimer := s.blu.rampTimer.halt, slipHold := s.blu.slipHold.halt }) (PackFormed.of_eq (s := s) rfl id rfl rfl rfl h))
  · exact PackLaw.of_eq (s := State.reformOwn _) rfl id rfl rfl rfl rfl
      (PackFormed.reformOwn (s := s.setPlu { s.plu with iDis := 0, iChg := 0 })
        (PackFormed.of_eq (s := s) rfl id rfl rfl rfl h))
  · exact PackLaw.of_eq (s := State.reformOwn _) rfl id rfl rfl rfl rfl
      (PackFormed.reformOwn (s := s.setGsc { s.gsc with
        command := .stop
        tick := s.gsc.tick.halt, off := s.gsc.off.halt, crank := s.gsc.crank.halt, warm := s.gsc.warm.halt
        run := s.gsc.run.halt, cooldown := s.gsc.cooldown.halt }) (PackFormed.of_eq (s := s) rfl id rfl rfl rfl h))
  · next hr => exact hlaw (by simp [hr])

theorem PackLaw.enterStandby (h : PackLaw s) : PackLaw s.enterStandby := by
  have hlow : PackLaw s.lowered := by
    unfold State.lowered
    refine PackFormed.roleStandby ?_ fun _ => ?_
    · exact PackFormed.of_eq (s := s) rfl nofun rfl rfl rfl h.formed
    · exact PackLaw.of_eq (s := s) rfl nofun rfl rfl rfl rfl h
  have hmpt : s.lowered.mpt = s.mpt := s.lowered_kept .mpt (by decide)
  obtain ⟨p, -, held1, he⟩ := s.enterStandby_eq
  obtain ⟨-, plu, -⟩ := s.enterStandby_own
  refine hlow.of_eq ?_ ?_ (by rw [he]; exact held1) (by rw [State.enterStandby_mpt, hmpt]) (by rw [plu]) (by rw [plu])
  · rw [State.role, State.role, State.enterStandby_nsq, State.lowered_nsq]
  · rw [State.enterStandby_nsq]; nofun

theorem State.enterSync_held (s : State) (held : Bool) :
    (s.enterSync held).stp.held0 = s.stp.held0 ∧ (s.enterSync held).stp.held1 = s.stp.held1 := by
  rw [State.enterSync_stp]
  cases held <;> exact ⟨rfl, rfl⟩

/-- No record is held after a reset (R166). -/
theorem State.hardReset_held (s : State) (k : ResetKind) :
    (s.hardReset k).stp.held0 = none ∧ (s.hardReset k).stp.held1 = none := by
  rcases s.hardReset_cases k with ⟨role, -, h⟩ | ⟨-, h⟩ <;> rw [h] <;> exact ⟨rfl, rfl⟩

theorem State.judge0_held1 (s : State) (role : Role) (x : OwnReading) (record : List Byte) :
    (s.judge0 role x record).stp.held1 = s.stp.held1 := by
  have hfail : ∀ t : State, (t.recordFailed .p0).stp.held1 = t.stp.held1 := fun t => by
    unfold State.recordFailed
    dsimp only
    split <;> rfl
  have hhold : ∀ (t : State) (r : Partner0), (t.holdPartner0 role r).stp.held1 = t.stp.held1 := fun t r => by
    unfold State.holdPartner0
    cases role with
    | pack => rfl
    | axle | genset => dsimp only; split <;> split <;> rfl
  unfold State.judge0
  dsimp only
  split
  · exact hfail _
  · split <;> exact hhold _ _

/-- Every move but the judging of a partner 1 record keeps the law of R76. -/
theorem Move.keeps_packLaw (hc : ∀ record, c ≠ .exchangeCompletion record) (h : Move c s t) (hs : PackLaw s) : PackLaw t := by
  cases h with
  | nsq b op sample reset =>
    exact PackLaw.of_eq (s := s) (congrArg strapRole sample) (fun h => op.symm.trans h) rfl rfl rfl rfl hs
  | plu b own formed => exact PackLaw.of_eq (s := s) rfl id rfl rfl formed own hs
  | stp b held0 held1 => exact PackLaw.of_eq (s := s) rfl id held1 rfl rfl rfl hs
  | mpt b keeps => exact PackLaw.of_eq (s := s) rfl id rfl keeps.copy rfl rfl hs
  | reform => exact hs.reform
  | takeOp op serves hop =>
    refine PackFormed.reformOwn (PackFormed.of_eq (s := s) rfl (fun h => ?_) rfl rfl rfl hs.formed)
    rcases hop with rfl | rfl <;> cases h
  | standby ready => exact hs.enterStandby
  | reboot ended => exact .of_none (s.hardReset_held _).2
  | restart pending => exact .of_none (State.enterSync_held _ _).2
  | wake standby => exact .of_none (State.enterSync_held _ _).2
  | putItem i x hi grows => exact hs.putItem i x
  | emptyItem i hi hc => exact hs.emptyItem i
  | packLimits => exact s.formPackLimits_packLaw hs.2
  | judge0 role x record h => exact absurd h (hc record)
  | judge1 role record h => exact absurd h (hc record)
  | _ => exact hs

theorem Moves.keeps_packLaw (h : Moves .badFrame s t) (hs : PackLaw s) : PackLaw t :=
  h.induct hs fun _ _ hm => Move.keeps_packLaw (c := .badFrame) (fun _ h => by cases h) hm

theorem State.writeConfig_copy (s : State) (n : Nat) (mask value : Word) (o : WriteOutcome) :
    (s.writeConfig n mask value o).mpt.copy = s.mpt.copy := by
  unfold State.writeConfig
  cases o <;> rfl

theorem State.storedPage_copy (s : State) (job : FlushJob) : (s.storedPage job).mpt.copy = s.mpt.copy := by
  unfold State.storedPage
  dsimp only
  split <;> rfl

/-- But for a reset, the boot load and a storage upset the running copy is as before. -/
theorem State.opening_keeps_packLaw (hc : ∀ u, c ≠ .recheckTimerExpiry (some u)) (hs : PackLaw s) : PackLaw (s.opening c) := by
  have hpins : ∀ p, PackLaw (s.pinStraps p) := fun p => PackLaw.of_eq (s := s) rfl id rfl rfl rfl rfl hs
  rcases s.opening_cases c with h | ⟨p, ⟨-, h⟩ | ⟨-, h⟩⟩ | ⟨role, a, b, -, -, hb, -, h⟩ | ⟨u, hu, h⟩ | ⟨p, job, -, -, h⟩
    | ⟨p, job, -, -, h⟩ | ⟨p, o, place, n, mask, value, -, -, h⟩
  · rw [h]; exact hs
  · rw [h]; exact .of_none (State.hardReset_held _ _).2
  · rw [h]; exact .of_none (State.hardReset_held _ _).2
  · have stp : (s.loaded role a b).stp = s.stp := s.loaded_kept role a b .stp (by decide)
    rw [h, State.bootLoaded_eq]
    exact .of_none (by rw [(State.enterSync_held _ _).2, stp]; exact hs.2 hb)
  · cases u with
    | some u => exact absurd hu (hc u)
    | none => rw [h]; exact hs
  · rw [h]; exact (hpins p).of_port ((State.storedPage_kept _ job).mono (by decide)) (State.storedPage_copy _ _)
  · rw [h]; exact PackLaw.of_eq (s := s) rfl id rfl rfl rfl rfl hs
  · rw [h]; exact (hpins p).of_port (State.writeConfig_kept _ n mask value o) (State.writeConfig_copy _ _ _ _ _)

/-- A completion with the pack monitor forms the limits from the record just judged; every other completion leaves the held
record of the pack monitor, or is not a pack's. -/
theorem PackLaw.completeExchange {role : Role} (x : Exchange) (record : List Byte) (hr : s.role = some role)
    (hserves : s.serves = true) (hs : PackLaw s) : PackLaw (s.completeExchange role x record) := by
  have hboot : s.nsq.op ≠ .boot := fun h => by rw [State.serves, h] at hserves; cases hserves
  unfold State.completeExchange
  dsimp only
  cases x.partner with
  | p0 =>
    have kept := State.judge0_kept (s.setStp { s.stp with inFlight := none }) role x.sample record
    have held1 := State.judge0_held1 (s.setStp { s.stp with inFlight := none }) role x.sample record
    generalize State.judge0 _ role x.sample record = u at kept held1 ⊢
    have nsq : u.nsq = s.nsq := kept .nsq (by decide)
    have mpt : u.mpt = s.mpt := kept .mpt (by decide)
    have plu : u.plu = s.plu := kept .plu (by decide)
    exact (Moves.roleCompletes0 _ _).keeps_packLaw
      (PackLaw.of_eq (s := s) (by rw [State.role, State.role, nsq]) (by rw [nsq]; exact id) held1 (by rw [mpt]) (by rw [plu])
        (by rw [plu]) hs)
  | p1 =>
    have kept := State.judge1_kept (s.setStp { s.stp with inFlight := none }) role record
    generalize State.judge1 _ role record = u at kept ⊢
    have nsq : u.nsq = s.nsq := kept .nsq (by decide)
    have hother : role ≠ .pack → PackLaw u := fun hne => by
      refine ⟨fun hu => ?_, fun hu => ?_⟩
      · have hrole : u.role = s.role := by rw [State.role, State.role, nsq]
        rw [hrole, hr] at hu
        cases hu
        exact absurd rfl hne
      · rw [nsq] at hu
        exact absurd hu hboot
    cases role with
    | axle => exact (Moves.axleCompletes1 _).keeps_packLaw (hother nofun)
    | pack =>
      have hgather : KeptBut u u.gatherPack [.wau, .stu, .blu, .plu, .gsc] := by
        unfold State.gatherPack
        split
        · dsimp only
          have h : ∀ (x : State) (w : Wear), KeptBut u x [.wau, .stu, .blu, .plu, .gsc] →
              KeptBut u (x.setWau w) [.wau, .stu, .blu, .plu, .gsc] := fun x w h => h.setWau (by decide) _
          split
          · exact (h _ _ (u.gather_kept _ _ _)).trans (State.addUnits_kept _ _ _)
          · exact h _ _ (u.gather_kept _ _ _)
        · exact KeptBut.refl _ _
      have hnsq : u.gatherPack.nsq = u.nsq := hgather .nsq (by decide)
      exact State.formPackLimits_packLaw _ fun hb => absurd (by rw [← nsq, ← hnsq]; exact hb) hboot
    | genset => exact (Moves.gensetCompletes1 _ _).keeps_packLaw (hother nofun)

theorem PackLaw.exec_exchangeCompletion {record : List Byte} (hs : PackLaw s) (h : exec (.exchangeCompletion record) s = .next t) :
    PackLaw t := by
  have hend : ∀ x role, s.role = some role → s.stp.inFlight = some x → PackLaw
      (if s.serves then (s.completeExchange role x record).settle
        else if s.nsq.op = .standby ∧ s.stp.final = .awaiting then s.beginFinal else s) := fun x role hr _ => by
    split
    · next hserves => exact (Moves.settle _).keeps_packLaw (hs.completeExchange x record hr hserves)
    · split
      · exact PackLaw.of_eq (s := s) rfl id rfl rfl rfl rfl hs
      · exact hs
  cases hx : s.stp.inFlight with
  | none =>
    have he : exec (.exchangeCompletion record) s = .next s := by
      show execExchangeCompletion record s = _
      simp [execExchangeCompletion, hx]
    rw [he] at h; cases h; exact hs
  | some x =>
    cases hr : s.role with
    | none =>
      have he : exec (.exchangeCompletion record) s = .next s := by
        show execExchangeCompletion record s = _
        simp [execExchangeCompletion, hr]
      rw [he] at h; cases h; exact hs
    | some role =>
      have he : exec (.exchangeCompletion record) s = .next
          (if s.serves then (s.completeExchange role x record).settle
            else if s.nsq.op = .standby ∧ s.stp.final = .awaiting then s.beginFinal else s) := by
        show execExchangeCompletion record s = _
        simp only [execExchangeCompletion, hx, hr]
      rw [he] at h
      cases h
      exact hend x role hr hx

theorem PackLaw.exec (hc : ∀ u, c ≠ .recheckTimerExpiry (some u)) (hs : PackLaw s) (h : exec c s = .next t) : PackLaw t := by
  by_cases hx : ∃ record, c = .exchangeCompletion record
  · obtain ⟨record, rfl⟩ := hx
    exact hs.exec_exchangeCompletion h
  · exact (moves_of_exec h).induct (State.opening_keeps_packLaw hc hs) fun _ _ hm =>
      hm.keeps_packLaw fun record hr => hx ⟨record, hr⟩

/-- Settles O55: only forming the limits touches the formed acceptance, and it forms 0 from the record of a full or a frozen
pack; only the pack monitor's completion takes a record, and it forms the limits after it. -/
theorem aFullOrFrozenPackAcceptsNothing : Obligations.AFullOrFrozenPackAcceptsNothing := by
  refine ⟨fun s t hs hupset hstep => ?_, fun s hs hr hh hf => ?_⟩
  · rcases step_cases hstep with ⟨-, rfl⟩ | ⟨c, rest, hp, he⟩
    · exact PackLaw.of_eq (s := s) rfl id rfl rfl rfl rfl hs
    · have hq : PackLaw (s.setPending rest) := PackLaw.of_eq (s := s) rfl id rfl rfl rfl rfl hs
      exact hq.exec (fun u => hupset u c (by rw [hp]; rfl)) he
  · obtain ⟨hformed, hown⟩ := hs.1 hr hh
    rcases hown with h | h
    · rw [h]; exact hformed hf
    · exact h

end
end Sys2Proof.Machine
end

/-! # Engine starts keep their dwell and their budget (R95) -/
section
namespace Sys2Proof.Machine

section
variable {c : Instr} {s t u : State} {a b d : Genset}

/-! ### What all but a tick and a failed attempt make of the scheduler -/

/-- The engine is not brought into CRANKING, no reading joins the start ring, and an engine in OFF has entered it anew with a
dwell of 20 s, or stays there with its dwell and its off timer's time, or with that time put to 0. -/
structure Genset.Rests (a b : Genset) : Prop where
  starts : b.starts = a.starts ∨ b.starts = []
  cranking : b.engine = .cranking → a.engine = .cranking ∧ b.starts = a.starts ∧ b.clock = a.clock
  off : b.engine = .off → b.off.elapsed = 0 ∧ (b.dwell = 20 ∨ a.engine = .off ∧ b.dwell = a.dwell)
    ∨ a.engine = .off ∧ b.dwell = a.dwell ∧ b.off.elapsed = a.off.elapsed

theorem Genset.Rests.of_same (starts : b.starts = a.starts) (clock : b.clock = a.clock) (engine : b.engine = a.engine)
    (dwell : b.dwell = a.dwell) (off : b.off.elapsed = a.off.elapsed) : a.Rests b :=
  ⟨.inl starts, fun h => ⟨engine ▸ h, starts, clock⟩, fun h => .inr ⟨engine ▸ h, dwell, off⟩⟩

theorem Genset.Rests.refl (a : Genset) : a.Rests a := .of_same rfl rfl rfl rfl rfl

theorem Genset.Rests.of_eq (h : b = a) : a.Rests b := by rw [h]; exact .refl a

theorem Genset.Rests.trans (h : a.Rests b) (k : b.Rests d) : a.Rests d := by
  refine ⟨?_, fun hd => ?_, fun hd => ?_⟩
  · rcases k.starts with hs | hs
    · rw [hs]; exact h.starts
    · exact .inr hs
  · obtain ⟨hb, hs, hc⟩ := k.cranking hd
    obtain ⟨ha, hs', hc'⟩ := h.cranking hb
    exact ⟨ha, hs.trans hs', hc.trans hc'⟩
  · rcases k.off hd with ⟨he, hdw | ⟨hb, hdw⟩⟩ | ⟨hb, hdw, he⟩
    · exact .inl ⟨he, .inl hdw⟩
    · rcases h.off hb with ⟨-, hdw' | ⟨ha, hdw'⟩⟩ | ⟨ha, hdw', -⟩
      · exact .inl ⟨he, .inl (hdw.trans hdw')⟩
      · exact .inl ⟨he, .inr ⟨ha, hdw.trans hdw'⟩⟩
      · exact .inl ⟨he, .inr ⟨ha, hdw.trans hdw'⟩⟩
    · rw [hdw, he]
      exact h.off hb

/-- A scheduler put to the values of Table 5.1-1, or brought into OFF anew, with no reading of its own. -/
theorem Genset.Rests.of_off (starts : b.starts = a.starts ∨ b.starts = []) (engine : b.engine = .off)
    (elapsed : b.off.elapsed = 0) (dwell : b.dwell = 20) : a.Rests b :=
  ⟨starts, fun h => (by rw [engine] at h; cases h), fun _ => .inl ⟨elapsed, .inl dwell⟩⟩

theorem Genset.Drifts.rests (h : a.Drifts b) : a.Rests b :=
  ⟨.inl h.starts, fun hb => ⟨h.cranking hb, h.starts, h.clock⟩, fun hb =>
    (h.off hb).imp (fun ⟨he, hd⟩ => ⟨he, .inl hd⟩) id⟩

/-- Re-forming the own capability record leaves the engine, its timers and its ring (R107). -/
theorem State.reformOwn_gsc_cases (s : State) : s.reformOwn.gsc = s.gsc ∨ s.reformOwn.gsc = s.gsc.reform s.mpt.copy s.nsq.op s.stp.held0 := by
  unfold State.reformOwn
  split
  · exact .inl rfl
  · exact .inl rfl
  · exact .inr rfl
  · exact .inl rfl

theorem State.reformOwn_rests (s : State) : s.gsc.Rests s.reformOwn.gsc := by
  rcases s.reformOwn_gsc_cases with h | h <;> rw [h]
  · exact .refl _
  · exact .of_same rfl rfl rfl rfl rfl

/-- The own capability record re-formed after what leaves the scheduler. -/
theorem Genset.Rests.reformed (h : u.gsc = a) : a.Rests u.reformOwn.gsc := h ▸ u.reformOwn_rests

theorem State.formPackLimits_rests (s : State) : s.gsc.Rests s.formPackLimits.gsc :=
  Genset.Rests.reformed (u := s.setPlu (s.plu.formLimits s.mpt.copy (packReading s.stp.held1) s.wau.dw)) rfl

theorem Genset.Rests.packLimits (h : u.gsc = a) : a.Rests u.formPackLimits.gsc := h ▸ u.formPackLimits_rests

theorem State.putItem_rests (s : State) (i : Nat) (x : WearItem) : s.gsc.Rests (s.putItem i x).gsc := by
  unfold State.putItem
  dsimp only
  generalize hu : ite (x.state = .due ∧ (itemAt s.wau.items i).state ≠ .due) _ _ = u
  have hgsc : u.gsc = s.gsc := by rw [← hu]; split <;> rfl
  split
  · split
    · exact .reformed hgsc
    · exact .of_eq hgsc
  · exact .of_eq hgsc

theorem State.emptyItem_rests (s : State) (i : Nat) : s.gsc.Rests (s.emptyItem i).gsc := by
  unfold State.emptyItem
  dsimp only
  split
  · split
    · exact .reformed rfl
    · exact .refl _
  · split
    · exact .packLimits rfl
    · exact .refl _
  all_goals exact .refl _

theorem State.roleStandby_rests (s : State) : s.gsc.Rests s.roleStandby.gsc := by
  unfold State.roleStandby
  split
  · simp only [State.writeSlot0_gsc, State.writeSlot1_gsc]; exact .reformed rfl
  · simp only [State.writeSlot0_gsc]; exact .reformed rfl
  · simp only [State.writeSlot0_gsc, State.writeSlot1_gsc]
    refine Genset.Rests.trans ?_ (State.reformOwn_rests _)
    exact .of_same rfl rfl rfl rfl rfl
  · exact .refl _

theorem State.enterStandby_rests (s : State) : s.gsc.Rests s.enterStandby.gsc := by
  obtain ⟨-, -, hgsc⟩ := s.enterStandby_own
  rw [hgsc]
  unfold State.lowered
  have h : ∀ (x : Sequencer) (y : PinLevels), s.gsc.Rests ((s.setNsq x).setPins y).roleStandby.gsc := fun x y =>
    State.roleStandby_rests ((s.setNsq x).setPins y)
  exact h _ _

/-- SYNC entry starts the off timer of a genset from 0 (R86). -/
theorem State.enterSync_rests (s : State) (held : Bool) : s.gsc.Rests (s.enterSync held).gsc := by
  have hstart : (s.syncStarted held).gsc = s.gsc
      ∨ (s.syncStarted held).gsc = { s.gsc with tick := Timer.started, off := Timer.started } := by
    unfold State.syncStarted
    cases held <;> dsimp only <;> split <;> first | exact .inl rfl | exact .inr rfl
  have hsync : s.gsc.Rests (s.syncStarted held).gsc := by
    rcases hstart with h | h <;> rw [h]
    · exact .refl _
    · exact ⟨.inl rfl, fun h => ⟨h, rfl, rfl⟩, fun h => .inl ⟨rfl, .inr ⟨h, rfl⟩⟩⟩
  exact hsync.trans (State.reformOwn_rests (s.syncStarted held))

theorem State.hardReset_gsc (s : State) (k : ResetKind) : (s.hardReset k).gsc = Genset.initial := by
  rcases s.hardReset_cases k with ⟨role, -, h⟩ | ⟨-, h⟩ <;> rw [h] <;> rfl

theorem Genset.Rests.initial (a : Genset) : a.Rests Genset.initial := .of_off (.inr rfl) rfl rfl rfl

theorem Move.rests (htick : c ≠ .tick) (hcrank : c ≠ .crankTimerExpiry) (h : Move c s t) : s.gsc.Rests t.gsc := by
  cases h with
  | gsc b po pa drifts =>
    rcases drifts with h | h | h
    · exact absurd h htick
    · exact absurd h hcrank
    · exact h.rests
  | reform => exact s.reformOwn_rests
  | takeOp op serves hop => exact .reformed (u := (s.setNsq _).setPins _) rfl
  | standby ready => exact s.enterStandby_rests
  | reboot ended => rw [State.hardReset_gsc]; exact .initial _
  | restart pending => exact (Genset.Rests.initial s.gsc).trans (State.enterSync_rests (s.keptBlocks .restart) true)
  | wake standby => exact (Genset.Rests.initial s.gsc).trans (State.enterSync_rests (s.keptBlocks .wake) false)
  | putItem i x hi grows => exact s.putItem_rests i x
  | emptyItem i hi hc => exact s.emptyItem_rests i
  | packLimits => exact s.formPackLimits_rests
  | judge0 role x record hc => exact .of_eq (s.judge0_kept role x record .gsc (by decide))
  | judge1 role record hc => exact .of_eq (s.judge1_kept role record .gsc (by decide))
  | _ => exact .refl _

theorem Moves.rests (htick : c ≠ .tick) (hcrank : c ≠ .crankTimerExpiry) (h : Moves c s t) : s.gsc.Rests t.gsc :=
  h.induct (P := fun t => s.gsc.Rests t.gsc) (.refl _) fun _ _ hm hr => hr.trans (hm.rests htick hcrank)

theorem Moves.rests_neutral (h : Moves .badFrame s t) : s.gsc.Rests t.gsc :=
  h.rests (fun h => by cases h) (fun h => by cases h)

theorem State.opening_rests (s : State) (c : Instr) : s.gsc.Rests (s.opening c).gsc := by
  rcases s.opening_kept c with ⟨p, k, h⟩ | ⟨role, x, y, -, -, -, h⟩ | ⟨h, -, -⟩
  · rw [h, State.hardReset_gsc]; exact .initial _
  · have gsc : (s.loaded role x y).gsc = s.gsc := s.loaded_kept role x y .gsc (by decide)
    rw [h, State.bootLoaded_eq, ← gsc]
    exact State.enterSync_rests _ _
  · exact .of_eq (h .gsc (by decide))

/-! ### The law of one command -/

/-- The law of R95 for a command (or a millisecond that is not the off timer's). -/
def StartsLawful (s t : State) : Prop :=
  StartLaw t
    ∧ (s.gsc.engine ≠ .cranking → t.gsc.engine = .cranking → s.gsc.clock < clockMax →
        s.gsc.engine = .off ∧ s.nsq.op = .active ∧ s.gsc.dwell * 1000 ≤ s.gsc.off.elapsed
          ∧ (s.gsc.starts.filter fun r => decide (s.gsc.clock + 1 - r < 600)).length < 6
          ∧ t.gsc.starts.getLast? = some t.gsc.clock)
    ∧ (s.gsc.engine ≠ .off → t.gsc.engine = .off →
        t.gsc.off.elapsed = 0 ∧ (t.gsc.dwell = 20 ∨ s.gsc.engine = .cranking ∧ t.gsc.dwell = 10))
    ∧ (s.gsc.engine = .off → t.gsc.engine = .off →
        t.gsc.off.elapsed = 0 ∧ (t.gsc.dwell = 20 ∨ t.gsc.dwell = s.gsc.dwell)
        ∨ t.gsc.dwell = s.gsc.dwell ∧ t.gsc.off.elapsed = s.gsc.off.elapsed)

theorem Genset.Rests.length_le (h : a.Rests b) (ha : a.starts.length ≤ 6) : b.starts.length ≤ 6 := by
  rcases h.starts with hs | hs <;> rw [hs]
  · exact ha
  · simp

theorem Genset.Rests.off_of_ne (h : a.Rests b) (ha : a.engine ≠ .off) (hb : b.engine = .off) :
    b.off.elapsed = 0 ∧ b.dwell = 20 := by
  rcases h.off hb with ⟨he, hd | ⟨hoff, -⟩⟩ | ⟨hoff, -, -⟩
  · exact ⟨he, hd⟩
  · exact absurd hoff ha
  · exact absurd hoff ha

theorem Genset.Rests.off_of_off (h : a.Rests b) (hb : b.engine = .off) :
    b.off.elapsed = 0 ∧ (b.dwell = 20 ∨ b.dwell = a.dwell) ∨ b.dwell = a.dwell ∧ b.off.elapsed = a.off.elapsed := by
  rcases h.off hb with ⟨he, hd | ⟨-, hd⟩⟩ | ⟨-, hd, he⟩
  · exact .inl ⟨he, .inl hd⟩
  · exact .inl ⟨he, .inr hd⟩
  · exact .inr ⟨hd, he⟩

/-- The law of R95 by what a command makes of the scheduler, `a` being the scheduler with old readings dropped at most. -/
theorem Genset.Rests.lawful_of (engine : a.engine = s.gsc.engine) (dwell : a.dwell = s.gsc.dwell) (off : a.off = s.gsc.off)
    (starts : a.starts.length ≤ s.gsc.starts.length) (hs : StartLaw s) (h : a.Rests t.gsc) : StartsLawful s t := by
  refine ⟨h.length_le (starts.trans hs), fun hne hc => ?_, fun hne ho => ?_, fun _ ho => ?_⟩
  · exact absurd (engine ▸ (h.cranking hc).1) hne
  · obtain ⟨he, hd⟩ := h.off_of_ne (engine ▸ hne) ho
    exact ⟨he, .inl hd⟩
  · rw [← dwell, ← off]
    exact h.off_of_off ho

theorem Genset.Rests.lawful (hs : StartLaw s) (h : s.gsc.Rests t.gsc) : StartsLawful s t :=
  h.lawful_of rfl rfl rfl (le_refl _) hs

/-! ### The failed attempt (R96) -/

theorem State.enterEngine_gsc (s : State) (e : EngineState) : (s.gsc.enter e).Rests (s.enterEngine e).gsc :=
  State.reformOwn_rests ((s.setGsc (s.gsc.enter e)).writeSlot1 (.engine (commandOf e)))

/-- Entry to OFF puts the off timer to 0 and takes the dwell given (R95, R96). -/
theorem State.engineOff_gsc (s : State) (n : Nat) : ∃ g : Genset, g.starts = s.gsc.starts ∧ g.engine = .off
    ∧ g.off.elapsed = 0 ∧ g.dwell = n ∧ g.Rests (s.engineOff n).gsc := by
  refine ⟨_, ?_, ?_, ?_, ?_, (State.enterEngine_gsc (s.setGsc { s.gsc with
    crank := Timer.stopped, warm := Timer.stopped, cooldown := Timer.stopped, off := Timer.started, dwell := n })
    .off).trans ((Moves.testStandby _).rests_neutral)⟩ <;> rfl

theorem StartsLawful.crankTimerExpiry (hs : StartLaw s) (h : exec .crankTimerExpiry s = .next t) : StartsLawful s t := by
  have he : exec .crankTimerExpiry s = .next
      (if s.schedules && s.gsc.engine == .cranking && s.gsc.crank.due 3000 then s.failAttempt.settle else s) := rfl
  rw [he] at h
  split at h
  · next hc =>
    cases h
    have hcranking : s.gsc.engine = .cranking := by
      simp only [Bool.and_eq_true, beq_iff_eq] at hc
      exact hc.1.2
    have hsettle := (Moves.settle s.failAttempt).rests_neutral
    have hlaw : StartLaw s.failAttempt.settle ∧ (s.failAttempt.settle.gsc.engine = .off →
        s.failAttempt.settle.gsc.off.elapsed = 0
          ∧ (s.failAttempt.settle.gsc.dwell = 20 ∨ s.failAttempt.settle.gsc.dwell = 10)) := by
      by_cases hn : 3 ≤ s.gsc.failures + 1
      · have hf : s.failAttempt = ((s.setGsc { s.gsc with failures := 3, crank := Timer.stopped }).enterEngine
            .faulted).putStatus .startFail true := by simp only [State.failAttempt, hn, if_true]
        rw [hf] at hsettle ⊢
        have hrests := (State.enterEngine_gsc (s.setGsc { s.gsc with failures := 3, crank := Timer.stopped }) .faulted).trans
          hsettle
        refine ⟨hrests.length_le hs, fun ho => ?_⟩
        obtain ⟨he, hd⟩ := hrests.off_of_ne nofun ho
        exact ⟨he, .inl hd⟩
      · have hf : s.failAttempt = (s.setGsc { s.gsc with failures := s.gsc.failures + 1 }).engineOff 10 := by
          simp only [State.failAttempt, hn, if_false]
        rw [hf] at hsettle ⊢
        obtain ⟨g, starts, engine, elapsed, dwell, hg⟩ :=
          (s.setGsc { s.gsc with failures := s.gsc.failures + 1 }).engineOff_gsc 10
        have hrests := hg.trans hsettle
        refine ⟨hrests.length_le (by rw [starts]; exact hs), fun ho => ?_⟩
        rcases hrests.off_of_off ho with ⟨he, hd | hd⟩ | ⟨hd, he⟩
        · exact ⟨he, .inl hd⟩
        · exact ⟨he, .inr (hd.trans dwell)⟩
        · exact ⟨he.trans elapsed, .inr (hd.trans dwell)⟩
    refine ⟨hlaw.1, fun hne => absurd hcranking hne, fun _ ho => ?_, fun ho => ?_⟩
    · obtain ⟨he, hd⟩ := hlaw.2 ho
      exact ⟨he, hd.imp_right fun hd => ⟨hcranking, hd⟩⟩
    · rw [hcranking] at ho; cases ho
  · cases h
    exact (Genset.Rests.refl _).lawful hs

/-! ### The tick (R87, R92 to R95) -/

/-- Steps 1 to 4 of the tick (R87 to R90, R94). -/
def State.tickOpens (s : State) : State := (s.setGsc { s.gsc with tick := Timer.started }).tickClock.tickSamples

theorem State.takeTick_eq (s : State) :
    s.takeTick = (s.tickOpens.tickEngine.tickPower s.tickOpens.gsc.engine).tickReport := rfl

/-- The samples leave the engine and its off timer; the ring loses its old readings (R94). -/
theorem State.tickOpens_gsc (s : State) : s.tickOpens.gsc.engine = s.gsc.engine ∧ s.tickOpens.gsc.dwell = s.gsc.dwell
    ∧ s.tickOpens.gsc.off = s.gsc.off ∧ s.tickOpens.gsc.starts.length ≤ s.gsc.starts.length
    ∧ (s.gsc.clock < clockMax → s.tickOpens.gsc.starts = s.gsc.starts.filter fun r => decide (s.gsc.clock + 1 - r < 600))
    ∧ s.tickOpens.nsq = s.nsq := by
  unfold State.tickOpens State.tickClock
  split
  · next h => exact ⟨rfl, rfl, rfl, List.length_filter_le _ _, fun hc => absurd h (by
      simp only [State.setGsc_gsc]; omega), rfl⟩
  · exact ⟨rfl, rfl, rfl, List.length_filter_le _ _, fun _ => rfl, rfl⟩

theorem State.enterEngine_engine (s : State) (e : EngineState) : (s.enterEngine e).gsc.engine = e := by
  unfold State.enterEngine
  rcases State.reformOwn_gsc_cases ((s.setGsc (s.gsc.enter e)).writeSlot1 (.engine (commandOf e))) with h | h <;> rw [h] <;> rfl

/-- A start attempt joins the clock's reading to the ring and brings the engine into CRANKING (R95). -/
theorem State.engineAttempt_gsc (s : State) : ∃ g : Genset, g.engine = .cranking ∧ g.starts = s.gsc.starts ++ [s.gsc.clock]
    ∧ g.clock = s.gsc.clock ∧ g.Rests s.engineAttempt.gsc := by
  refine ⟨_, ?_, ?_, ?_, (State.enterEngine_gsc (s.setGsc { s.gsc with
    starts := s.gsc.starts ++ [s.gsc.clock], crank := Timer.started, off := s.gsc.off.halt }) .cranking).trans ?_⟩
  · rfl
  · rfl
  · rfl
  · unfold State.engineAttempt
    dsimp only
    split
    · exact (State.putItem_rests _ _ _).trans (State.putItem_rests _ _ _)
    · exact State.putItem_rests _ _ _

/-- The engine's test at a tick makes a start attempt, or leaves the engine out of CRANKING (R92, R100, R101). -/
theorem State.tickTest_cases (s : State) : s.gsc.Rests s.tickTest.gsc
    ∨ s.gsc.engine = .off ∧ startTest s.mpt.copy s.gsc (liveGensets s.ptb.entries) s.given s.nsq.op s.stp.held1 = true
      ∧ s.tickTest = s.engineAttempt := by
  unfold State.tickTest
  dsimp only
  split
  · next hoff =>
    split
    · next hstart => exact .inr ⟨hoff, hstart, rfl⟩
    · exact .inl (.refl _)
  · split
    · exact .inl (Moves.engineCooldown _).rests_neutral
    · exact .inl (.refl _)
  · split
    · exact .inl (Moves.engineRunning _).rests_neutral
    · exact .inl (.refl _)
  all_goals exact .inl (.refl _)

/-- What the start test asks of the engine and of the node (R92, R95). -/
theorem startTest_spec {copy : List Word} {gs : List (Address × Nat × EngineState)} {given : DemandRecord} {op : OpState}
    {h1 : Option Partner1} (h : startTest copy a gs given op h1 = true) :
    op = .active ∧ a.dwell * 1000 ≤ a.off.elapsed ∧ a.starts.length < 6 := by
  simp only [startTest, Bool.and_eq_true, decide_eq_true_eq, beq_iff_eq] at h
  exact ⟨h.1.1.2, h.1.1.1.1.1.1.2, h.1.1.1.1.1.2⟩

/-- SHUTDOWN finds an engine that ends in OFF in OFF, or in CRANKING (R103). -/
theorem State.engineWithdrawn_of_off (h : s.engineWithdrawn.gsc.engine = .off) (hne : s.gsc.engine ≠ .cranking) :
    s.engineWithdrawn = s := by
  unfold State.engineWithdrawn State.engineCooldown at h ⊢
  split at h
  · rw [State.enterEngine_engine] at h; cases h
  · rw [State.enterEngine_engine] at h; cases h
  · next hc => exact absurd hc hne
  all_goals rfl

/-- The tick from the state after SHUTDOWN is given to its end. -/
theorem State.tickEnds_rests (s : State) (e : EngineState) : s.gsc.Rests ((s.tickPower e).tickReport).settle.gsc :=
  (((Moves.tickPower s e).trans (Moves.tickReport _)).trans (Moves.settle _)).rests_neutral

theorem StartsLawful.takeTick (hs : StartLaw s) : StartsLawful s s.takeTick.settle := by
  obtain ⟨engine, dwell, off, starts, pruned, nsq⟩ := s.tickOpens_gsc
  rw [State.takeTick_eq]
  unfold State.tickEngine
  generalize hv : (if s.tickOpens.given.shutdown then s.tickOpens.engineWithdrawn else s.tickOpens) = v
  have hrests : s.tickOpens.gsc.Rests v.gsc := by
    rw [← hv]
    split
    · exact (Moves.engineWithdrawn _).rests_neutral
    · exact .refl _
  have hsame : v.gsc.engine = .off → s.tickOpens.gsc.engine ≠ .cranking → v = s.tickOpens := fun ho hne => by
    rw [← hv] at ho ⊢
    split at ho
    · next hd => rw [if_pos hd]; exact State.engineWithdrawn_of_off ho hne
    · next hd => rw [if_neg hd]
  have hend := State.tickEnds_rests v.tickTest s.tickOpens.gsc.engine
  generalize State.settle _ = t at hend ⊢
  rcases v.tickTest_cases with h | ⟨ho, hstart, h⟩
  · exact ((hrests.trans h).trans hend).lawful_of engine dwell off starts hs
  · obtain ⟨g, hcranking, hring, hclock, hg⟩ := v.engineAttempt_gsc
    obtain ⟨hop, hdwell, hbudget⟩ := startTest_spec hstart
    rw [h] at hend
    have htg := hg.trans hend
    have hne : g.engine ≠ .off := by rw [hcranking]; nofun
    refine ⟨htg.length_le ?_, fun hns htc hclk => ?_, fun _ hto => ?_, fun _ hto => ?_⟩
    · rw [hring, List.length_append, List.length_singleton]; omega
    · have hvs := hsame ho (engine ▸ hns)
      rw [hvs] at ho hop hdwell hbudget
      obtain ⟨-, hst, hck⟩ := htg.cranking htc
      refine ⟨engine ▸ ho, nsq ▸ hop, ?_, ?_, ?_⟩
      · rw [← dwell, ← off]; exact hdwell
      · rw [← pruned hclk]; exact hbudget
      · rw [hst, hck, hring, hclock, List.getLast?_concat]
    · obtain ⟨he, hd⟩ := htg.off_of_ne hne hto
      exact ⟨he, .inl hd⟩
    · obtain ⟨he, hd⟩ := htg.off_of_ne hne hto
      exact .inl ⟨he, .inl hd⟩

theorem StartsLawful.exec (hs : StartLaw s) (h : exec c s = .next t) : StartsLawful s t := by
  by_cases hcrank : c = .crankTimerExpiry
  · subst hcrank; exact .crankTimerExpiry hs h
  · by_cases htick : c = .tick
    · subst htick
      have he : Machine.exec .tick s = .next (if s.schedules && s.gsc.tick.due 1000 then s.takeTick.settle else s) := rfl
      rw [he] at h
      cases h
      split
      · exact .takeTick hs
      · exact (Genset.Rests.refl _).lawful hs
    · exact ((s.opening_rests c).trans ((moves_of_exec h).rests htick hcrank)).lawful hs

/-- Settles O56: a command other than TICK and the crank timer's expiry starts no attempt and takes OFF with 20 s, those two
are followed step by step, and a millisecond moves the off timer alone. -/
theorem startsKeepTheirDwellAndBudget : Obligations.StartsKeepTheirDwellAndBudget := by
  intro s t hs hstep
  rcases step_cases hstep with ⟨hp, rfl⟩ | ⟨c, rest, hp, he⟩
  · refine ⟨hs, fun hne hc => absurd hc hne, fun hne ho => absurd ho hne, fun _ _ => .inr ⟨rfl, fun hne => absurd hp hne, fun _ => ?_⟩⟩
    show s.gsc.off.count.elapsed = _
    unfold Timer.count
    split <;> rfl
  · have hq : StartLaw (s.setPending rest) := hs
    obtain ⟨hlaw, hstart, hfirst, hstay⟩ := StartsLawful.exec hq he
    refine ⟨hlaw, hstart, hfirst, fun h1 h2 => (hstay h1 h2).imp_right fun ⟨hd, hoff⟩ => ⟨hd, fun _ => hoff, fun hnil => ?_⟩⟩
    rw [hp] at hnil; cases hnil

end
end Sys2Proof.Machine
end

/-! # Wear never decreases, and q and d_w derive from A1 and S1 (R119, R123, R124) -/
section
namespace Sys2Proof.Machine

section
variable {c : Instr} {s t u : State}

/-! ### Wear items -/

theorem setItem_length (items : List WearItem) (i : Nat) (x : WearItem) : (setItem items i x).length = items.length :=
  List.length_set

/-- Item 1 is left by another item's replacement. -/
theorem itemAt_setItem_ne (items : List WearItem) {i : Nat} (x : WearItem) (hi : 1 ≤ i) (h : i ≠ 1) :
    itemAt (setItem items i x) 1 = itemAt items 1 := by
  have hne : i - 1 ≠ 0 := by omega
  simp [itemAt, setItem, List.getD_eq_getElem?_getD, List.getElem?_set_ne hne]

/-- Item 1 replaced by one with the accumulator it had. -/
theorem itemAt_setItem_acc (items : List WearItem) {x : WearItem} (h : x.acc = (itemAt items 1).acc) :
    (itemAt (setItem items 1 x) 1).acc = (itemAt items 1).acc := by
  cases items with
  | nil => rfl
  | cons y ys => exact h

theorem itemAt_setItem_zero (items : List WearItem) : (itemAt (setItem items 1 ⟨0, 0, .ok⟩) 1).acc = 0 := by
  cases items <;> rfl

/-- The accumulators of one table are kept or raised in another, within their range (R119). -/
def Grown (a b : List WearItem) : Prop :=
  b.length = a.length ∧ ∀ (i : Nat) (x y : WearItem), a[i]? = some x → b[i]? = some y → x.acc ≤ y.acc ∧ y.acc ≤ accMax

theorem Grown.refl {a : List WearItem} (h : ∀ x ∈ a, x.acc ≤ accMax) : Grown a a := by
  refine ⟨rfl, fun i x y hx hy => ?_⟩
  rw [hx] at hy
  cases hy
  exact ⟨le_refl _, h x (List.mem_of_getElem? hx)⟩

/-- A table within its range that grows keeps what it had grown from. -/
theorem Grown.setItem {a b : List WearItem} {i : Nat} {x : WearItem} (h : Grown a b)
    (grows : (itemAt b i).acc ≤ accMax → (itemAt b i).acc ≤ x.acc ∧ x.acc ≤ accMax) : Grown a (setItem b i x) := by
  obtain ⟨hlen, hgrown⟩ := h
  refine ⟨(setItem_length _ _ _).trans hlen, fun j y z hy hz => ?_⟩
  unfold Machine.setItem at hz
  by_cases hj : i - 1 = j
  · have hlt : j < b.length := by
      have := (List.getElem?_eq_some_iff.mp hz).1
      rwa [List.length_set] at this
    have hold : b[j]? = some (itemAt b i) := by
      rw [itemAt, hj, List.getD_eq_getElem?_getD, List.getElem?_eq_getElem hlt]
      rfl
    rw [hj, List.getElem?_set_self hlt] at hz
    cases hz
    obtain ⟨hlow, hhigh⟩ := hgrown j y _ hy hold
    obtain ⟨h1, h2⟩ := grows hhigh
    exact ⟨hlow.trans h1, h2⟩
  · rw [List.getElem?_set_ne hj] at hz
    exact hgrown j y z hy hz

theorem restateItems_grown {a b : List WearItem} (copy : List Word) (h : Grown a b) : Grown a (restateItems copy b) := by
  obtain ⟨hlen, hgrown⟩ := h
  refine ⟨List.length_mapIdx.trans hlen, fun j y z hy hz => ?_⟩
  unfold restateItems at hz
  rw [List.getElem?_mapIdx] at hz
  obtain ⟨w, hw, rfl⟩ := Option.map_eq_some_iff.mp hz
  exact hgrown j y w hy hw

/-! ### The accumulators, move by move -/

theorem Wear.derive_items (w : Wear) (role : Option Role) (copy : List Word) : (w.derive role copy).items = w.items := by
  unfold Wear.derive
  split <;> rfl

theorem State.reformOwn_wau (s : State) : s.reformOwn.wau = s.wau := s.reformOwn_kept .wau (by decide)

theorem State.putItem_items (s : State) (i : Nat) (x : WearItem) : (s.putItem i x).wau.items = setItem s.wau.items i x := by
  unfold State.putItem
  dsimp only
  generalize hu : ite (x.state = .due ∧ (itemAt s.wau.items i).state ≠ .due) _ _ = u
  have hwau : u.wau.items = setItem s.wau.items i x := by rw [← hu]; split <;> rfl
  split
  · split
    · rw [State.reformOwn_wau]; exact Wear.derive_items _ _ _
    · exact Wear.derive_items _ _ _
  · exact hwau

theorem State.syncStarted_wau (s : State) (held : Bool) : (s.syncStarted held).wau = s.wau
    ∨ (s.syncStarted held).wau = { s.wau with minute := Timer.started } := by
  unfold State.syncStarted
  cases held <;> dsimp only <;> split <;> first | exact .inl rfl | exact .inr rfl

/-- SYNC entry starts the minute timer at most (R116). -/
theorem State.enterSync_wau (s : State) (held : Bool) : (s.enterSync held).wau = s.wau
    ∨ (s.enterSync held).wau = { s.wau with minute := Timer.started } := by
  have h : (s.enterSync held).wau = (s.syncStarted held).wau := State.reformOwn_wau (s.syncStarted held)
  rw [h]
  exact s.syncStarted_wau held

theorem State.keptBlocks_items (s : State) (k : ResetKind) (held : Bool) :
    ((s.keptBlocks k).enterSync held).wau.items = restateItems s.mpt.copy s.wau.items := by
  have h : (s.keptBlocks k).wau.items = restateItems s.mpt.copy s.wau.items := Wear.derive_items _ _ _
  rcases (s.keptBlocks k).enterSync_wau held with hw | hw <;> rw [hw] <;> exact h

/-- Reset into BOOT or MUTE with no RESTART or REBOOT pending, where no move but another reset leads on. -/
def State.fallen (s : State) : Prop := (s.nsq.op = .boot ∨ s.nsq.op = .mute) ∧ s.nsq.pendingReset = .none

theorem State.hardReset_fallen (s : State) (k : ResetKind) : (s.hardReset k).fallen := by
  rcases s.hardReset_cases k with ⟨role, -, h⟩ | ⟨-, h⟩ <;> rw [h]
  · exact ⟨.inl rfl, rfl⟩
  · exact ⟨.inr rfl, rfl⟩

theorem State.fallen.of_nsq (h : s.fallen) (hn : t.nsq = s.nsq) : t.fallen := by
  unfold State.fallen
  rw [hn]
  exact h

theorem State.fallen.not_serves (h : s.fallen) : s.serves = false := by
  rw [State.serves]
  rcases h.1 with ho | ho <;> rw [ho] <;> rfl

/-- A node reset into BOOT or MUTE stays there within an event. -/
theorem Move.keeps_fallen (h : Move c s t) (hs : s.fallen) : t.fallen := by
  have hserves := hs.not_serves
  cases h with
  | nsq b op sample reset =>
    rcases reset with hr | hr | hr
    · unfold State.fallen; rw [State.setNsq_nsq, op, hr]; exact hs
    · rw [hserves] at hr; cases hr
    · exact absurd hs.2 hr
  | reform => exact hs.of_nsq (s.reformOwn_kept .nsq (by decide))
  | takeOp op serves hop => rw [hserves] at serves; cases serves
  | standby ready =>
    simp only [State.standbyReady, Bool.and_eq_true, Bool.or_eq_true, beq_iff_eq] at ready
    rcases hs.1 with ho | ho <;> rw [ho] at ready <;> simp at ready
  | reboot ended => exact s.hardReset_fallen _
  | restart pending => rw [hs.2] at pending; cases pending
  | wake standby => rcases hs.1 with ho | ho <;> rw [ho] at standby <;> cases standby
  | putItem i x hi grows => exact hs.of_nsq (s.putItem_kept i x .nsq (by decide))
  | emptyItem i hi hc => exact hs.of_nsq (s.emptyItem_kept i .nsq (by decide))
  | packLimits => exact hs.of_nsq (s.formPackLimits_kept .nsq (by decide))
  | judge0 role x record hc => exact hs.of_nsq (s.judge0_kept role x record .nsq (by decide))
  | judge1 role record hc => exact hs.of_nsq (s.judge1_kept role record .nsq (by decide))
  | _ => exact hs

/-- But for a WEAR_RESET and a reset into BOOT or MUTE every move keeps or raises the accumulators (R119). -/
theorem Move.grown {a : List WearItem} (hc : ∀ src target args, c ≠ .wearReset src target args) (h : Move c s t)
    (hs : s.fallen ∨ Grown a s.wau.items) : t.fallen ∨ Grown a t.wau.items := by
  rcases hs with hs | hs
  · exact .inl (h.keeps_fallen hs)
  · cases h with
    | wau b items q dw => exact .inr (by rw [State.setWau_wau, items]; exact hs)
    | reform => exact .inr (by rw [State.reformOwn_wau]; exact hs)
    | takeOp op serves hop =>
      have hwau : (s.takeOp op).wau = s.wau := s.takeOp_kept op .wau (by decide)
      exact .inr (by rw [hwau]; exact hs)
    | standby ready => exact .inr (by rw [State.enterStandby_wau]; exact hs)
    | reboot ended => exact .inl (s.hardReset_fallen _)
    | restart pending =>
      exact .inr (by rw [State.restartReset_eq, State.keptBlocks_items]; exact restateItems_grown _ hs)
    | wake standby => exact .inr (by rw [State.wakeReset_eq, State.keptBlocks_items]; exact restateItems_grown _ hs)
    | putItem i x hi grows => exact .inr (by rw [State.putItem_items]; exact hs.setItem grows)
    | emptyItem i hi hreset => obtain ⟨src, target, args, h⟩ := hreset; exact absurd h (hc src target args)
    | packLimits =>
      have hwau : s.formPackLimits.wau = s.wau := s.formPackLimits_kept .wau (by decide)
      exact .inr (by rw [hwau]; exact hs)
    | judge0 role x record hc =>
      have hwau : (s.judge0 role x record).wau = s.wau := s.judge0_kept role x record .wau (by decide)
      exact .inr (by rw [hwau]; exact hs)
    | judge1 role record hc =>
      have hwau : (s.judge1 role record).wau = s.wau := s.judge1_kept role record .wau (by decide)
      exact .inr (by rw [hwau]; exact hs)
    | _ => exact .inr hs

theorem State.opening_grown {a : List WearItem} (hboot : s.nsq.op ≠ .boot) (hs : Grown a s.wau.items) :
    (s.opening c).fallen ∨ Grown a (s.opening c).wau.items := by
  rcases s.opening_kept c with ⟨p, k, h⟩ | ⟨role, x, y, -, -, hb, -⟩ | ⟨h, -, -⟩
  · exact .inl (by rw [h]; exact State.hardReset_fallen _ _)
  · exact absurd hb hboot
  · have hwau : (s.opening c).wau = s.wau := h .wau (by decide)
    exact .inr (by rw [hwau]; exact hs)

/-! ### q and d_w (R123, R124) -/

/-- The Wear Accounting Unit's part of the law: q and d_w as R123 and R124 derive them. -/
def DerivesFrom (role : Option Role) (copy : List Word) (w : Wear) : Prop :=
  checkHolds copy = true → 1 ≤ dueOf copy 1 →
    (role = some .axle → w.q = max 20 (100 - 80 * (itemAt w.items 1).acc / dueOf copy 1))
      ∧ (role = some .pack → w.dw = max 70 (100 - 30 * (itemAt w.items 1).acc / dueOf copy 1))

theorem deriveLaw_iff (s : State) :
    DeriveLaw s ↔ (s.role = some .axle → s.blu.own.q = s.wau.q) ∧ DerivesFrom s.role s.mpt.copy s.wau := Iff.rfl

/-- Deriving meets R123 and R124 (the due threshold of 0 is log entry 22's). -/
theorem Wear.derive_derives (w : Wear) (role : Option Role) (copy : List Word) :
    DerivesFrom role copy (w.derive role copy) := by
  intro _ hdue
  have hne : dueOf copy 1 ≠ 0 := by omega
  refine ⟨fun hr => ?_, fun hr => ?_⟩ <;> subst hr
  · show padWeight copy _ = _
    simp [padWeight, quotient, hne, Wear.derive]
  · show packDerate copy _ = _
    simp [packDerate, quotient, hne, Wear.derive]

theorem DerivesFrom.of_eq {role : Option Role} {copy : List Word} {v w : Wear}
    (acc : (itemAt w.items 1).acc = (itemAt v.items 1).acc) (q : w.q = v.q) (dw : w.dw = v.dw) (h : DerivesFrom role copy v) :
    DerivesFrom role copy w := by
  unfold DerivesFrom
  rw [acc, q, dw]
  exact h

/-- A table whose first accumulator is 0 gives 100 (R123, R124). -/
theorem DerivesFrom.of_zero {role : Option Role} {copy : List Word} {w : Wear} (acc : (itemAt w.items 1).acc = 0)
    (q : role = some .axle → w.q = 100) (dw : role = some .pack → w.dw = 100) : DerivesFrom role copy w := by
  intro _ _
  rw [acc]
  exact ⟨fun hr => by simp [q hr], fun hr => by simp [dw hr]⟩

theorem DeriveLaw.of_eq (role : t.role = s.role) (own : t.blu.own.q = s.blu.own.q) (copy : t.mpt.copy = s.mpt.copy)
    (items : t.wau.items = s.wau.items) (q : t.wau.q = s.wau.q) (dw : t.wau.dw = s.wau.dw) (hs : DeriveLaw s) :
    DeriveLaw t := by
  unfold DeriveLaw
  rw [role, own, copy, items, q, dw]
  exact hs

theorem DeriveLaw.of_kept {bs : List Block} (h : KeptBut s t bs) (nsq : Block.nsq ∉ bs) (blu : Block.blu ∉ bs)
    (mpt : Block.mpt ∉ bs) (wau : Block.wau ∉ bs) (hs : DeriveLaw s) : DeriveLaw t :=
  have hnsq : t.nsq = s.nsq := h .nsq nsq
  have hblu : t.blu = s.blu := h .blu blu
  have hmpt : t.mpt = s.mpt := h .mpt mpt
  have hwau : t.wau = s.wau := h .wau wau
  hs.of_eq (by rw [State.role, State.role, hnsq]) (by rw [hblu]) (by rw [hmpt]) (by rw [hwau]) (by rw [hwau]) (by rw [hwau])

/-- The own capability record takes the pad weight held (R46). -/
theorem State.reformOwn_q (s : State) (h : s.role = some .axle) : s.reformOwn.blu.own.q = s.wau.q := by
  unfold State.reformOwn
  rw [h]
  rfl

theorem DerivesFrom.reformOwn (h : DerivesFrom s.role s.mpt.copy s.wau) : DeriveLaw s.reformOwn := by
  have hnsq : s.reformOwn.nsq = s.nsq := s.reformOwn_kept .nsq (by decide)
  have hmpt : s.reformOwn.mpt = s.mpt := s.reformOwn_kept .mpt (by decide)
  rw [deriveLaw_iff, State.role, hnsq, hmpt, State.reformOwn_wau]
  exact ⟨s.reformOwn_q, h⟩

theorem DeriveLaw.derives (h : DeriveLaw s) : DerivesFrom s.role s.mpt.copy s.wau := h.2

theorem DeriveLaw.reform (h : DeriveLaw s) : DeriveLaw s.reformOwn := h.derives.reformOwn

theorem DeriveLaw.packLimits (h : DeriveLaw s) : DeriveLaw s.formPackLimits := by
  have h1 : DeriveLaw (s.setPlu (s.plu.formLimits s.mpt.copy (packReading s.stp.held1) s.wau.dw)) :=
    DeriveLaw.of_eq (s := s) rfl rfl rfl rfl rfl rfl h
  exact h1.reform.of_kept (State.putStatus_kept _ _ _) (by decide) (by decide) (by decide) (by decide)

/-- A wear item replaced: where the first accumulator changes, q or d_w is recomputed, and a change of q re-forms the own
record (R123, R124). -/
theorem DeriveLaw.putItem {i : Nat} (x : WearItem) (hi : 1 ≤ i) (h : DeriveLaw s) : DeriveLaw (s.putItem i x) := by
  unfold State.putItem
  dsimp only
  generalize hu : ite (x.state = .due ∧ (itemAt s.wau.items i).state ≠ .due) _ _ = u
  have hrole : u.role = s.role := by rw [← hu]; split <;> rfl
  have hblu : u.blu = s.blu := by rw [← hu]; split <;> rfl
  have hmpt : u.mpt = s.mpt := by rw [← hu]; split <;> rfl
  have hwau : u.wau = { s.wau with items := setItem s.wau.items i x } := by rw [← hu]; split <;> rfl
  split
  · have hderives : ∀ w : Wear, DerivesFrom (u.setWau (w.derive s.role s.mpt.copy)).role
        (u.setWau (w.derive s.role s.mpt.copy)).mpt.copy (u.setWau (w.derive s.role s.mpt.copy)).wau := fun w => by
      rw [State.setWau_role, State.setWau_mpt, State.setWau_wau, hrole, hmpt]
      exact w.derive_derives _ _
    split
    · exact (hderives _).reformOwn
    · next hsame =>
      refine ⟨fun hr => ?_, hderives _⟩
      rw [State.setWau_role, hrole] at hr
      rw [State.setWau_blu, hblu, h.1 hr]
      by_contra hne
      exact hsame ⟨hr, Ne.symm hne⟩
  · next hkeep =>
    refine ⟨fun hr => ?_, ?_⟩
    · rw [hrole] at hr
      rw [hblu, hwau, h.1 hr]
    · rw [hrole, hmpt, hwau]
      refine DerivesFrom.of_eq (v := s.wau) ?_ rfl rfl h.derives
      by_cases h1 : i = 1
      · subst h1
        exact itemAt_setItem_acc _ (by_contra fun hne => hkeep ⟨rfl, hne⟩)
      · exact congrArg WearItem.acc (itemAt_setItem_ne _ _ hi h1)

/-- A wear item emptied: q at A1 and d_w at S1 are 100 (R125). -/
theorem DeriveLaw.emptyItem {i : Nat} (hi : 1 ≤ i) (h : DeriveLaw s) : DeriveLaw (s.emptyItem i) := by
  unfold State.emptyItem
  dsimp only
  generalize hu : State.putStatus (s.setWau (s.wau.resetItem s.role i)) .wearNear _ = u
  have hrole : u.role = s.role := by rw [← hu]; rfl
  have hmpt : u.mpt = s.mpt := by rw [← hu]; rfl
  have hwau : u.wau = s.wau.resetItem s.role i := by rw [← hu]; rfl
  have hblu : u.blu = s.blu := by rw [← hu]; rfl
  have hderives : DerivesFrom u.role u.mpt.copy u.wau := by
    rw [hrole, hmpt, hwau]
    by_cases h1 : i = 1
    · subst h1
      exact .of_zero (itemAt_setItem_zero _) (fun hr => by simp [hr]) (fun hr => by simp [hr])
    · refine h.derives.of_eq (congrArg WearItem.acc (itemAt_setItem_ne _ _ hi h1)) ?_ ?_
      · simp [h1]
      · simp [h1]
  have hlaw : ¬ (u.role = some .axle ∧ i = 1) → DeriveLaw u := fun hne => by
    refine ⟨fun hr => ?_, hderives⟩
    have hs : s.role = some .axle := hrole ▸ hr
    have h1 : i ≠ 1 := fun h1 => hne ⟨hr, h1⟩
    rw [hblu, hwau, Wear.resetItem_q, if_neg fun hh => h1 hh.2]
    exact h.1 hs
  split
  · split
    · exact hderives.reformOwn
    · next h1 => exact hlaw fun hh => h1 hh.2
  · next hr =>
    have hne : u.role ≠ some .axle := by rw [hr]; nofun
    split
    · exact (hlaw fun hh => hne hh.1).packLimits
    · exact hlaw fun hh => hne hh.1
  · next hr => exact hlaw fun hh => by rw [hr] at hh; cases hh.1
  · next hr => exact hlaw fun hh => by rw [hr] at hh; cases hh.1

theorem State.roleStandby_q (s : State) : s.roleStandby.blu.own.q = s.blu.own.q
    ∨ s.role = some .axle ∧ s.roleStandby.blu.own.q = s.wau.q := by
  unfold State.roleStandby
  split
  · next hr =>
    simp only [State.writeSlot0_blu, State.writeSlot1_blu]
    exact .inr ⟨hr, State.reformOwn_q _ hr⟩
  · next hr =>
    simp only [State.writeSlot0_blu]
    unfold State.reformOwn
    simp only [State.setPlu_role, hr]
    exact .inl rfl
  · next hr =>
    simp only [State.writeSlot0_blu, State.writeSlot1_blu]
    unfold State.reformOwn
    simp only [State.setGsc_role, hr]
    exact .inl rfl
  · exact .inl rfl

theorem DeriveLaw.enterStandby (h : DeriveLaw s) : DeriveLaw s.enterStandby := by
  have hq : s.role = some .axle → s.enterStandby.blu.own.q = s.wau.q := fun hr => by
    rw [State.enterStandby_blu]
    unfold State.lowered
    generalize hu : State.setPins _ _ = u
    have hu' : u.blu = s.blu ∧ u.wau = s.wau := by rw [← hu]; exact ⟨rfl, rfl⟩
    rcases u.roleStandby_q with hq | ⟨-, hq⟩ <;> rw [hq]
    · rw [hu'.1]; exact h.1 hr
    · rw [hu'.2]
  rw [deriveLaw_iff, State.role, State.enterStandby_nsq, State.enterStandby_mpt, State.enterStandby_wau]
  exact ⟨hq, h.derives⟩

/-- SYNC entry re-forms the own capability record. -/
theorem DerivesFrom.enterSync (held : Bool) (h : DerivesFrom s.role s.mpt.copy s.wau) : DeriveLaw (s.enterSync held) := by
  have hsync : DerivesFrom (s.syncStarted held).role (s.syncStarted held).mpt.copy (s.syncStarted held).wau := by
    rw [State.role, State.syncStarted_nsq, State.syncStarted_mpt]
    rcases s.syncStarted_wau held with hw | hw <;> rw [hw] <;> exact h
  exact DeriveLaw.of_eq (s := (s.syncStarted held).reformOwn) rfl rfl rfl rfl rfl rfl hsync.reformOwn

theorem State.keptBlocks_derives (s : State) (k : ResetKind) :
    DerivesFrom (s.keptBlocks k).role (s.keptBlocks k).mpt.copy (s.keptBlocks k).wau := Wear.derive_derives _ _ _

/-- A table put to zeroes has q and d_w at 100 (R126, log entry 6). -/
theorem State.hardReset_derive (s : State) (k : ResetKind) : DeriveLaw (s.hardReset k) := by
  have hacc : ∀ n, (itemAt (Wear.blank n).items 1).acc = 0 := fun n => by cases n <;> rfl
  rcases s.hardReset_cases k with ⟨role, -, h⟩ | ⟨-, h⟩ <;> rw [h] <;>
    exact ⟨fun _ => rfl, DerivesFrom.of_zero (hacc _) (fun _ => rfl) fun _ => rfl⟩

theorem Move.keeps_deriveLaw (h : Move c s t) (hs : DeriveLaw s) : DeriveLaw t := by
  cases h with
  | nsq b op sample reset => exact DeriveLaw.of_eq (s := s) (congrArg strapRole sample) rfl rfl rfl rfl rfl hs
  | blu b own factor => exact DeriveLaw.of_eq (s := s) rfl (congrArg AxleRecord.q own) rfl rfl rfl rfl hs
  | wau b items q dw => exact DeriveLaw.of_eq (s := s) rfl rfl rfl items q dw hs
  | mpt b keeps => exact DeriveLaw.of_eq (s := s) rfl rfl keeps.copy rfl rfl rfl hs
  | reform => exact hs.reform
  | takeOp op serves hop =>
    exact DerivesFrom.reformOwn (s := (s.setNsq { s.nsq with op := op }).setPins _) hs.derives
  | standby ready => exact hs.enterStandby
  | reboot ended => exact s.hardReset_derive _
  | restart pending => exact (s.keptBlocks_derives _).enterSync _
  | wake standby => exact (s.keptBlocks_derives _).enterSync _
  | putItem i x hi grows => exact hs.putItem x hi
  | emptyItem i hi hc => exact hs.emptyItem hi
  | packLimits => exact hs.packLimits
  | judge0 role x record hc =>
    exact hs.of_kept (s.judge0_kept role x record) (by decide) (by decide) (by decide) (by decide)
  | judge1 role record hc =>
    exact hs.of_kept (s.judge1_kept role record) (by decide) (by decide) (by decide) (by decide)
  | _ => exact hs

/-! ### A storage upset (R169, log entry 21) -/

theorem foldl_xor (c : List Word) (a : Word) : c.foldl (· ^^^ ·) a = a ^^^ xorWords c := by
  unfold xorWords
  induction c generalizing a with
  | nil => simp
  | cons x xs ih =>
    rw [List.foldl_cons, List.foldl_cons, ih, ih (0 ^^^ x), BitVec.xor_assoc]
    simp

theorem xorWords_cons (x : Word) (xs : List Word) : xorWords (x :: xs) = x ^^^ xorWords xs := by
  rw [xorWords, List.foldl_cons, foldl_xor]
  simp

/-- Bits flipped in a word of an image flip in the exclusive-or of its words. -/
theorem xorWords_upset (c : List Word) {n : Nat} (bits : Word) (h : n < c.length) :
    xorWords (upsetWord c n bits) = xorWords c ^^^ bits := by
  unfold upsetWord imageWord
  induction c generalizing n with
  | nil => cases h
  | cons x xs ih =>
    cases n with
    | zero =>
      simp only [List.set_cons_zero, List.getD_cons_zero, xorWords_cons]
      rw [BitVec.xor_assoc, BitVec.xor_comm bits, ← BitVec.xor_assoc]
    | succ n =>
      simp only [List.set_cons_succ, List.getD_cons_succ, xorWords_cons]
      rw [ih (by simpa using h), BitVec.xor_assoc]

/-- An upset of a copy that passes its check leaves the words, or is found (R169). -/
theorem upsetWord_cases {c : List Word} (n : Nat) (bits : Word) (h : checkHolds c = true) :
    upsetWord c n bits = c ∨ checkHolds (upsetWord c n bits) = false := by
  by_cases hn : n < c.length
  · by_cases hb : bits = 0
    · subst hb
      left
      rw [upsetWord, imageWord, List.getD_eq_getElem _ _ hn]
      simp
    · right
      rw [checkHolds, beq_iff_eq] at h
      rw [checkHolds, xorWords_upset _ _ hn, h, beq_eq_false_iff_ne]
      intro hx
      apply hb
      have := congrArg (fun w => 0xA55A#16 ^^^ w) hx
      simpa [← BitVec.xor_assoc] using this
  · exact .inl (List.set_eq_of_length_le (by omega))

theorem State.upsetCopy_derive (u : Option (BitVec 6 × Word)) (hs : DeriveLaw s) : DeriveLaw (s.upsetCopy u) := by
  rcases s.upsetCopy_cases u with h | ⟨n, bits, -, hcheck, h⟩ <;> rw [h]
  · exact hs
  · rcases upsetWord_cases n.toNat bits hcheck with hw | hw
    · rw [hw]; exact hs
    · exact ⟨hs.1, fun hc => by rw [State.setMpt_mpt, hw] at hc; cases hc⟩

theorem State.restateWear_wau (s : State) : s.restateWear.wau = s.wau.derive s.role s.mpt.copy := by
  unfold State.restateWear
  dsimp only
  split <;> rfl

/-- The load derives q and d_w from the table and the image just taken (R126). -/
theorem State.loaded_derives (s : State) (role : Role) (a : Bool) (b : BitVec 8) :
    DerivesFrom (s.loaded role a b).role (s.loaded role a b).mpt.copy (s.loaded role a b).wau := by
  unfold State.loaded
  dsimp only
  generalize (s.loadImage role a).loadRing role b = u
  have hrole : u.restateWear.role = u.role := by
    have hnsq : u.restateWear.nsq = u.nsq := u.restateWear_kept .nsq (by decide)
    rw [State.role, State.role, hnsq]
  have hmpt : u.restateWear.mpt = u.mpt := u.restateWear_kept .mpt (by decide)
  rw [State.setMpt_role, State.setMpt_mpt, State.setMpt_wau, hrole, hmpt, State.restateWear_wau]
  exact Wear.derive_derives _ _ _

theorem DeriveLaw.of_port (h : KeptBut s t [.mpt, .free]) (copy : t.mpt.copy = s.mpt.copy) (hs : DeriveLaw s) : DeriveLaw t :=
  have nsq : t.nsq = s.nsq := h .nsq (by decide)
  have blu : t.blu = s.blu := h .blu (by decide)
  have wau : t.wau = s.wau := h .wau (by decide)
  hs.of_eq (by rw [State.role, State.role, nsq]) (by rw [blu]) copy (by rw [wau]) (by rw [wau]) (by rw [wau])

theorem State.opening_keeps_deriveLaw (c : Instr) (hs : DeriveLaw s) : DeriveLaw (s.opening c) := by
  have hpins : ∀ p, DeriveLaw (s.pinStraps p) := fun p => DeriveLaw.of_eq (s := s) rfl rfl rfl rfl rfl rfl hs
  rcases s.opening_cases c with h | ⟨p, ⟨-, h⟩ | ⟨-, h⟩⟩ | ⟨role, a, b, -, -, -, -, h⟩ | ⟨u, -, h⟩ | ⟨p, job, -, -, h⟩
    | ⟨p, job, -, -, h⟩ | ⟨p, o, place, n, mask, value, -, -, h⟩
  · rw [h]; exact hs
  · rw [h]; exact State.hardReset_derive _ _
  · rw [h]; exact State.hardReset_derive _ _
  · rw [h, State.bootLoaded_eq]; exact (s.loaded_derives role a b).enterSync _
  · rw [h]; exact State.upsetCopy_derive u hs
  · rw [h]; exact (hpins p).of_port ((State.storedPage_kept _ job).mono (by decide)) (State.storedPage_copy _ _)
  · rw [h]; exact DeriveLaw.of_eq (s := s) rfl rfl rfl rfl rfl rfl hs
  · rw [h]; exact (hpins p).of_port (State.writeConfig_kept _ n mask value o) (State.writeConfig_copy _ _ _ _ _)

/-- Settles O57: an increment never lowers an accumulator, a reset into BOOT or MUTE is not left within its event, and each
change of the first accumulator or of the running copy derives q and d_w anew or fails the copy's check. -/
theorem wearNeverDecreases : Obligations.WearNeverDecreases := by
  refine ⟨fun s t c he hc hboot hb hm hrange => ?_, fun s t hs hstep => ?_⟩
  · have h := (moves_of_exec he).induct (P := fun t => t.fallen ∨ Grown s.wau.items t.wau.items)
      (State.opening_grown hboot (Grown.refl hrange)) fun _ _ hm => hm.grown hc
    rcases h with ⟨ho | ho, -⟩ | h
    · exact absurd ho hb
    · exact absurd ho hm
    · exact h
  · exact step_induct (fun _ => DeriveLaw.of_eq (s := s) rfl rfl rfl rfl rfl rfl hs)
      (fun c rest _ => State.opening_keeps_deriveLaw c (DeriveLaw.of_eq (s := s) rfl rfl rfl rfl rfl rfl hs))
      (fun c rest a b _ hm => hm.keeps_deriveLaw) hstep

end
end Sys2Proof.Machine
end

/-! # The slots of the wear ring: what is written is read back, and which slot is the newest (R127, R170, R172) -/
section
namespace Sys2Proof.Machine

section
variable {m : Memory} {k : Nat} {slot : List Byte}

/-! ### The bytes of a slot (Table 10.3-1) -/

theorem slotBody_length (role : Role) (seq : Nat) (p : Snapshot) : (slotBody role seq p).length = 62 := by
  simp [slotBody, bytesOf32]

theorem slotBytes_length (role : Role) (seq : Nat) (p : Snapshot) : (slotBytes role seq p).length = 64 := by
  simp [slotBytes, slotBody_length]

/-- The four bytes of a 32-bit value, put together again. -/
theorem append_bytes32 (x : BitVec 32) :
    x.extractLsb' 24 8 ++ x.extractLsb' 16 8 ++ x.extractLsb' 8 8 ++ x.extractLsb' 0 8 = x := by
  apply BitVec.eq_of_getLsbD_eq
  intro i hi
  simp only [BitVec.getLsbD_append, BitVec.getLsbD_extractLsb']
  by_cases h1 : i < 8
  · simp [h1]
  · by_cases h2 : i - 8 < 8
    · simp [h1, h2]; congr 1; omega
    · by_cases h3 : i - 8 - 8 < 8
      · simp [h1, h2, h3]; congr 1; omega
      · have h4 : i - 8 - 8 - 8 < 8 := by omega
        simp [h1, h2, h3, h4]; congr 1; omega

/-- A 32-bit value stored at byte `i` is read back. -/
theorem value32_bytesOf32 {i n : Nat} (h : ∀ j, j < 4 → byteAt slot (i + j) = (bytesOf32 n).getD j 0)
    (hn : n ≤ accMax) : value32 slot i = n := by
  have h0 := h 0 (by omega)
  have h1 := h 1 (by omega)
  have h2 := h 2 (by omega)
  have h3 := h 3 (by omega)
  simp only [bytesOf32, List.getD_cons_zero, List.getD_cons_succ, Nat.add_zero] at h0 h1 h2 h3
  unfold value32
  rw [h0, h1, h2, h3, append_bytes32, BitVec.toNat_ofNat]
  unfold accMax at hn
  omega

/-- A byte of a slot's body is a byte of the slot. -/
theorem byteAt_slotBytes (role : Role) (seq : Nat) (p : Snapshot) {i : Nat} (hi : i < 62) :
    byteAt (slotBytes role seq p) i = (slotBody role seq p).getD i 0 := by
  have hlt : i < (slotBody role seq p).length := by rw [slotBody_length]; exact hi
  rw [byteAt, slotBytes, List.getD_eq_getElem?_getD, List.getD_eq_getElem?_getD, List.getElem?_append_left hlt]

theorem slotSeq_slotBytes (role : Role) {seq : Nat} (p : Snapshot) (h : seq ≤ seqMax) :
    slotSeq (slotBytes role seq p) = seq := by
  refine value32_bytesOf32 (fun j hj => ?_) h
  rw [byteAt_slotBytes _ _ _ (by omega)]
  interval_cases j <;> rfl

/-- A slot written whole passes the role and check tests (R170). -/
theorem slotValid_slotBytes (role : Role) (seq : Nat) (p : Snapshot) : slotValid role (slotBytes role seq p) = true := by
  have hrole : (byteAt (slotBytes role seq p) 4).toNat = role.code := by
    rw [byteAt_slotBytes _ _ _ (by omega)]
    cases role <;> rfl
  have htake : (slotBytes role seq p).take 62 = slotBody role seq p := by
    rw [slotBytes, List.take_append_of_le_length (by rw [slotBody_length]), List.take_of_length_le (by rw [slotBody_length])]
  have hcheck : ∀ w : Word, pairAt (slotBody role seq p ++ bytesOfWord w) 62 = w := fun w => by
    have hget : ∀ j, byteAt (slotBody role seq p ++ bytesOfWord w) (62 + j) = (bytesOfWord w).getD j 0 := fun j => by
      rw [byteAt, List.getD_eq_getElem?_getD, List.getD_eq_getElem?_getD, List.getElem?_append_right (by rw [slotBody_length]; omega),
        slotBody_length, Nat.add_sub_cancel_left]
    have h0 := hget 0
    have h1 := hget 1
    simp only [bytesOfWord, List.getD_cons_zero, List.getD_cons_succ, Nat.add_zero] at h0 h1
    unfold pairAt
    unfold bytesOfWord
    rw [h0, h1]
    apply BitVec.eq_of_getLsbD_eq
    intro i hi
    simp only [BitVec.getLsbD_append, BitVec.getLsbD_extractLsb']
    by_cases h : i < 8
    · simp [h]
    · have h' : i - 8 < 8 := by omega
      simp [h, h']; congr 1; omega
  have hcheck' := hcheck (slotCheck (slotBody role seq p))
  simp only [slotValid, hrole, htake, Bool.and_eq_true, decide_eq_true_eq, true_and]
  exact hcheck'.symm

/-- The value of the part at byte `i` of a slot's body. -/
theorem value32_slotBytes (role : Role) (seq : Nat) (p : Snapshot) {i n : Nat} (hi : i + 4 ≤ 62)
    (h : ∀ j, j < 4 → (slotBody role seq p).getD (i + j) 0 = (bytesOf32 n).getD j 0) (hn : n ≤ accMax) :
    value32 (slotBytes role seq p) i = n :=
  value32_bytesOf32 (fun j hj => by rw [byteAt_slotBytes _ _ _ (by omega)]; exact h j hj) hn

/-- A slot gives back the snapshot it was written with (R127). -/
theorem slotSnapshot_slotBytes (role : Role) (seq : Nat) (p : Snapshot) (hlen : p.accs.length = itemCount role)
    (haccs : ∀ a ∈ p.accs, a ≤ accMax) (h1 : p.resA1 ≤ accMax) (h2 : p.resA2 ≤ accMax) (h3 : p.resS1 ≤ accMax) :
    slotSnapshot role (slotBytes role seq p) = p := by
  have hacc : ∀ i, i < 4 → value32 (slotBytes role seq p) (8 + 4 * i) = p.accs.getD i 0 := fun i hi => by
    refine value32_slotBytes _ _ _ (by omega) (fun j hj => ?_) ?_
    · interval_cases i <;> interval_cases j <;> rfl
    · rw [List.getD_eq_getElem?_getD]
      cases hget : p.accs[i]? with
      | none => exact Nat.zero_le _
      | some a => exact haccs a (List.mem_of_getElem? hget)
  have hA1 : value32 (slotBytes role seq p) 24 = p.resA1 :=
    value32_slotBytes _ _ _ (by omega) (fun j hj => by interval_cases j <;> rfl) h1
  have hA2 : value32 (slotBytes role seq p) 28 = p.resA2 :=
    value32_slotBytes _ _ _ (by omega) (fun j hj => by interval_cases j <;> rfl) h2
  have hS1 : value32 (slotBytes role seq p) 32 = p.resS1 :=
    value32_slotBytes _ _ _ (by omega) (fun j hj => by interval_cases j <;> rfl) h3
  have hle : itemCount role ≤ 4 := by cases role <;> decide
  have hlist : (List.range (itemCount role)).map (fun i => value32 (slotBytes role seq p) (8 + 4 * i)) = p.accs := by
    apply List.ext_getElem
    · simp [hlen]
    · intro i hi hi'
      have hi4 : i < 4 := by omega
      simp only [List.getElem_map, List.getElem_range]
      rw [hacc i hi4, List.getD_eq_getElem _ _ hi']
  simp only [slotSnapshot, hlist, hA1, hA2, hS1]

/-! ### Slots in the EEPROM -/

theorem readSlot_length (m : Memory) (k : Nat) : (readSlot m k).length = 64 := by simp [readSlot, Memory.readAll]

theorem readSlot_getElem (m : Memory) (k : Nat) {i : Nat} (h : i < (readSlot m k).length) :
    (readSlot m k)[i] = Memory.read m (slotAddress k + i) := by
  simp [readSlot, Memory.readAll]

/-- A slot none of whose bytes changes reads as before. -/
theorem readSlot_congr {m' : Memory} (h : ∀ a, inSlot k a → Memory.read m' a = Memory.read m a) :
    readSlot m' k = readSlot m k := by
  apply List.ext_getElem
  · rw [readSlot_length, readSlot_length]
  · intro i hi hi'
    rw [readSlot_length] at hi
    rw [readSlot_getElem, readSlot_getElem]
    exact h _ ⟨by omega, by omega⟩

/-- The first page stored stands at the front of its slot. -/
theorem take_readSlot_writeFirst (hm : m.wf = true) (hlen : slot.length = 64) :
    (readSlot (Memory.writeAll m (pageAddress k 1) (pageOf slot 1)) k).take 32 = slot.take 32 := by
  apply List.ext_getElem
  · simp [readSlot_length, hlen]
  · intro i hi hi'
    have hi32 : i < 32 := by simp [readSlot_length] at hi; omega
    rw [List.getElem_take, readSlot_getElem, Memory.read_writeAll _ _ _ hm]
    have hp : pageAddress k 1 = slotAddress k := rfl
    have ho : pageOf slot 1 = slot.take 32 := rfl
    have hl : (slot.take 32).length = 32 := by simp [hlen]
    rw [hp, ho, hl, if_pos (by omega), Nat.add_sub_cancel_left, List.getD_eq_getElem _ _ hi']

/-- The second page stored behind a first page that stands makes its slot whole. -/
theorem readSlot_writeSecond (hm : m.wf = true) (hlen : slot.length = 64) (h : (readSlot m k).take 32 = slot.take 32) :
    readSlot (Memory.writeAll m (pageAddress k 2) (pageOf slot 2)) k = slot := by
  have hp : pageAddress k 2 = slotAddress k + 32 := rfl
  have ho : pageOf slot 2 = slot.drop 32 := rfl
  have hl : (slot.drop 32).length = 32 := by simp [hlen]
  apply List.ext_getElem
  · rw [readSlot_length, hlen]
  · intro i hi hi'
    rw [readSlot_getElem, Memory.read_writeAll _ _ _ hm, hp, ho, hl]
    by_cases h32 : i < 32
    · rw [if_neg (by omega)]
      have hfirst := congrArg (fun l => l[i]?) h
      simp only [List.getElem?_take, h32, if_true] at hfirst
      rw [List.getElem?_eq_getElem (by rw [readSlot_length]; omega), List.getElem?_eq_getElem hi', readSlot_getElem] at hfirst
      exact Option.some.inj hfirst
    · rw [if_pos (by omega), List.getD_eq_getElem _ _ (by rw [List.length_drop]; omega), List.getElem_drop]
      congr 1
      omega

/-- Settles O60: the two pages make the slot whole, and each part of a whole slot is read back. -/
theorem writtenSlotsAreReadBack : Obligations.WrittenSlotsAreReadBack := by
  intro m k seq role p hm hk hseq hlen haccs h1 h2 h3
  have hslot : readSlot (Memory.writeAll (Memory.writeAll m (pageAddress k 1) (pageOf (slotBytes role seq p) 1))
      (pageAddress k 2) (pageOf (slotBytes role seq p) 2)) k = slotBytes role seq p :=
    readSlot_writeSecond (Memory.writeAll_wf _ _ hm) (slotBytes_length _ _ _)
      (take_readSlot_writeFirst hm (slotBytes_length _ _ _))
  refine ⟨hslot, ?_, ?_, ?_⟩
  · rw [hslot]; exact slotValid_slotBytes _ _ _
  · rw [hslot]; exact slotSeq_slotBytes _ _ hseq
  · rw [hslot]; exact slotSnapshot_slotBytes _ _ _ hlen haccs h1 h2 h3

/-! ### The valid slots and the newest of them (R170) -/

/-- Whether a load with every read acknowledged finds slot `k` valid for a role. -/
def SlotStands (m : Memory) (torn : BitVec 8) (role : Role) (k : Nat) : Prop :=
  k < 8 ∧ torn.getLsbD k = false ∧ slotValid role (readSlot m k) = true

theorem mem_validSlots (m : Memory) (torn acks : BitVec 8) (role : Role) (k q : Nat) :
    (k, q) ∈ validSlots m torn acks role ↔
      SlotStands m torn role k ∧ acks.getLsbD k = true ∧ q = slotSeq (readSlot m k) := by
  simp only [validSlots, List.mem_filterMap, List.mem_range, SlotStands]
  constructor
  · rintro ⟨j, hj, h⟩
    split at h
    · next hc =>
      simp only [Bool.and_eq_true, Bool.not_eq_true'] at hc
      cases h
      exact ⟨⟨hj, hc.1.2, hc.2⟩, hc.1.1, rfl⟩
    · cases h
  · rintro ⟨⟨hk, ht, hv⟩, ha, rfl⟩
    exact ⟨k, hk, by rw [ha, ht, hv]; rfl⟩

theorem getLsbD_acked {k : Nat} (h : k < 8) : (0xFF#8).getLsbD k = true := by
  interval_cases k <;> rfl

theorem mem_validSlots_acked (m : Memory) (torn : BitVec 8) (role : Role) (k q : Nat) :
    (k, q) ∈ validSlots m torn 0xFF role ↔ SlotStands m torn role k ∧ q = slotSeq (readSlot m k) := by
  rw [mem_validSlots]
  constructor
  · rintro ⟨h, -, hq⟩; exact ⟨h, hq⟩
  · rintro ⟨h, hq⟩; exact ⟨h, getLsbD_acked h.1, hq⟩

/-- The valid slots stand in slot order. -/
theorem validSlots_sorted (m : Memory) (torn acks : BitVec 8) (role : Role) :
    (validSlots m torn acks role).Pairwise fun p q => p.1 < q.1 := by
  unfold validSlots
  rw [List.pairwise_filterMap]
  refine List.pairwise_lt_range.imp fun {a b} hab x hx y hy => ?_
  split at hx
  · split at hy
    · cases hx; cases hy; exact hab
    · cases hy
  · cases hx

/-- No slot is the newest exactly where none is valid. -/
theorem newestSlot_eq_none {ps : List (Nat × Nat)} : newestSlot ps = none ↔ ps = [] := by
  cases ps with
  | nil => exact ⟨fun _ => rfl, fun _ => rfl⟩
  | cons p ps =>
    simp only [newestSlot]
    refine ⟨fun h => ?_, nofun⟩
    split at h
    · cases h
    · split at h <;> cases h

theorem newestSlot_spec {ps : List (Nat × Nat)} {p : Nat × Nat} (hs : ps.Pairwise fun p q => p.1 < q.1)
    (h : newestSlot ps = some p) : p ∈ ps ∧ ∀ q ∈ ps, q.2 < p.2 ∨ q.2 = p.2 ∧ p.1 ≤ q.1 := by
  induction ps generalizing p with
  | nil => cases h
  | cons x xs ih =>
    obtain ⟨hx, hxs⟩ := List.pairwise_cons.mp hs
    simp only [newestSlot] at h
    split at h
    · next hnone =>
      cases h
      rw [newestSlot_eq_none.mp hnone]
      exact ⟨List.mem_singleton.mpr rfl, fun q hq => .inr ⟨by rw [List.mem_singleton.mp hq], by rw [List.mem_singleton.mp hq]⟩⟩
    · next y hy =>
      obtain ⟨hmem, hmax⟩ := ih hxs hy
      split at h
      · next hlt =>
        cases h
        refine ⟨List.mem_cons_of_mem _ hmem, fun q hq => ?_⟩
        rcases List.mem_cons.mp hq with rfl | hq
        · exact .inl hlt
        · exact hmax q hq
      · next hle =>
        cases h
        refine ⟨List.mem_cons_self, fun q hq => ?_⟩
        rcases List.mem_cons.mp hq with rfl | hq
        · exact .inr ⟨rfl, le_refl _⟩
        · have hlt := hx q hq
          rcases hmax q hq with hm | ⟨hm, -⟩ <;> omega

/-- The newest slot is the one with the greatest sequence number, the lower-numbered of two that carry the same (R170). -/
theorem newestSlot_iff {ps : List (Nat × Nat)} {p : Nat × Nat} (hs : ps.Pairwise fun p q => p.1 < q.1) :
    newestSlot ps = some p ↔ p ∈ ps ∧ ∀ q ∈ ps, q.2 < p.2 ∨ q.2 = p.2 ∧ p.1 ≤ q.1 := by
  refine ⟨newestSlot_spec hs, fun ⟨hmem, hmax⟩ => ?_⟩
  cases hn : newestSlot ps with
  | none => rw [newestSlot_eq_none.mp hn] at hmem; cases hmem
  | some q =>
    obtain ⟨hq, hqmax⟩ := newestSlot_spec hs hn
    have h1 := hmax q hq
    have h2 := hqmax p hmem
    have hfst : q.1 = p.1 := by omega
    have hsnd : q.2 = p.2 := by omega
    rw [Prod.ext hfst hsnd]

/-- The newest slot of a load with every read acknowledged. -/
theorem newestSlot_validSlots (m : Memory) (torn : BitVec 8) (role : Role) (k q : Nat) :
    newestSlot (validSlots m torn 0xFF role) = some (k, q) ↔ SlotStands m torn role k ∧ q = slotSeq (readSlot m k)
      ∧ ∀ j, SlotStands m torn role j → slotSeq (readSlot m j) < q ∨ slotSeq (readSlot m j) = q ∧ k ≤ j := by
  rw [newestSlot_iff (validSlots_sorted _ _ _ _), mem_validSlots_acked, and_assoc]
  refine and_congr_right fun _ => and_congr_right fun _ => ⟨fun h j hj => ?_, fun h p hp => ?_⟩
  · exact h (j, slotSeq (readSlot m j)) ((mem_validSlots_acked _ _ _ _ _).mpr ⟨hj, rfl⟩)
  · obtain ⟨hj, hq⟩ := (mem_validSlots_acked m torn role p.1 p.2).mp hp
    rw [hq]
    exact h p.1 hj

theorem validSlots_eq_nil (m : Memory) (torn : BitVec 8) (role : Role) :
    validSlots m torn 0xFF role = [] ↔ ∀ j, ¬ SlotStands m torn role j := by
  rw [List.eq_nil_iff_forall_not_mem]
  refine ⟨fun h j hj => ?_, fun h p hp => ?_⟩
  · exact h (j, slotSeq (readSlot m j)) ((mem_validSlots_acked _ _ _ _ _).mpr ⟨hj, rfl⟩)
  · exact h p.1 ((mem_validSlots_acked m torn role p.1 p.2).mp hp).1

end
end Sys2Proof.Machine
end

/-! # The EEPROM and the wear ring (R170, R172 to R174) -/
section
namespace Sys2Proof.Machine

section
variable {c : Instr} {s t u : State}

/-! ### The bytes that a command touches -/

theorem State.reformOwn_port (s : State) : s.reformOwn.mpt = s.mpt := s.reformOwn_mpt

/-- An EEPROM is left by a hard reset once no operation is there to abandon. -/
theorem State.hardReset_eeprom (s : State) (k : ResetKind) :
    (s.hardReset k).mpt.eeprom = s.abandonOperation.mpt.eeprom := by
  rcases s.hardReset_cases k with ⟨role, -, h⟩ | ⟨-, h⟩ <;> rw [h] <;> rfl

/-- No move touches a byte: the stores are the commands' openings. -/
theorem Move.eeprom (h : Move c s t) : t.mpt.eeprom = s.mpt.eeprom := by
  cases h with
  | mpt b keeps => exact keeps.eeprom
  | reform => rw [State.reformOwn_mpt]
  | takeOp op serves hop =>
    have hm : (s.takeOp op).mpt = s.mpt := s.takeOp_kept op .mpt (by decide)
    rw [hm]
  | standby ready => rw [State.enterStandby_mpt]
  | reboot ended => rw [State.hardReset_eeprom, ended]
  | restart pending => rw [State.restartReset_eq, State.enterSync_mpt]; rfl
  | wake standby => rw [State.wakeReset_eq, State.enterSync_mpt]; rfl
  | putItem i x hi grows =>
    have hm : (s.putItem i x).mpt = s.mpt := s.putItem_kept i x .mpt (by decide)
    rw [hm]
  | emptyItem i hi hc =>
    have hm : (s.emptyItem i).mpt = s.mpt := s.emptyItem_kept i .mpt (by decide)
    rw [hm]
  | packLimits =>
    have hm : s.formPackLimits.mpt = s.mpt := s.formPackLimits_kept .mpt (by decide)
    rw [hm]
  | judge0 role x record hc =>
    have hm : (s.judge0 role x record).mpt = s.mpt := s.judge0_kept role x record .mpt (by decide)
    rw [hm]
  | judge1 role record hc =>
    have hm : (s.judge1 role record).mpt = s.mpt := s.judge1_kept role record .mpt (by decide)
    rw [hm]
  | _ => rfl

theorem Moves.eeprom (h : Moves c s t) : t.mpt.eeprom = s.mpt.eeprom :=
  h.induct (P := fun t => t.mpt.eeprom = s.mpt.eeprom) rfl fun _ _ hm he => hm.eeprom.trans he

theorem pageOf_length {slot : List Byte} (h : slot.length = 64) (page : Nat) : (pageOf slot page).length = 32 := by
  unfold pageOf
  split <;> simp [h]

/-- A page stored leaves every byte outside its 32. -/
theorem State.writePage_read (job : FlushJob) {a : Nat} (h : s.mpt.eeprom.wf = true)
    (ha : a < pageAddress job.slot job.page ∨ pageAddress job.slot job.page + 32 ≤ a) :
    Memory.read (s.writePage job).mpt.eeprom a = Memory.read s.mpt.eeprom a := by
  apply Memory.read_writeAll_outside h
  rw [pageOf_length (slot := s.jobBytes job) (slotBytes_length _ _ _)]
  exact ha

theorem State.storedPage_eeprom (s : State) (job : FlushJob) :
    (s.storedPage job).mpt.eeprom = (s.writePage job).mpt.eeprom := by
  unfold State.storedPage
  dsimp only
  split <;> rfl

theorem writeEepromWord_read {m : Memory} (n : Nat) (w : Word) {a : Nat} (h : m.wf = true) (ha : a < 2 * n ∨ 2 * n + 2 ≤ a) :
    Memory.read (writeEepromWord m n w) a = Memory.read m a := by
  apply Memory.read_writeAll_outside h
  simpa using ha

/-- A CONFIG_WRITE's end leaves every byte outside its two words. -/
theorem State.writeConfig_read (n : Nat) (mask value : Word) (o : WriteOutcome) {a : Nat} (h : s.mpt.eeprom.wf = true)
    (hn : a < 2 * n ∨ 2 * n + 2 ≤ a) (h63 : a < 126 ∨ 128 ≤ a) :
    Memory.read (s.writeConfig n mask value o).mpt.eeprom a = Memory.read s.mpt.eeprom a := by
  unfold State.writeConfig
  cases o with
  | stored =>
    show Memory.read (writeEepromWord (writeEepromWord _ _ _) _ _) a = _
    rw [writeEepromWord_read 63 _ (writeEepromWord_wf _ _ h) (by omega), writeEepromWord_read n _ h hn]
  | readFailed => rfl
  | wordFailed => exact State.tearWord_read n h hn
  | checkFailed => exact writeEepromWord_read n _ h hn

theorem State.writeConfig_wf (n : Nat) (mask value : Word) (o : WriteOutcome) (h : s.mpt.eeprom.wf = true) :
    (s.writeConfig n mask value o).mpt.eeprom.wf = true := by
  unfold State.writeConfig
  cases o with
  | stored => exact writeEepromWord_wf _ _ (writeEepromWord_wf _ _ h)
  | readFailed => exact h
  | wordFailed => exact State.tearWord_wf _ h
  | checkFailed => exact writeEepromWord_wf _ _ h

theorem State.loadImage_eeprom (s : State) (role : Role) (a : Bool) :
    (s.loadImage role a).mpt.eeprom = s.mpt.eeprom ∧ (s.loadImage role a).mpt.torn = s.mpt.torn := by
  unfold State.loadImage
  dsimp only
  split <;> exact ⟨rfl, rfl⟩

theorem State.loaded_eeprom (s : State) (role : Role) (a : Bool) (b : BitVec 8) :
    (s.loaded role a b).mpt.eeprom = s.mpt.eeprom ∧ (s.loaded role a b).mpt.torn = s.mpt.torn := by
  have hring : ∀ t : State, (t.loadRing role b).mpt.eeprom = t.mpt.eeprom ∧ (t.loadRing role b).mpt.torn = t.mpt.torn := fun t => by
    unfold State.loadRing
    split <;> exact ⟨rfl, rfl⟩
  have hwear : ((s.loadImage role a).loadRing role b).restateWear.mpt = ((s.loadImage role a).loadRing role b).mpt :=
    State.restateWear_kept _ .mpt (by decide)
  obtain ⟨h1, h2⟩ := hring (s.loadImage role a)
  obtain ⟨h3, h4⟩ := s.loadImage_eeprom role a
  unfold State.loaded
  dsimp only [State.setMpt_mpt]
  rw [hwear]
  exact ⟨h1.trans h3, h2.trans h4⟩

theorem State.abandonOperation_read (p : Straps) {a : Nat} (hw : s.mpt.eeprom.wf = true) (ha : ¬ storesTo s (.powerOn p) a) :
    Memory.read (s.pinStraps p).abandonOperation.mpt.eeprom a = Memory.read s.mpt.eeprom a := by
  unfold State.abandonOperation
  rw [State.pinStraps_mpt]
  cases ho : s.mpt.op with
  | flush job =>
    simp only [storesTo, ho] at ha
    exact State.tearPage_read (s := s.pinStraps p) job hw (by omega)
  | configWrite place n mask value =>
    simp only [storesTo, ho] at ha
    dsimp only
    rw [State.tearWord_read 63 (State.tearWord_wf (s := s.pinStraps p) n hw) (by omega),
      State.tearWord_read (s := s.pinStraps p) n hw (by omega)]
    rfl
  | none | bootLoad | configRead => rfl

/-- The bytes that an opening stores to are those of the operation in flight (R172 to R174). -/
theorem State.opening_read (c : Instr) {a : Nat} (hw : s.mpt.eeprom.wf = true) (ha : ¬ storesTo s c a) :
    Memory.read (s.opening c).mpt.eeprom a = Memory.read s.mpt.eeprom a := by
  rcases s.opening_cases c with h | ⟨p, ⟨hc, h⟩ | ⟨hc, h⟩⟩ | ⟨role, x, y, -, -, -, -, h⟩ | ⟨u, -, h⟩ | ⟨p, job, hc, ho, h⟩
    | ⟨p, job, hc, ho, h⟩ | ⟨p, o, place, n, mask, value, hc, ho, h⟩
  · rw [h]
  · subst hc
    rw [h, State.hardReset_eeprom, State.abandonOperation_read p hw ha]
  · subst hc
    have ha' : ¬ storesTo s (.powerOn p) a := by
      unfold storesTo at ha ⊢
      cases ho : s.mpt.op <;> simp only [ho] at ha ⊢ <;> exact ha
    rw [h, State.hardReset_eeprom, State.abandonOperation_read p hw ha']
  · rw [h, State.bootLoaded_eq, State.enterSync_mpt]
    rw [(s.loaded_eeprom role x y).1]
  · rw [h]
    rcases s.upsetCopy_cases u with hu | ⟨n, bits, -, -, hu⟩ <;> rw [hu]
    rfl
  · subst hc
    simp only [storesTo, ho] at ha
    rw [h, State.storedPage_eeprom]
    exact State.writePage_read (s := s.pinStraps p) job hw (by omega)
  · subst hc
    simp only [storesTo, ho] at ha
    rw [h]
    exact State.tearPage_read (s := s.pinStraps p) job hw (by omega)
  · subst hc
    simp only [storesTo, ho] at ha
    rw [h]
    exact State.writeConfig_read (s := s.pinStraps p) n mask value o hw (by omega) (by omega)

theorem State.opening_wf (c : Instr) (hw : s.mpt.eeprom.wf = true) : (s.opening c).mpt.eeprom.wf = true := by
  have habandon : ∀ p, (s.pinStraps p).abandonOperation.mpt.eeprom.wf = true := fun p =>
    State.abandonOperation_wf (s := s.pinStraps p) hw
  rcases s.opening_cases c with h | ⟨p, ⟨-, h⟩ | ⟨-, h⟩⟩ | ⟨role, x, y, -, -, -, -, h⟩ | ⟨u, -, h⟩ | ⟨p, job, -, -, h⟩
    | ⟨p, job, -, -, h⟩ | ⟨p, o, place, n, mask, value, -, -, h⟩ <;> rw [h]
  · exact hw
  · rw [State.hardReset_eeprom]; exact habandon p
  · rw [State.hardReset_eeprom]; exact habandon p
  · rw [State.bootLoaded_eq, State.enterSync_mpt, (s.loaded_eeprom role x y).1]; exact hw
  · rcases s.upsetCopy_cases u with hu | ⟨n, bits, -, -, hu⟩ <;> rw [hu] <;> exact hw
  · rw [State.storedPage_eeprom]; exact State.writePage_wf (s := s.pinStraps p) job hw
  · exact State.tearPage_wf (s := s.pinStraps p) job hw
  · exact State.writeConfig_wf (s := s.pinStraps p) n mask value o hw

/-! ### The ring position (R172) -/

/-- The law of R172 of the Memory Port alone. -/
def PortRing (m : MemoryPort) : Prop :=
  m.ringSlot < 8 ∧
    match m.op with
    | .flush job => (job.attempt = 1 ∨ job.attempt = 2) ∧ (job.page = 1 ∨ job.page = 2)
        ∧ job.slot = (m.ringSlot + job.attempt) % 8 ∧ job.seq = m.ringSeq + job.attempt
    | _ => True

theorem ringLaw_iff (s : State) : RingLaw s ↔ PortRing s.mpt := Iff.rfl

theorem PortRing.of_idle {m : MemoryPort} (h : m.ringSlot < 8) (ho : ∀ job, m.op ≠ .flush job) : PortRing m := by
  refine ⟨h, ?_⟩
  split
  · next job hj => exact absurd hj (ho job)
  · trivial

theorem PortRing.of_eq {a b : MemoryPort} (slot : b.ringSlot = a.ringSlot) (seq : b.ringSeq = a.ringSeq) (op : b.op = a.op)
    (h : PortRing a) : PortRing b := by
  unfold PortRing
  rw [slot, seq, op]
  exact h

theorem PortRing.of_keeps {a b : MemoryPort} (k : a.Keeps b) (h : PortRing a) : PortRing b := by
  have hslot : b.ringSlot < 8 := by rw [k.ringSlot]; exact h.1
  rcases k.op with ho | ho | ⟨p, n, ho⟩ | ⟨p, n, mask, value, ho, -⟩
  · exact h.of_eq k.ringSlot k.ringSeq ho
  all_goals exact .of_idle hslot (by rw [ho]; nofun)

/-- A begun attempt writes one of the two slots after the ring position (R172). -/
theorem attemptJob_spec {m : MemoryPort} {p : Snapshot} {ps : List Party} {n : Nat} {job : FlushJob}
    (h : attemptJob m p ps n = some job) : job.attempt = n ∧ job.page = 1 ∧ job.slot = (m.ringSlot + n) % 8
      ∧ job.seq = m.ringSeq + n ∧ job.seq ≤ seqMax := by
  unfold attemptJob at h
  split at h
  · cases h
  · next hn =>
    cases h
    exact ⟨rfl, rfl, rfl, rfl, Nat.not_lt.mp hn⟩

theorem PortRing.beginAttempt {m : MemoryPort} {p : Snapshot} {ps : List Party} {n : Nat} {job : FlushJob} (hn : n = 1 ∨ n = 2)
    (hj : attemptJob m p ps n = some job) (h : PortRing m) : PortRing (m.beginAttempt job) := by
  obtain ⟨attempt, page, slot, seq, -⟩ := attemptJob_spec hj
  refine ⟨h.1, ?_⟩
  show (job.attempt = 1 ∨ job.attempt = 2) ∧ (job.page = 1 ∨ job.page = 2)
    ∧ job.slot = (m.ringSlot + job.attempt) % 8 ∧ job.seq = m.ringSeq + job.attempt
  rw [attempt]
  exact ⟨hn, .inl page, slot, seq⟩

theorem PortRing.detached {a b : MemoryPort} (slot : b.ringSlot = a.ringSlot) (seq : b.ringSeq = a.ringSeq)
    (op : b.op = a.op.detached) (h : PortRing a) : PortRing b := by
  obtain ⟨hslot, hop⟩ := h
  unfold PortRing
  rw [slot, seq, op]
  refine ⟨hslot, ?_⟩
  cases ho : a.op with
  | flush job => rw [ho] at hop; exact hop
  | none | bootLoad | configRead | configWrite => trivial

theorem State.hardReset_ring (s : State) (k : ResetKind) : PortRing (s.hardReset k).mpt := by
  rcases s.hardReset_cases k with ⟨role, -, h⟩ | ⟨-, h⟩ <;> rw [h]
  · exact .of_idle (show 7 < 8 by decide) nofun
  · exact .of_idle (show 7 < 8 by decide) nofun

/-- The Memory Port after a RESTART or a WAKE: its operation runs on without its parties (R174). -/
theorem State.keptBlocks_enterSync_mpt (s : State) (k : ResetKind) (held : Bool) :
    ((s.keptBlocks k).enterSync held).mpt = { s.mpt with
      op := s.mpt.op.detached, pendingFlush := s.mpt.pendingFlush.map fun _ => [], flush := Timer.stopped
      recheck := Timer.started } := by
  rw [State.enterSync_mpt]
  rfl

theorem Move.keeps_ringLaw (h : Move c s t) (hs : PortRing s.mpt) : PortRing t.mpt := by
  cases h with
  | mpt b keeps => exact hs.of_keeps keeps
  | attempt p ps n job hn hj => exact hs.beginAttempt hn hj
  | reform => rw [State.reformOwn_mpt]; exact hs
  | takeOp op serves hop =>
    have hm : (s.takeOp op).mpt = s.mpt := s.takeOp_kept op .mpt (by decide)
    rw [hm]; exact hs
  | standby ready => rw [State.enterStandby_mpt]; exact hs
  | reboot ended => exact s.hardReset_ring _
  | restart pending =>
    rw [State.restartReset_eq, State.keptBlocks_enterSync_mpt]
    exact PortRing.detached (a := s.mpt) rfl rfl rfl hs
  | wake standby =>
    rw [State.wakeReset_eq, State.keptBlocks_enterSync_mpt]
    exact PortRing.detached (a := s.mpt) rfl rfl rfl hs
  | putItem i x hi grows =>
    have hm : (s.putItem i x).mpt = s.mpt := s.putItem_kept i x .mpt (by decide)
    rw [hm]; exact hs
  | emptyItem i hi hc =>
    have hm : (s.emptyItem i).mpt = s.mpt := s.emptyItem_kept i .mpt (by decide)
    rw [hm]; exact hs
  | packLimits =>
    have hm : s.formPackLimits.mpt = s.mpt := s.formPackLimits_kept .mpt (by decide)
    rw [hm]; exact hs
  | judge0 role x record hc =>
    have hm : (s.judge0 role x record).mpt = s.mpt := s.judge0_kept role x record .mpt (by decide)
    rw [hm]; exact hs
  | judge1 role record hc =>
    have hm : (s.judge1 role record).mpt = s.mpt := s.judge1_kept role record .mpt (by decide)
    rw [hm]; exact hs
  | _ => exact hs

/-- What the boot load makes of the ring position: the newest valid slot's, or 7 and 0 (R170). -/
theorem State.loaded_ring (s : State) (role : Role) (a : Bool) (b : BitVec 8) :
    (s.loaded role a b).mpt.op = .none ∧
      ((∃ k q, newestSlot (validSlots s.mpt.eeprom s.mpt.torn b role) = some (k, q)
          ∧ (s.loaded role a b).mpt.ringSlot = k ∧ (s.loaded role a b).mpt.ringSeq = q)
        ∨ newestSlot (validSlots s.mpt.eeprom s.mpt.torn b role) = none ∧ (s.loaded role a b).mpt.ringSlot = 7
          ∧ (s.loaded role a b).mpt.ringSeq = 0) := by
  have hring : ∀ t : State, (∃ k q, newestSlot (validSlots t.mpt.eeprom t.mpt.torn b role) = some (k, q)
      ∧ (t.loadRing role b).mpt.ringSlot = k ∧ (t.loadRing role b).mpt.ringSeq = q)
      ∨ newestSlot (validSlots t.mpt.eeprom t.mpt.torn b role) = none ∧ (t.loadRing role b).mpt.ringSlot = 7
        ∧ (t.loadRing role b).mpt.ringSeq = 0 := fun t => by
    unfold State.loadRing
    split
    · next k q h => exact .inl ⟨k, q, h, rfl, rfl⟩
    · next h => exact .inr ⟨h, rfl, rfl⟩
  have hwear : ((s.loadImage role a).loadRing role b).restateWear.mpt = ((s.loadImage role a).loadRing role b).mpt :=
    State.restateWear_kept _ .mpt (by decide)
  obtain ⟨heeprom, htorn⟩ := s.loadImage_eeprom role a
  have h := hring (s.loadImage role a)
  rw [heeprom, htorn] at h
  unfold State.loaded
  dsimp only [State.setMpt_mpt]
  rw [hwear]
  exact ⟨rfl, h⟩

theorem newestSlot_lt {m : Memory} {torn acks : BitVec 8} {role : Role} {k q : Nat}
    (h : newestSlot (validSlots m torn acks role) = some (k, q)) : k < 8 := by
  obtain ⟨hmem, -⟩ := newestSlot_spec (validSlots_sorted _ _ _ _) h
  exact ((mem_validSlots _ _ _ _ _ _).mp hmem).1.1

theorem State.opening_keeps_ringLaw (c : Instr) (hs : PortRing s.mpt) : PortRing (s.opening c).mpt := by
  rcases s.opening_cases c with h | ⟨p, ⟨-, h⟩ | ⟨-, h⟩⟩ | ⟨role, x, y, -, -, -, -, h⟩ | ⟨u, -, h⟩ | ⟨p, job, -, ho, h⟩
    | ⟨p, job, -, ho, h⟩ | ⟨p, o, place, n, mask, value, -, ho, h⟩ <;> rw [h]
  · exact hs
  · exact State.hardReset_ring _ _
  · exact State.hardReset_ring _ _
  · rw [State.bootLoaded_eq, State.enterSync_mpt]
    obtain ⟨hop, ⟨k, q, hn, hk, -⟩ | ⟨-, hk, -⟩⟩ := s.loaded_ring role x y
    · exact .of_idle (by rw [hk]; exact newestSlot_lt hn) (by rw [hop]; nofun)
    · exact .of_idle (by rw [hk]; decide) (by rw [hop]; nofun)
  · rcases s.upsetCopy_cases u with hu | ⟨n, bits, -, -, hu⟩ <;> rw [hu]
    · exact hs
    · exact PortRing.of_eq (a := s.mpt) rfl rfl rfl hs
  · obtain ⟨hslot, hjob⟩ := hs
    rw [ho] at hjob
    obtain ⟨attempt, page, slot, seq⟩ := hjob
    unfold State.storedPage
    dsimp only
    split
    · exact ⟨hslot, attempt, .inr rfl, slot, seq⟩
    · refine .of_idle ?_ nofun
      show job.slot < 8
      omega
  · exact PortRing.of_eq (a := s.mpt) rfl rfl rfl hs
  · unfold State.writeConfig
    cases o <;> exact PortRing.of_eq (a := s.mpt) rfl rfl rfl hs

end
end Sys2Proof.Machine
end

/-! # The ring position is the newest valid slot, and it is spared (R170, R172) -/
section
namespace Sys2Proof.Machine

section
variable {c : Instr} {s t u : State} {role : Role} {m e : Memory} {torn torn' : BitVec 8} {k q : Nat}

/-! ### The flags of slots whose write did not end (Table 10.3-1) -/

theorem getLsbD_slotFlag {k j : Nat} (hk : k < 8) : (1#8 <<< k).getLsbD j = decide (j = k) := by
  rw [BitVec.getLsbD_shiftLeft, BitVec.getLsbD_one]
  by_cases h : j = k
  · subst h; simp [hk]
  · by_cases hlt : j < k
    · simp [hlt, h]
    · have hne : ¬ j - k = 0 := by omega
      simp [hne, h]

theorem getLsbD_tornSet (torn : BitVec 8) {k : Nat} (hk : k < 8) (j : Nat) :
    (torn ||| (1#8 <<< k)).getLsbD j = (torn.getLsbD j || decide (j = k)) := by
  rw [BitVec.getLsbD_or, getLsbD_slotFlag hk]

theorem getLsbD_tornClear (torn : BitVec 8) {k j : Nat} (hk : k < 8) (hj : j < 8) :
    (torn &&& ~~~(1#8 <<< k)).getLsbD j = (torn.getLsbD j && !decide (j = k)) := by
  rw [BitVec.getLsbD_and, BitVec.getLsbD_not, getLsbD_slotFlag hk]
  simp [hj]

/-! ### The ring position (R170) -/

/-- The ring position is the newest valid slot's, or 7 and 0 where none is valid. -/
def RingIsNewest (role : Role) (m : Memory) (torn : BitVec 8) (k q : Nat) : Prop :=
  newestSlot (validSlots m torn 0xFF role) = some (k, q) ∨ validSlots m torn 0xFF role = [] ∧ k = 7 ∧ q = 0

/-- Slots that go, other than the newest, and slots that stand as they stood keep the ring position. -/
theorem RingIsNewest.of_fewer (h : RingIsNewest role m torn k q)
    (hsub : ∀ j, SlotStands e torn' role j → SlotStands m torn role j ∧ readSlot e j = readSlot m j)
    (hkeep : SlotStands m torn role k → SlotStands e torn' role k) : RingIsNewest role e torn' k q := by
  rcases h with h | ⟨h, hk, hq⟩
  · obtain ⟨hstands, hseq, hmax⟩ := (newestSlot_validSlots _ _ _ _ _).mp h
    have hk := hkeep hstands
    refine .inl ((newestSlot_validSlots _ _ _ _ _).mpr ⟨hk, by rw [(hsub k hk).2]; exact hseq, fun j hj => ?_⟩)
    obtain ⟨hj', hread⟩ := hsub j hj
    rw [hread]
    exact hmax j hj'
  · rw [validSlots_eq_nil] at h
    exact .inr ⟨(validSlots_eq_nil _ _ _).mpr fun j hj => h j (hsub j hj).1, hk, hq⟩

/-- Every slot that is not flagged reads as before. -/
theorem RingIsNewest.of_read (h : RingIsNewest role m torn k q)
    (hread : ∀ j, torn.getLsbD j = false → readSlot e j = readSlot m j) : RingIsNewest role e torn k q := by
  refine h.of_fewer (fun j hj => ?_) (fun hj => ?_)
  · obtain ⟨hlt, htorn, hvalid⟩ := hj
    rw [hread j htorn] at hvalid
    exact ⟨⟨hlt, htorn, hvalid⟩, hread j htorn⟩
  · obtain ⟨hlt, htorn, hvalid⟩ := hj
    exact ⟨hlt, htorn, by rw [hread k htorn]; exact hvalid⟩

/-- A slot other than the newest flagged. -/
theorem RingIsNewest.tear {j : Nat} (h : RingIsNewest role m torn k q) (hj : j < 8) (hne : k ≠ j) :
    RingIsNewest role m (torn ||| (1#8 <<< j)) k q := by
  refine h.of_fewer (fun i hi => ?_) (fun hi => ?_)
  · obtain ⟨hlt, htorn, hvalid⟩ := hi
    rw [getLsbD_tornSet _ hj, Bool.or_eq_false_iff] at htorn
    exact ⟨⟨hlt, htorn.1, hvalid⟩, rfl⟩
  · obtain ⟨hlt, htorn, hvalid⟩ := hi
    refine ⟨hlt, ?_, hvalid⟩
    rw [getLsbD_tornSet _ hj, htorn]
    simp [hne]

/-- A slot written whole with a greater sequence number than the newest is the newest (R172). -/
theorem RingIsNewest.written {j n : Nat} {p : Snapshot} (h : RingIsNewest role m torn k q) (hj : j < 8)
    (hslot : readSlot e j = slotBytes role (q + n) p) (hseq : q + n ≤ seqMax) (hn : 1 ≤ n)
    (hother : ∀ i, i ≠ j → i < 8 → readSlot e i = readSlot m i) :
    RingIsNewest role e (torn &&& ~~~(1#8 <<< j)) j (q + n) := by
  refine .inl ((newestSlot_validSlots _ _ _ _ _).mpr ⟨⟨hj, ?_, ?_⟩, ?_, fun i hi => ?_⟩)
  · rw [getLsbD_tornClear _ hj hj]; simp
  · rw [hslot]; exact slotValid_slotBytes _ _ _
  · rw [hslot]; exact (slotSeq_slotBytes _ _ hseq).symm
  · by_cases hij : i = j
    · subst hij
      exact .inr ⟨by rw [hslot]; exact slotSeq_slotBytes _ _ hseq, le_refl _⟩
    · obtain ⟨hlt, htorn, hvalid⟩ := hi
      rw [getLsbD_tornClear _ hj hlt] at htorn
      have hti : torn.getLsbD i = false := by simpa [hij] using htorn
      rw [hother i hij hlt] at hvalid ⊢
      have hstands : SlotStands m torn role i := ⟨hlt, hti, hvalid⟩
      rcases h with h | ⟨h, -, -⟩
      · obtain ⟨-, -, hmax⟩ := (newestSlot_validSlots _ _ _ _ _).mp h
        rcases hmax i hstands with hm | ⟨hm, -⟩ <;> exact .inl (by omega)
      · exact absurd hstands ((validSlots_eq_nil _ _ _).mp h i)

/-! ### The operation in flight -/

/-- What goes with the ring position: a flush's sequence number is within the limit, its slot flagged and its first page in
place before its second; a CONFIG_WRITE names a word of the image. -/
def OpLawful (role : Role) (m : MemoryPort) : Prop :=
  match m.op with
  | .flush job => job.seq ≤ seqMax ∧ m.torn.getLsbD job.slot = true
      ∧ (job.page = 2 → (readSlot m.eeprom job.slot).take 32 = (slotBytes role job.seq job.snapshot).take 32)
  | .configWrite _ n _ _ => n ≤ 62
  | _ => True

/-- The law of R170 and R172 of the Memory Port alone, in a role. -/
def PortNewest (role : Role) (m : MemoryPort) : Prop :=
  RingIsNewest role m.eeprom m.torn m.ringSlot m.ringSeq ∧ OpLawful role m

theorem newestLaw_iff (s : State) : NewestLaw s ↔ (s.nsq.op = .boot → s.nsq.pendingReset = .none)
    ∧ ∀ role, s.role = some role → s.nsq.op ≠ .boot → PortNewest role s.mpt := Iff.rfl

theorem PortNewest.of_eq {a b : MemoryPort} (slot : b.ringSlot = a.ringSlot) (seq : b.ringSeq = a.ringSeq)
    (eeprom : b.eeprom = a.eeprom) (torn : b.torn = a.torn) (op : b.op = a.op) (h : PortNewest role a) : PortNewest role b := by
  unfold PortNewest OpLawful
  rw [slot, seq, eeprom, torn, op]
  exact h

theorem OpLawful.of_idle {b : MemoryPort} (hf : ∀ job, b.op ≠ .flush job) (hw : ∀ p n mask value, b.op ≠ .configWrite p n mask value) :
    OpLawful role b := by
  unfold OpLawful
  split
  · next job h => exact absurd h (hf job)
  · next h => exact absurd h (hw _ _ _ _)
  · trivial

theorem PortNewest.of_keeps {a b : MemoryPort} (h : a.Keeps b) (ha : PortNewest role a) : PortNewest role b := by
  have hring : RingIsNewest role b.eeprom b.torn b.ringSlot b.ringSeq := by
    rw [h.eeprom, h.torn, h.ringSlot, h.ringSeq]; exact ha.1
  rcases h.op with ho | ho | ⟨p, n, ho⟩ | ⟨p, n, mask, value, ho, hn⟩
  · exact ha.of_eq h.ringSlot h.ringSeq h.eeprom h.torn ho
  · exact ⟨hring, .of_idle (by rw [ho]; nofun) (by rw [ho]; nofun)⟩
  · exact ⟨hring, .of_idle (by rw [ho]; nofun) (by rw [ho]; nofun)⟩
  · refine ⟨hring, ?_⟩
    unfold OpLawful
    rw [ho]
    exact hn

theorem PortNewest.beginAttempt {a : MemoryPort} {p : Snapshot} {ps : List Party} {n : Nat} {job : FlushJob}
    (hn : n = 1 ∨ n = 2) (hj : attemptJob a p ps n = some job) (ha : PortNewest role a) :
    PortNewest role (a.beginAttempt job) := by
  obtain ⟨-, page, slot, -, hseq⟩ := attemptJob_spec hj
  have hlt : job.slot < 8 := by omega
  have hne : a.ringSlot ≠ job.slot := by omega
  refine ⟨RingIsNewest.tear ha.1 hlt hne, ?_⟩
  show job.seq ≤ seqMax ∧ (a.torn ||| (1#8 <<< job.slot)).getLsbD job.slot = true ∧ _
  refine ⟨hseq, ?_, fun h2 => by rw [page] at h2; cases h2⟩
  rw [getLsbD_tornSet _ hlt]
  simp

theorem PortNewest.detached {a b : MemoryPort} (slot : b.ringSlot = a.ringSlot) (seq : b.ringSeq = a.ringSeq)
    (eeprom : b.eeprom = a.eeprom) (torn : b.torn = a.torn) (op : b.op = a.op.detached) (h : PortNewest role a) :
    PortNewest role b := by
  obtain ⟨hring, hop⟩ := h
  unfold PortNewest OpLawful
  rw [slot, seq, eeprom, torn, op]
  refine ⟨hring, ?_⟩
  unfold OpLawful at hop
  cases ho : a.op with
  | flush job => rw [ho] at hop; exact hop
  | configWrite p n mask value => rw [ho] at hop; exact hop
  | none | bootLoad | configRead => trivial

/-! ### Move by move -/

theorem NewestLaw.of_kept {bs : List Block} (h : KeptBut s t bs) (nsq : Block.nsq ∉ bs) (mpt : Block.mpt ∉ bs)
    (hs : NewestLaw s) : NewestLaw t := by
  have hnsq : t.nsq = s.nsq := h .nsq nsq
  have hmpt : t.mpt = s.mpt := h .mpt mpt
  rw [newestLaw_iff, State.role, hnsq, hmpt]
  exact hs

/-- After a hard reset no RESTART is pending, and in MUTE the node has no role (R176). -/
theorem State.hardReset_newest (s : State) (k : ResetKind) : NewestLaw (s.hardReset k) := by
  refine ⟨fun _ => (s.hardReset_fallen k).2, fun role hr hop => ?_⟩
  rcases s.hardReset_cases k with ⟨_, -, h⟩ | ⟨hnone, h⟩ <;> rw [h] at hr hop
  · exact absurd rfl hop
  · have hr' : strapRole s.abandonOperation.pins.straps = some role := hr
    have hp : s.abandonOperation.pins = s.pins := s.abandonOperation_kept .pins (by decide)
    rw [hp, hnone] at hr'
    cases hr'

/-- RESTART and WAKE are never taken from BOOT. -/
theorem NewestLaw.keptBlocks (kind : ResetKind) (held : Bool) (hop : s.nsq.op ≠ .boot) (hs : NewestLaw s) :
    NewestLaw ((s.keptBlocks kind).enterSync held) := by
  rw [newestLaw_iff, State.role, State.enterSync_nsq, State.keptBlocks_enterSync_mpt]
  exact ⟨nofun, fun role hr _ => PortNewest.detached (a := s.mpt) rfl rfl rfl rfl rfl (hs.2 role hr hop)⟩

theorem Move.keeps_newestLaw (h : Move c s t) (hs : NewestLaw s) : NewestLaw t := by
  cases h with
  | nsq b op sample reset =>
    refine ⟨fun hb => ?_, fun role hr hb => ?_⟩
    · rw [State.setNsq_nsq, op] at hb
      rcases reset with hr | hr | hr
      · rw [State.setNsq_nsq, hr]; exact hs.1 hb
      · rw [State.serves, hb] at hr; cases hr
      · exact absurd (hs.1 hb) hr
    · rw [State.setNsq_nsq, op] at hb
      have hr' : strapRole b.sample = some role := hr
      rw [sample] at hr'
      exact hs.2 role hr' hb
  | mpt b keeps => exact ⟨hs.1, fun role hr hb => PortNewest.of_keeps keeps (hs.2 role hr hb)⟩
  | attempt p ps n job hn hj => exact ⟨hs.1, fun role hr hb => PortNewest.beginAttempt hn hj (hs.2 role hr hb)⟩
  | reform => exact hs.of_kept s.reformOwn_kept (by decide) (by decide)
  | takeOp op serves hop =>
    have hm : (s.takeOp op).mpt = s.mpt := s.takeOp_kept op .mpt (by decide)
    have hboot : s.nsq.op ≠ .boot := fun hb => by rw [State.serves, hb] at serves; cases serves
    rw [newestLaw_iff, State.role, State.takeOp_nsq, hm]
    exact ⟨fun hb => (by rcases hop with rfl | rfl <;> cases hb), fun role hr _ => hs.2 role hr hboot⟩
  | standby ready =>
    have hboot : s.nsq.op ≠ .boot := fun hb => by simp [State.standbyReady, hb] at ready
    rw [newestLaw_iff, State.role, State.enterStandby_nsq, State.enterStandby_mpt]
    exact ⟨nofun, fun role hr _ => PortNewest.of_eq (a := s.mpt) rfl rfl rfl rfl rfl (hs.2 role hr hboot)⟩
  | reboot ended => exact s.hardReset_newest _
  | restart pending => exact hs.keptBlocks _ _ fun hb => by rw [hs.1 hb] at pending; cases pending
  | wake standby => exact hs.keptBlocks _ _ fun hb => by rw [hb] at standby; cases standby
  | putItem i x hi grows => exact hs.of_kept (s.putItem_kept i x) (by decide) (by decide)
  | emptyItem i hi hc => exact hs.of_kept (s.emptyItem_kept i) (by decide) (by decide)
  | packLimits => exact hs.of_kept s.formPackLimits_kept (by decide) (by decide)
  | judge0 role x record hc => exact hs.of_kept (s.judge0_kept role x record) (by decide) (by decide)
  | judge1 role record hc => exact hs.of_kept (s.judge1_kept role record) (by decide) (by decide)
  | _ => exact hs

/-! ### The openings -/

/-- A page of a slot lies in that slot, and in no other. -/
theorem inSlot_of_page {j k page a : Nat} (h : pageAddress j page ≤ a ∧ a < pageAddress j page + 32) (hk : inSlot k a) : k = j := by
  unfold inSlot slotAddress at hk
  have hp : pageAddress j page = slotAddress j ∨ pageAddress j page = slotAddress j + 32 := by
    unfold pageAddress
    split
    · exact .inl rfl
    · exact .inr rfl
  unfold slotAddress at hp
  omega

theorem readSlot_of_outsidePage {e : Memory} {j page i : Nat} (hne : i ≠ j)
    (h : ∀ a, a < pageAddress j page ∨ pageAddress j page + 32 ≤ a → Memory.read e a = Memory.read m a) :
    readSlot e i = readSlot m i := by
  refine readSlot_congr fun a ha => h a ?_
  by_contra hin
  exact hne (inSlot_of_page (page := page) ⟨by omega, by omega⟩ ha)

/-- A page left free: its slot is flagged, and a first page that stands is not the one torn. -/
theorem PortNewest.tearPage {job : FlushJob} (hw : s.mpt.eeprom.wf = true) (ho : s.mpt.op = .flush job)
    (h : PortNewest role s.mpt) : PortNewest role (s.tearPage job).mpt := by
  obtain ⟨hring, hop⟩ := h
  have hop' := hop
  unfold OpLawful at hop'
  rw [ho] at hop'
  obtain ⟨hseq, htorn, hpage⟩ := hop'
  have hread := fun a => State.tearPage_read (s := s) job (a := a) hw
  refine ⟨RingIsNewest.of_read hring fun j hj => ?_, ?_⟩
  · refine readSlot_of_outsidePage (fun hjj => ?_) hread
    have hj' : s.mpt.torn.getLsbD j = false := hj
    rw [hjj, htorn] at hj'
    cases hj'
  · have ho' : (s.tearPage job).mpt.op = .flush job := ho
    unfold OpLawful
    rw [ho']
    refine ⟨hseq, htorn, fun h2 => ?_⟩
    rw [← hpage h2]
    apply List.ext_getElem
    · simp [readSlot_length]
    · intro i hi hi'
      have hi32 : i < 32 := by simp [readSlot_length] at hi; omega
      rw [List.getElem_take, List.getElem_take, readSlot_getElem, readSlot_getElem]
      refine hread _ (.inl ?_)
      rw [h2]
      show _ < slotAddress job.slot + 32
      omega

/-- A page stored: the first stands in its flagged slot, the second makes its slot whole and the newest (R172). -/
theorem PortNewest.storedPage {job : FlushJob} (hw : s.mpt.eeprom.wf = true) (hr : s.role = some role)
    (ho : s.mpt.op = .flush job) (hlaw : PortRing s.mpt) (h : PortNewest role s.mpt) :
    PortNewest role (s.storedPage job).mpt := by
  obtain ⟨hring, hop⟩ := h
  obtain ⟨hslot, hjob⟩ := hlaw
  rw [ho] at hjob
  obtain ⟨attempt, page, slot, seq⟩ := hjob
  unfold OpLawful at hop
  rw [ho] at hop
  obtain ⟨hseq, htorn, hfirst⟩ := hop
  have hread := fun a => State.writePage_read (s := s) job (a := a) hw
  have hbytes : s.jobBytes job = slotBytes role job.seq job.snapshot := by simp [State.jobBytes, hr]
  have hlt : job.slot < 8 := by omega
  unfold State.storedPage
  dsimp only
  rcases page with h1 | h2
  · rw [if_pos h1]
    refine ⟨RingIsNewest.of_read hring fun j hj => ?_, hseq, htorn, fun _ => ?_⟩
    · refine readSlot_of_outsidePage (fun hjj => ?_) hread
      have hj' : s.mpt.torn.getLsbD j = false := hj
      rw [hjj, htorn] at hj'
      cases hj'
    · show (readSlot (Memory.writeAll s.mpt.eeprom (pageAddress job.slot job.page) (pageOf (s.jobBytes job) job.page))
        job.slot).take 32 = _
      rw [h1, hbytes]
      exact take_readSlot_writeFirst hw (slotBytes_length _ _ _)
  · have hne : ¬ job.page = 1 := by omega
    rw [if_neg hne]
    refine ⟨?_, .of_idle nofun nofun⟩
    show RingIsNewest role (s.writePage job).mpt.eeprom (s.mpt.torn &&& ~~~(1#8 <<< job.slot)) job.slot job.seq
    rw [seq]
    refine RingIsNewest.written (p := job.snapshot) hring hlt ?_ (seq ▸ hseq) (by omega)
      fun i hi _ => readSlot_of_outsidePage hi hread
    show readSlot (Memory.writeAll s.mpt.eeprom (pageAddress job.slot job.page) (pageOf (s.jobBytes job) job.page)) job.slot = _
    rw [h2, hbytes, ← seq]
    exact readSlot_writeSecond hw (slotBytes_length _ _ _) (hfirst h2)

/-- The image lies below the wear ring (Table 10-1). -/
theorem PortNewest.writeConfig {place : Option Nat} {n : Nat} {mask value mask' value' : Word} (o : WriteOutcome)
    (hw : s.mpt.eeprom.wf = true) (ho : s.mpt.op = .configWrite place n mask value) (h : PortNewest role s.mpt) :
    PortNewest role (s.writeConfig n mask' value' o).mpt := by
  obtain ⟨hring, hop⟩ := h
  unfold OpLawful at hop
  rw [ho] at hop
  have hfields : (s.writeConfig n mask' value' o).mpt.torn = s.mpt.torn
      ∧ (s.writeConfig n mask' value' o).mpt.ringSlot = s.mpt.ringSlot
      ∧ (s.writeConfig n mask' value' o).mpt.ringSeq = s.mpt.ringSeq
      ∧ (s.writeConfig n mask' value' o).mpt.op = s.mpt.op := by
    unfold State.writeConfig
    cases o <;> exact ⟨rfl, rfl, rfl, rfl⟩
  obtain ⟨htorn, hslot, hseq, hop'⟩ := hfields
  unfold PortNewest OpLawful
  rw [htorn, hslot, hseq, hop', ho]
  refine ⟨hring.of_read fun j _ => readSlot_congr fun a ha => ?_, hop⟩
  unfold inSlot slotAddress at ha
  exact State.writeConfig_read n mask' value' o hw (by omega) (by omega)

theorem State.opening_keeps_newestLaw (hacks : ∀ ack acks, c = .bootLoadComplete ack acks → acks = 0xFF)
    (hw : s.mpt.eeprom.wf = true) (hring : RingLaw s) (hs : NewestLaw s) : NewestLaw (s.opening c) := by
  have hkept : ∀ t : State, t.nsq = s.nsq → (∀ role, s.role = some role → PortNewest role s.mpt → PortNewest role t.mpt) →
      NewestLaw t := fun t hnsq hport => by
    rw [newestLaw_iff, State.role, hnsq]
    exact ⟨hs.1, fun role hr hb => hport role hr (hs.2 role hr hb)⟩
  rcases s.opening_cases c with h | ⟨p, ⟨-, h⟩ | ⟨-, h⟩⟩ | ⟨role, x, y, hc, hr, hb, -, h⟩ | ⟨u, -, h⟩ | ⟨p, job, -, ho, h⟩
    | ⟨p, job, -, ho, h⟩ | ⟨p, o, place, n, mask, value, -, ho, h⟩ <;> rw [h]
  · exact hs
  · exact State.hardReset_newest _ _
  · exact State.hardReset_newest _ _
  · have hy : y = 0xFF := hacks x y hc
    subst hy
    have nsq : (s.loaded role x 0xFF).nsq = s.nsq := s.loaded_kept role x 0xFF .nsq (by decide)
    obtain ⟨heeprom, htorn⟩ := s.loaded_eeprom role x 0xFF
    obtain ⟨hop, hload⟩ := s.loaded_ring role x 0xFF
    rw [State.bootLoaded_eq, newestLaw_iff, State.role, State.enterSync_nsq, State.enterSync_mpt, nsq]
    refine ⟨nofun, fun role' hr' _ => ?_⟩
    have hrole : role' = role := by
      have : s.role = some role' := hr'
      rw [hr] at this
      exact (Option.some.inj this).symm
    subst hrole
    refine PortNewest.of_eq (a := (s.loaded role' x 0xFF).mpt) rfl rfl rfl rfl rfl ⟨?_, .of_idle (by rw [hop]; nofun) (by rw [hop]; nofun)⟩
    rw [heeprom, htorn]
    rcases hload with ⟨k, q, hn, hk, hq⟩ | ⟨hn, hk, hq⟩ <;> rw [hk, hq]
    · exact .inl hn
    · exact .inr ⟨newestSlot_eq_none.mp hn, rfl, rfl⟩
  · rcases s.upsetCopy_cases u with hu | ⟨n, bits, -, -, hu⟩ <;> rw [hu]
    · exact hs
    · exact hkept _ rfl fun role _ hp => PortNewest.of_eq (a := s.mpt) rfl rfl rfl rfl rfl hp
  · refine hkept _ (State.storedPage_kept _ _ .nsq (by decide)) fun role hr hp => ?_
    exact PortNewest.storedPage (s := s.pinStraps p) hw hr ho hring hp
  · exact hkept _ rfl fun role _ hp => PortNewest.tearPage (s := s.pinStraps p) hw ho hp
  · refine hkept _ (State.writeConfig_kept _ _ _ _ _ .nsq (by decide)) fun role _ hp => ?_
    exact PortNewest.writeConfig (s := s.pinStraps p) o hw ho hp

/-- Settles O54: the stores are the commands' openings, which write the page or the words of the operation in flight; no move
touches a byte, and the slot in flight is flagged until its second page makes it the newest. -/
theorem theNewestSlotIsSpared : Obligations.TheNewestSlotIsSpared := by
  intro s
  refine ⟨fun hw => ⟨fun t hstep => ?_, fun c t he a ha => ?_⟩, fun hring t hstep => ?_,
    fun hw hring hnewest hacks t hstep => ?_, fun hw hring c t job he ho a ha => ?_⟩
  · exact step_induct (P := fun t => t.mpt.eeprom.wf = true) (fun _ => hw) (fun c rest _ => State.opening_wf c hw)
      (fun c rest a b _ hm h => by rw [hm.eeprom]; exact h) hstep
  · rw [(moves_of_exec he).eeprom]; exact State.opening_read c hw ha
  · exact step_induct (P := fun t => PortRing t.mpt) (fun _ => PortRing.of_eq (a := s.mpt) rfl rfl rfl hring)
      (fun c rest _ => State.opening_keeps_ringLaw c hring) (fun c rest a b _ hm h => hm.keeps_ringLaw h) hstep
  · refine step_induct (P := NewestLaw) (fun _ => ?_) (fun c rest hp => ?_)
      (fun c rest a b _ hm h => hm.keeps_newestLaw h) hstep
    · exact ⟨hnewest.1, fun role hr hb => PortNewest.of_eq (a := s.mpt) rfl rfl rfl rfl rfl (hnewest.2 role hr hb)⟩
    · exact State.opening_keeps_newestLaw (fun ack acks hc => hacks ack acks (by rw [hp, hc]; rfl)) hw hring hnewest
  · rw [(moves_of_exec he).eeprom]
    refine State.opening_read c hw fun hstore => ?_
    obtain ⟨hslot, hjob⟩ := hring
    rw [ho] at hjob
    obtain ⟨attempt, -, slot, -⟩ := hjob
    have hpage : pageAddress job.slot job.page ≤ a ∧ a < pageAddress job.slot job.page + 32 := by
      unfold storesTo at hstore
      rw [ho] at hstore
      split at hstore <;> simp_all
    have hj := inSlot_of_page hpage ha
    omega

end
end Sys2Proof.Machine
end

/-! # The step and the reset state -/
section
namespace Sys2Proof.Machine

section

/-- Settles O1. -/
theorem stepRunsFrontCommand : Obligations.StepRunsFrontCommand := fun _ _ _ => rfl

/-! ### A millisecond (section 4.4) -/

theorem Timer.pass_passes (a : Timer) (period : Nat) : TimerPasses period a (a.pass period) := by
  obtain ⟨running, elapsed⟩ := a
  cases running with
  | false => exact ⟨rfl, nofun, fun _ => rfl⟩
  | true =>
    refine ⟨rfl, fun _ h => ?_, fun h => ?_⟩
    · show min (elapsed + 1) (max period elapsed) = elapsed + 1
      have h' : elapsed < period := h
      omega
    · show min (elapsed + 1) (max period elapsed) = elapsed
      have h' : period ≤ elapsed := h.resolve_left nofun
      omega

theorem OneShot.pass_passes (a : OneShot) (period : Nat) : OneShotPasses period a (a.pass period) := by
  refine ⟨fun e h => ?_, fun h => by rw [h]; rfl, fun h => by rw [h]; rfl⟩
  subst h
  show OneShot.running (min (e + 1) (max period e)) = .running _
  congr 1
  split <;> omega

theorem Timer.count_elapsed (a : Timer) : a.count.running = a.running
    ∧ a.count.elapsed = if a.running then a.elapsed + 1 else a.elapsed := by
  unfold Timer.count
  split <;> exact ⟨rfl, rfl⟩

theorem PeerTable.pass_entry {b : PeerTable} {i : Nat} {e : PeerEntry} (h : b.entries[i]? = some e) :
    b.pass.entries[i]? = some { e with ageTimer := e.ageTimer.pass 200 } := by
  simp [PeerTable.pass, h]

theorem State.elapse_kept (s : State) : KeptBut s s.elapse [.nsq, .ptb, .blu, .gsc, .wau, .sli, .stp, .mpt] := by
  intro b hb
  cases b <;> first | exact absurd (by decide) hb | rfl

/-- Settles O2: each timer passes by its own lemma. -/
theorem idleStepLetsAMillisecondPass : Obligations.IdleStepLetsAMillisecondPass := by
  intro s hp
  refine ⟨s.elapse, by simp [step, hp], s.elapse_kept, rfl, OneShot.pass_passes _ _, Timer.pass_passes _ _,
    Timer.pass_passes _ _, Timer.pass_passes _ _, rfl, Timer.pass_passes _ _, List.length_map _,
    fun i e h => ⟨_, PeerTable.pass_entry h, rfl, Timer.pass_passes _ _⟩, rfl, Timer.pass_passes _ _, Timer.pass_passes _ _,
    rfl, Timer.pass_passes _ _, Timer.pass_passes _ _, Timer.pass_passes _ _, Timer.pass_passes _ _, Timer.pass_passes _ _,
    (Timer.count_elapsed _).1, (Timer.count_elapsed _).2, rfl, Timer.pass_passes _ _, rfl, Timer.pass_passes _ _,
    Timer.pass_passes _ _, Timer.pass_passes _ _, rfl, Timer.pass_passes _ _, OneShot.pass_passes _ _, Timer.pass_passes _ _,
    rfl, Timer.pass_passes _ _, Timer.pass_passes _ _, Timer.pass_passes _ _⟩

/-! ### The reset state -/

theorem PeerTable.initial_records : PeerTable.initial.entries = []
    ∧ PeerTable.initial.demand = ⟨false, 0, 0, 0, false, false, false, false⟩ := ⟨rfl, rfl⟩

/-- The records of a state whose blocks have the values of the reset tables. -/
theorem ResetRecords.of_initial {s : State} {q : Nat} (ptb : s.ptb = PeerTable.initial) (she : s.she = ShareRecord.initial)
    (blu : s.blu = BlendUnit.initial q) (plu : s.plu = PackUnit.initial) (gsc : s.gsc = Genset.initial)
    (stp : s.stp = StagePort.initial) (sli : s.sli.AtReset) : ResetRecords s := by
  unfold ResetRecords
  rw [ptb, she, blu, plu, gsc, stp]
  exact ⟨rfl, rfl, rfl, BlendUnit.initial_atReset q, PackUnit.initial_atReset, Genset.initial_atReset,
    StagePort.initial_atReset, sli⟩

/-- Settles O4. -/
theorem resetLeavesTheStatedValues : Obligations.ResetLeavesTheStatedValues := by
  have hrecords : ResetRecords State.reset := .of_initial rfl rfl rfl rfl rfl rfl LineUnit.initial_atReset
  refine ⟨rfl, rfl, rfl, rfl, rfl, rfl, rfl, rfl, rfl, rfl, rfl, rfl, rfl, rfl, rfl, rfl, rfl, hrecords, ?_, rfl, rfl, rfl, rfl,
    rfl, rfl, rfl, rfl, rfl, rfl, rfl⟩
  exact ⟨rfl, rfl, rfl, rfl, rfl, rfl, rfl, rfl, rfl⟩

/-- Settles O58: no entry, no place, no record and no operation is there to break a law. -/
theorem resetMeetsTheLaws : Obligations.ResetMeetsTheLaws := by
  refine ⟨.of_empty rfl, .of_empty rfl, ⟨nofun, nofun, nofun⟩, ⟨rfl, rfl⟩, .of_zero rfl rfl rfl rfl rfl rfl,
    .of_none (by decide) rfl rfl, .of_full rfl rfl, reset_memory_wf, PortRing.of_idle (show 7 < 8 by decide) nofun,
    .of_none rfl, Nat.zero_le _, ⟨fun _ => rfl, DerivesFrom.of_zero rfl (fun _ => rfl) fun _ => rfl⟩,
    ⟨fun _ => rfl, fun _ _ hb => absurd rfl hb⟩, rfl, rfl⟩

end
end Sys2Proof.Machine
end

/-! # The supply events and the end of the boot load (R168, R170, R174 to R178) -/
section
namespace Sys2Proof.Machine

section
variable {c : Instr} {s t u : State}

/-! ### POWER_ON and BROWN_OUT (R175, R176) -/

theorem strapCode_le (p : Straps) : strapCode p ≤ 7 := by unfold strapCode; omega

/-- A sample is invalid where its role code names no role or its address is 0 or 15 (R176). -/
theorem strapRole_eq_none_iff (p : Straps) :
    strapRole p = none ↔ strapCode p = 0 ∨ 4 ≤ strapCode p ∨ strapAddress p = 0 ∨ strapAddress p = 15 := by
  have hcode : roleOfCode (strapCode p) = none ↔ strapCode p = 0 ∨ 4 ≤ strapCode p := by
    have := strapCode_le p
    generalize strapCode p = n at this ⊢
    interval_cases n <;> simp [roleOfCode]
  unfold strapRole
  split
  · next h => exact ⟨fun _ => .inr (.inr h), fun _ => rfl⟩
  · next h =>
    rw [hcode]
    exact ⟨fun hc => hc.elim .inl fun hc => .inr (.inl hc), fun hc => by
      rcases hc with hc | hc | hc
      · exact .inl hc
      · exact .inr hc
      · exact absurd hc h⟩

/-- What POWER_ON and BROWN_OUT leave, whatever the sample. -/
structure SupplyReset (k : ResetKind) (a t : State) : Prop where
  sample : t.nsq.sample = a.pins.straps
  cause : t.nsq.cause = k
  timers : t.nsq.sync = .stopped ∧ t.nsq.strapCheck.running = false ∧ t.nsq.hold.running = false
    ∧ t.nsq.limit.running = false ∧ t.nsq.holdMet = false ∧ t.nsq.pendingReset = .none ∧ t.nsq.strapDiffers = false
  stu : t.stu = StatusUnit.initial
  records : ResetRecords t
  stopped : SyncTimersStopped t
  condition : t.sli.state.condition = .empty
  mpt : t.mpt.pendingFlush = none ∧ t.mpt.flush.running = false ∧ t.mpt.recheckBad = false
  wau : t.wau.armA4 = false ∧ t.wau.armS3 = false ∧ t.wau.hot = false ∧ t.wau.minute.running = false ∧ t.wau.runSeconds = 0
  pending : t.pending = a.pending

theorem State.hardReset_supply (s : State) (k : ResetKind) : SupplyReset k s (s.hardReset k) := by
  have hpins : s.abandonOperation.pins = s.pins := s.abandonOperation_kept .pins (by decide)
  have hpending : s.abandonOperation.pending = s.pending := s.abandonOperation_kept .pending (by decide)
  rcases s.hardReset_cases k with ⟨role, -, h⟩ | ⟨-, h⟩ <;> rw [h]
  · exact ⟨congrArg PinLevels.straps hpins, rfl, ⟨rfl, rfl, rfl, rfl, rfl, rfl, rfl⟩, rfl,
      .of_initial rfl rfl rfl rfl rfl rfl LineUnit.initial_atReset, ⟨rfl, rfl, rfl, rfl, rfl, rfl, rfl, rfl, rfl⟩, rfl,
      ⟨rfl, rfl, rfl⟩, ⟨rfl, rfl, rfl, rfl, rfl⟩, hpending⟩
  · exact ⟨congrArg PinLevels.straps hpins, rfl, ⟨rfl, rfl, rfl, rfl, rfl, rfl, rfl⟩, rfl,
      .of_initial rfl rfl rfl rfl rfl rfl LineUnit.initial_atReset, ⟨rfl, rfl, rfl, rfl, rfl, rfl, rfl, rfl, rfl⟩, rfl,
      ⟨rfl, rfl, rfl⟩, ⟨rfl, rfl, rfl, rfl, rfl⟩, hpending⟩

theorem State.hardReset_lines_down (s : State) (k : ResetKind) :
    (s.hardReset k).pins.ready = false ∧ (s.hardReset k).pins.traction = false :=
  (s.hardReset_low k).2

/-- Settles O5: a valid sample leads into BOOT, an invalid one into MUTE, and the rest is the same in both. -/
theorem supplyEventsSampleTheStraps : Obligations.SupplyEventsSampleTheStraps := by
  intro p s c k hc
  have hexec : exec c s = .next ((s.pinStraps p).hardReset k) := by
    rcases hc with ⟨rfl, rfl⟩ | ⟨rfl, rfl⟩ <;> rfl
  have hopen : s.opening c = (s.pinStraps p).hardReset k := by
    rcases hc with ⟨rfl, rfl⟩ | ⟨rfl, rfl⟩ <;> rfl
  obtain ⟨sample, cause, ⟨sync, strapCheck, hold, limit, holdMet, pendingReset, strapDiffers⟩, stu, records, stopped, condition,
    ⟨pendingFlush, flush, recheckBad⟩, ⟨armA4, armS3, hot, minute, runSeconds⟩, pending⟩ :=
    (s.pinStraps p).hardReset_supply k
  obtain ⟨ready, traction⟩ := (s.pinStraps p).hardReset_lines_down k
  refine ⟨_, hexec, sample, cause, ready, traction, fun hvalid => ?_, fun hinvalid => ?_, sync, strapCheck, hold, limit, holdMet,
    pendingReset, strapDiffers, by rw [stu]; rfl, by rw [stu]; rfl, by rw [stu]; rfl, by rw [stu]; rfl, records, stopped,
    condition, pendingFlush, flush, recheckBad, armA4, armS3, hot, minute, runSeconds, pending, fun hw a ha => ?_⟩
  · rcases (s.pinStraps p).hardReset_cases k with ⟨role, -, h⟩ | ⟨hnone, -⟩
    · rw [h]; exact ⟨rfl, rfl, rfl, rfl, rfl⟩
    · obtain ⟨h1, h3, h0, h15⟩ := hvalid
      rcases (strapRole_eq_none_iff p).mp hnone with hc | hc | hc | hc
      · omega
      · omega
      · exact absurd hc h0
      · exact absurd hc h15
  · rcases (s.pinStraps p).hardReset_cases k with ⟨role, hsome, -⟩ | ⟨-, h⟩
    · have hnone := (strapRole_eq_none_iff p).mpr hinvalid
      have hsome' : strapRole p = some role := hsome
      rw [hnone] at hsome'
      cases hsome'
    · rw [h]; exact ⟨rfl, rfl, rfl, rfl, rfl, rfl, rfl, rfl, rfl, rfl⟩
  · rw [← hopen]; exact State.opening_read c hw ha

/-! ### The end of the boot load -/

/-- In SYNC the end of an event compares F alone (R136, R138). -/
theorem State.settle_of_sync (h : s.nsq.op = .sync) : s.settle = s.compareF :=
  State.settle_eq_compareF (fun ha => by rw [h] at ha; cases ha) fun hw => by rw [h] at hw; cases hw

theorem exec_bootLoadComplete {role : Role} (hop : s.nsq.op = .boot) (hm : s.mpt.op = .bootLoad) (hr : s.role = some role)
    (ack : Bool) (acks : BitVec 8) :
    exec (.bootLoadComplete ack acks) s = .next (s.bootLoaded role ack acks).compareF := by
  have h : exec (.bootLoadComplete ack acks) s = .next (s.bootLoaded role ack acks).settle := by
    show execBootLoadComplete ack acks s = _
    simp only [execBootLoadComplete, hr, hop, hm, and_self, if_true]
    rfl
  rw [h, State.settle_of_sync (by rw [State.bootLoaded_eq, State.enterSync_nsq])]

/-- The running copy that the load takes (R168). -/
theorem State.loaded_copy (s : State) (role : Role) (ack : Bool) (acks : BitVec 8) :
    (s.loaded role ack acks).mpt.copy = if ack && imageAccepted role (eepromImage s.mpt.eeprom)
      then eepromImage s.mpt.eeprom else defaultImage (some role) := by
  have hring : ∀ t : State, (t.loadRing role acks).mpt.copy = t.mpt.copy := fun t => by
    unfold State.loadRing
    split <;> rfl
  have hwear : ((s.loadImage role ack).loadRing role acks).restateWear.mpt = ((s.loadImage role ack).loadRing role acks).mpt :=
    State.restateWear_kept _ .mpt (by decide)
  unfold State.loaded
  dsimp only [State.setMpt_mpt]
  rw [hwear, hring]
  unfold State.loadImage
  dsimp only
  split <;> rfl

/-- What the load puts of the two statuses of its own (R168, R170). -/
theorem State.loaded_cfgDefault (s : State) (role : Role) (ack : Bool) (acks : BitVec 8) :
    (s.loaded role ack acks).status .cfgDefault = if ack && imageAccepted role (eepromImage s.mpt.eeprom)
      then s.status .cfgDefault else true := by
  have hring : ∀ t : State, (t.loadRing role acks).status .cfgDefault = t.status .cfgDefault := fun t => by
    unfold State.loadRing
    split
    · rfl
    · exact (State.putStatus_status_ne _ _ (by decide)).trans rfl
  have hwear : ∀ t : State, t.restateWear.status .cfgDefault = t.status .cfgDefault := fun t => by
    unfold State.restateWear
    dsimp only
    split
    · exact ((State.putStatus_status_ne _ _ (by decide)).trans (State.putStatus_status_ne _ _ (by decide))).trans rfl
    · exact (State.putStatus_status_ne _ _ (by decide)).trans rfl
  show (((s.loadImage role ack).loadRing role acks).restateWear).status .cfgDefault = _
  rw [hwear, hring]
  unfold State.loadImage
  dsimp only
  split
  · rfl
  · exact State.putStatus_status_self _ _ _

theorem State.restateWear_wearBlank (s : State) : s.restateWear.status .wearBlank = s.status .wearBlank := by
  unfold State.restateWear
  dsimp only
  split
  · exact ((State.putStatus_status_ne _ _ (by decide)).trans (State.putStatus_status_ne _ _ (by decide))).trans rfl
  · exact (State.putStatus_status_ne _ _ (by decide)).trans rfl

/-- The table and the ring position that the load takes (R126, R170). -/
theorem State.loaded_table (s : State) (role : Role) (ack : Bool) (acks : BitVec 8) :
    (∀ k q, newestSlot (validSlots s.mpt.eeprom s.mpt.torn acks role) = some (k, q) →
      (s.loaded role ack acks).wau.items
        = loadedItems role (s.loaded role ack acks).mpt.copy (slotSnapshot role (readSlot s.mpt.eeprom k)))
    ∧ (newestSlot (validSlots s.mpt.eeprom s.mpt.torn acks role) = none →
      (s.loaded role ack acks).wau.items = loadedItems role (s.loaded role ack acks).mpt.copy ⟨[], 0, 0, 0⟩
        ∧ (s.loaded role ack acks).status .wearBlank = true) := by
  obtain ⟨heeprom, htorn⟩ := s.loadImage_eeprom role ack
  have hcopy : ∀ t : State, (t.loadRing role acks).mpt.copy = t.mpt.copy := fun t => by
    unfold State.loadRing
    split <;> rfl
  have hwear : ((s.loadImage role ack).loadRing role acks).restateWear.mpt = ((s.loadImage role ack).loadRing role acks).mpt :=
    State.restateWear_kept _ .mpt (by decide)
  have hstatus : (s.loaded role ack acks).status .wearBlank
      = ((s.loadImage role ack).loadRing role acks).restateWear.status .wearBlank := rfl
  rw [hstatus, State.restateWear_wearBlank]
  unfold State.loaded
  dsimp only [State.setMpt_mpt, State.setMpt_wau]
  rw [hwear, hcopy, State.restateWear_wau, Wear.derive_items]
  unfold State.loadRing
  rw [heeprom, htorn]
  refine ⟨fun k q h => ?_, fun h => ?_⟩ <;> rw [h]
  · rfl
  · exact ⟨rfl, State.putStatus_status_self _ _ _⟩

theorem loadedItems_acc (role : Role) (copy : List Word) (p : Snapshot) :
    (loadedItems role copy p).map WearItem.acc = (List.range (itemCount role)).map fun i => p.accs.getD i 0 := by
  simp [loadedItems, Function.comp_def]

theorem loadedItems_acc_slot (role : Role) (copy : List Word) (slot : List Byte) :
    (loadedItems role copy (slotSnapshot role slot)).map WearItem.acc = (slotSnapshot role slot).accs := by
  rw [loadedItems_acc]
  apply List.ext_getElem
  · simp [slotSnapshot]
  · intro i hi hi'
    simp only [List.getElem_map, List.getElem_range]
    rw [List.getD_eq_getElem _ _ hi']

theorem loadedItems_acc_blank (role : Role) (copy : List Word) :
    (loadedItems role copy ⟨[], 0, 0, 0⟩).map WearItem.acc = List.replicate (itemCount role) 0 := by
  rw [loadedItems_acc]
  simp

/-- The tests of an image (R168, Table 10.2-1), written out. -/
theorem imageAccepted_iff (role : Role) (image : List Word) : imageAccepted role image = true ↔
    image.foldl (· ^^^ ·) 0 = 0xA55A#16 ∧ (imageWord image 0).toNat = role.code * 16384
      ∧ (∀ n ∈ [6, 7, 9, 21, 22, 23, 24, 25, 26, 27, 28, 29, 31], (imageWord image n).toNat ≤ 1000)
      ∧ 100 ≤ (imageWord image 8).toNat ∧ (imageWord image 8).toNat ≤ 5000 ∧ 20 ≤ (imageWord image 10).toNat
      ∧ (imageWord image 10).toNat ≤ 400 ∧ 100 ≤ (imageWord image 11).toNat ∧ (imageWord image 11).toNat ≤ 1000
      ∧ (imageWord image 12).toNat ≤ (imageWord image 11).toNat
      ∧ (imageWord image 13).toNat < (imageWord image 14).toNat ∧ (imageWord image 14).toNat ≤ 1200
      ∧ (imageWord image 15).toNat < (imageWord image 16).toNat ∧ (imageWord image 16).toNat ≤ 1000
      ∧ (imageWord image 17).toNat < (imageWord image 18).toNat ∧ (imageWord image 18).toNat ≤ 1000
      ∧ (imageWord image 20).toNat < (imageWord image 19).toNat ∧ (imageWord image 19).toNat ≤ 1000
      ∧ (imageWord image 30).toNat ≤ 20
      ∧ ∀ i, i < itemCount role → (imageWord image (32 + 4 * i) ++ imageWord image (32 + 4 * i + 1)).toNat
            ≤ (imageWord image (34 + 4 * i) ++ imageWord image (34 + 4 * i + 1)).toNat
          ∧ 1 ≤ (imageWord image (34 + 4 * i) ++ imageWord image (34 + 4 * i + 1)).toNat := by
  have hrole : imageWord image 0 = BitVec.ofNat 16 (role.code * 16384) ↔ (imageWord image 0).toNat = role.code * 16384 := by
    rw [← BitVec.toNat_inj, BitVec.toNat_ofNat, Nat.mod_eq_of_lt (by cases role <;> decide)]
  have hthresholds : thresholdsAccepted role image = true ↔ ∀ i, i < itemCount role →
      (imageWord image (32 + 4 * i) ++ imageWord image (32 + 4 * i + 1)).toNat
          ≤ (imageWord image (34 + 4 * i) ++ imageWord image (34 + 4 * i + 1)).toNat
        ∧ 1 ≤ (imageWord image (34 + 4 * i) ++ imageWord image (34 + 4 * i + 1)).toNat := by
    simp only [thresholdsAccepted, List.all_eq_true, List.mem_range, Bool.and_eq_true, decide_eq_true_eq, nearOf, dueOf,
      cfg32, Nat.add_sub_cancel]
  have hcheck : checkHolds image = true ↔ image.foldl (· ^^^ ·) 0 = 0xA55A#16 := by rw [checkHolds, beq_iff_eq]; rfl
  rw [← hthresholds, ← hrole, ← hcheck]
  simp only [imageAccepted, rangesAccepted, inRange, pairBelow, pMax, cfg, Bool.and_eq_true, decide_eq_true_eq,
    List.forall_mem_cons, List.not_mem_nil, false_implies, implies_true]
  generalize (imageWord image 0 = BitVec.ofNat 16 (role.code * 16384)) = hrole, (checkHolds image = true) = hcheck,
    (thresholdsAccepted role image = true) = hthresholds
  grind

/-- A slot that a load finds valid (R170, Table 10.3-1), written out. -/
theorem mem_validSlots_iff (m : Memory) (torn acks : BitVec 8) (role : Role) (k q : Nat) :
    (k, q) ∈ validSlots m torn acks role ↔ (k < 8 ∧ acks.getLsbD k = true ∧ torn.getLsbD k = false
      ∧ (byteAt (readSlot m k) 4).toNat = role.code
      ∧ checkOf (((readSlot m k).take 62).flatMap bitsOf) = pairAt (readSlot m k) 62) ∧ q = value32 (readSlot m k) 0 := by
  rw [mem_validSlots, SlotStands]
  simp only [slotValid, Bool.and_eq_true, decide_eq_true_eq]
  exact ⟨fun ⟨⟨hk, ht, hr, hc⟩, ha, hq⟩ => ⟨⟨hk, ha, ht, hr, hc⟩, hq⟩,
    fun ⟨⟨hk, ha, ht, hr, hc⟩, hq⟩ => ⟨⟨hk, ht, hr, hc⟩, ha, hq⟩⟩

/-- A queued STATE frame that is asked for again stays queued at urgency 1 (R150). -/
theorem PromptAtMost.queued {l r : LineUnit} (h : PromptAtMost l r) (hc : l.state.condition = .queued)
    (hu : l.state.urgency = 1) : r.state.condition = .queued ∧ r.state.urgency = 1 := by
  rcases h with h | h <;> rw [h]
  · exact ⟨hc, hu⟩
  · simp [StatePlace.promptRequest, hc]

/-- Settles O6: the load's own facts are those of `State.loaded`, the rest is the entry into SYNC. -/
theorem bootLoadEntersSync : Obligations.BootLoadEntersSync := by
  intro s role ack acks hop hm hr
  obtain ⟨heeprom, htorn⟩ := s.loaded_eeprom role ack acks
  obtain ⟨hidle, hring⟩ := s.loaded_ring role ack acks
  obtain ⟨htable, hblank⟩ := s.loaded_table role ack acks
  have hcopy := s.loaded_copy role ack acks
  have hdefault := s.loaded_cfgDefault role ack acks
  have hsli : (s.loaded role ack acks).sli = s.sli := s.loaded_kept role ack acks .sli (by decide)
  have hitems : ((s.loaded role ack acks).enterSync false).wau.items = (s.loaded role ack acks).wau.items := by
    rcases (s.loaded role ack acks).enterSync_wau false with h | h <;> rw [h]
  refine ⟨_, exec_bootLoadComplete hop hm hr ack acks, ?_⟩
  rw [State.bootLoaded_eq]
  simp only [State.compareF_nsq, State.compareF_mpt, State.compareF_status, State.compareF_ptb, State.compareF_stp,
    State.compareF_pins, State.compareF_wau, State.enterSync_nsq, State.enterSync_mpt, State.enterSync_status,
    State.enterSync_ptb, State.enterSync_stp, State.enterSync_pins, hitems, hidle, heeprom, hcopy, hdefault,
    true_and, Bool.false_eq_true, if_false]
  have hsli' := State.compareF_prompt ((s.loaded role ack acks).enterSync false)
  rw [State.enterSync_sli, hsli] at hsli'
  have hsorted := validSlots_sorted s.mpt.eeprom s.mpt.torn acks role
  refine ⟨fun ⟨ha, hi⟩ => ?_, fun hn => ?_, fun k q hk => ?_, fun hk => ?_, ⟨?_, imageAccepted_iff _ _⟩, ⟨?_, ?_⟩,
    ?_, fun he => ?_⟩
  · simp [ha, hi]
  · have : (ack && imageAccepted role (eepromImage s.mpt.eeprom)) = false := by
      rw [← Bool.not_eq_true, Bool.and_eq_true]; exact hn
    simp [this]
  · rcases hring with ⟨j, p, hj, h1, h2⟩ | ⟨hj, -, -⟩
    · rw [hk] at hj
      cases hj
      exact ⟨h1, h2, by rw [htable k q hk, loadedItems_acc_slot]⟩
    · rw [hk] at hj; cases hj
  · rcases hring with ⟨j, p, hj, -, -⟩ | ⟨-, h1, h2⟩
    · rw [hk] at hj; cases hj
    · exact ⟨h1, h2, (hblank hk).2, by rw [(hblank hk).1, loadedItems_acc_blank]⟩
  · simp [eepromImage]
  · rw [newestSlot_eq_none, List.eq_nil_iff_forall_not_mem]
    refine ⟨fun h k _ hv => h (k, _) ((mem_validSlots_iff _ _ _ _ _ _).mpr ⟨hv, rfl⟩), fun h p hp => ?_⟩
    have hv := (mem_validSlots_iff _ _ _ _ p.1 p.2).mp hp
    exact h p.1 hv.1.1 hv.1
  · intro k _
    rw [newestSlot_iff hsorted, mem_validSlots_iff]
    refine ⟨fun ⟨⟨hv, _⟩, hmax⟩ => ⟨hv, fun j _ hj => hmax (j, _) ((mem_validSlots_iff _ _ _ _ _ _).mpr ⟨hj, rfl⟩)⟩,
      fun ⟨hv, hmax⟩ => ⟨⟨hv, rfl⟩, fun p hp => ?_⟩⟩
    obtain ⟨hp, hq⟩ := (mem_validSlots_iff _ _ _ _ p.1 p.2).mp hp
    rw [hq]
    exact hmax p.1 hp.1 hp
  · rcases hsli' with h | h <;> rw [h]
  · refine hsli'.queued ?_ ?_ <;> simp [StatePlace.promptRequest, he]

end
end Sys2Proof.Machine
end

/-! # What the end of an event leaves, and the DEMAND arrivals

Withdrawal, its end, SYNC exit and the comparison of F follow the event proper. `Follows` says what they leave: all of the
tables, the accounts, the statuses, and of each block what is not theirs. -/
section
namespace Sys2Proof.Machine

section
variable {c : Instr} {s t u : State}

/-! ### The end of an event -/

theorem StatePlace.promptRequest_twice (p : StatePlace) : p.promptRequest.promptRequest = p.promptRequest := by
  obtain ⟨cond, _, _, _⟩ := p
  cases cond <;> rfl

theorem PromptAtMost.refl (l : LineUnit) : PromptAtMost l l := .inl rfl

theorem PromptAtMost.trans {l m r : LineUnit} (h : PromptAtMost l m) (k : PromptAtMost m r) : PromptAtMost l r := by
  rcases h with h | h
  · rw [h] at k; exact k
  · refine .inr ?_
    rcases k with k | k <;> rw [k, h]
    simp only [StatePlace.promptRequest_twice]

theorem PromptAtMost.replies {l r : LineUnit} (h : PromptAtMost l r) : r.replies = l.replies := by
  rcases h with h | h <;> rw [h]

/-- What a change of engine state leaves of the scheduler (R91). -/
def Genset.Steady (a b : Genset) : Prop :=
  b = { a with
    engine := b.engine, command := b.command, pSet := b.pSet, ownPo := b.ownPo, ownPa := b.ownPa, ownPAct := b.ownPAct
    crank := b.crank, warm := b.warm, cooldown := b.cooldown, off := b.off, dwell := b.dwell }

theorem Genset.Steady.trans {a b d : Genset} (h : a.Steady b) (k : b.Steady d) : a.Steady d := by
  rw [Genset.Steady] at h k ⊢
  rw [k, h]

/-- What withdrawal, its end, SYNC exit and the comparison of F leave (R136 to R138, R178). -/
structure Follows (s t : State) : Prop where
  she : t.she = s.she
  ptb : t.ptb = s.ptb
  wau : t.wau = s.wau
  free : t.free = s.free
  pending : t.pending = s.pending
  stu : t.stu = { s.stu with fValue := t.stu.fValue }
  nsq : t.nsq = { s.nsq with op := t.nsq.op }
  pins : t.pins = { s.pins with ready := t.pins.ready, traction := t.pins.traction }
  blu : t.blu = { s.blu with own := t.blu.own }
  plu : t.plu = { s.plu with own := t.plu.own }
  stp : t.stp = { s.stp with slot1 := t.stp.slot1 }
  mpt : t.mpt = { s.mpt with
    op := t.mpt.op, poll := t.mpt.poll, torn := t.mpt.torn, pendingFlush := t.mpt.pendingFlush, flush := t.mpt.flush }
  gsc : s.gsc.Steady t.gsc
  sli : PromptAtMost s.sli t.sli
  engine : s.role ≠ some .genset → t.stp = s.stp ∧ t.gsc.engine = s.gsc.engine

theorem Follows.refl (s : State) : Follows s s :=
  ⟨rfl, rfl, rfl, rfl, rfl, rfl, rfl, rfl, rfl, rfl, rfl, rfl, rfl, .refl _, fun _ => ⟨rfl, rfl⟩⟩

theorem Follows.role (h : Follows s t) : t.role = s.role := by
  simp only [State.role]
  rw [h.nsq]

theorem Follows.trans (h : Follows s t) (k : Follows t u) : Follows s u where
  she := k.she.trans h.she
  ptb := k.ptb.trans h.ptb
  wau := k.wau.trans h.wau
  free := k.free.trans h.free
  pending := k.pending.trans h.pending
  stu := by rw [k.stu, h.stu]
  nsq := by rw [k.nsq, h.nsq]
  pins := by rw [k.pins, h.pins]
  blu := by rw [k.blu, h.blu]
  plu := by rw [k.plu, h.plu]
  stp := by rw [k.stp, h.stp]
  mpt := by rw [k.mpt, h.mpt]
  gsc := h.gsc.trans k.gsc
  sli := h.sli.trans k.sli
  engine hr := by
    obtain ⟨h1, h2⟩ := h.engine hr
    obtain ⟨k1, k2⟩ := k.engine (h.role ▸ hr)
    exact ⟨k1.trans h1, k2.trans h2⟩

theorem Follows.set (h : Follows s t) : t.stu.set = s.stu.set := by rw [h.stu]
theorem Follows.status (h : Follows s t) (x : Status) : t.status x = s.status x := by rw [State.status, State.status, h.set]
theorem Follows.withdraws (h : Follows s t) : t.withdraws = s.withdraws := by rw [State.withdraws, State.withdraws, h.set]
theorem Follows.demandLost (h : Follows s t) : t.demandLost = s.demandLost := h.status _
theorem Follows.given (h : Follows s t) : t.given = s.given := by rw [State.given, State.given, h.ptb, h.demandLost]
theorem Follows.held0 (h : Follows s t) : t.stp.held0 = s.stp.held0 := by rw [h.stp]
theorem Follows.held1 (h : Follows s t) : t.stp.held1 = s.stp.held1 := by rw [h.stp]
theorem Follows.slot0 (h : Follows s t) : t.stp.slot0 = s.stp.slot0 := by rw [h.stp]
theorem Follows.copy (h : Follows s t) : t.mpt.copy = s.mpt.copy := by rw [h.mpt]
theorem Follows.eeprom (h : Follows s t) : t.mpt.eeprom = s.mpt.eeprom := by rw [h.mpt]
theorem Follows.ringSeq (h : Follows s t) : t.mpt.ringSeq = s.mpt.ringSeq := by rw [h.mpt]
theorem Follows.ringSlot (h : Follows s t) : t.mpt.ringSlot = s.mpt.ringSlot := by rw [h.mpt]
theorem Follows.starts (h : Follows s t) : t.gsc.starts = s.gsc.starts := by rw [h.gsc]
theorem Follows.sample (h : Follows s t) : t.nsq.sample = s.nsq.sample := by rw [h.nsq]
theorem Follows.ramp (h : Follows s t) : t.blu.ramp = s.blu.ramp := by rw [h.blu]
theorem Follows.limitM (h : Follows s t) : t.blu.limitM = s.blu.limitM := by rw [h.blu]
theorem Follows.clampBinds (h : Follows s t) : t.blu.clampBinds = s.blu.clampBinds := by rw [h.blu]
theorem Follows.paF (h : Follows s t) : t.plu.paF = s.plu.paF := by rw [h.plu]

theorem State.reformOwn_plu_own (s : State) : s.reformOwn.plu = { s.plu with own := s.reformOwn.plu.own } := by
  unfold State.reformOwn
  split <;> rfl

theorem Follows.of_reformOwn (s : State) : Follows s s.reformOwn where
  she := s.reformOwn_kept .she (by decide)
  ptb := s.reformOwn_kept .ptb (by decide)
  wau := s.reformOwn_kept .wau (by decide)
  free := s.reformOwn_kept .free (by decide)
  pending := s.reformOwn_kept .pending (by decide)
  stu := by rw [s.reformOwn_kept .stu (by decide)]
  nsq := by rw [s.reformOwn_kept .nsq (by decide)]
  pins := by rw [s.reformOwn_kept .pins (by decide)]
  blu := s.reformOwn_blu
  plu := s.reformOwn_plu_own
  stp := by rw [s.reformOwn_kept .stp (by decide)]
  mpt := by rw [s.reformOwn_mpt]
  gsc := by
    unfold State.reformOwn
    split <;> rfl
  sli := .inl (s.reformOwn_kept .sli (by decide))
  engine hr := ⟨s.reformOwn_kept .stp (by decide), by
    unfold State.reformOwn
    split <;> rfl⟩

theorem Follows.of_requestPrompt (s : State) : Follows s s.requestPrompt :=
  ⟨rfl, rfl, rfl, rfl, rfl, rfl, rfl, rfl, rfl, rfl, rfl, rfl, rfl, .inr rfl, fun _ => ⟨rfl, rfl⟩⟩

theorem Follows.of_compareF (s : State) : Follows s s.compareF := by
  have hset : ∀ v, Follows s (s.setStu { s.stu with fValue := v }) := fun _ =>
    ⟨rfl, rfl, rfl, rfl, rfl, rfl, rfl, rfl, rfl, rfl, rfl, rfl, rfl, .refl _, fun _ => ⟨rfl, rfl⟩⟩
  rcases s.compareF_cases with h | h <;> rw [h]
  · exact hset _
  · exact (hset _).trans (.of_requestPrompt _)

theorem Follows.of_requestFlush (h : s.mpt.ringSeq < seqMax) (ps : List Party) : Follows s (s.requestFlush ps) := by
  by_cases ho : s.mpt.op = .none
  · rw [State.requestFlush_idle ho, State.launchFlush_eq h]
    exact ⟨rfl, rfl, rfl, rfl, rfl, rfl, rfl, rfl, rfl, rfl, rfl, rfl, rfl, .refl _, fun _ => ⟨rfl, rfl⟩⟩
  · rw [State.requestFlush_busy ho]
    exact ⟨rfl, rfl, rfl, rfl, rfl, rfl, rfl, rfl, rfl, rfl, rfl, rfl, rfl, .refl _, fun _ => ⟨rfl, rfl⟩⟩

theorem Follows.of_testStandby (h : s.mpt.ringSeq < seqMax) : Follows s s.testStandby := by
  rcases s.testStandby_cases with e | e <;> rw [e]
  · exact .of_requestFlush h _
  · exact .refl _

/-- The Genset Scheduler's own changes, in its role. -/
theorem Follows.of_setGsc (hr : s.role = some .genset) (g : Genset) (hg : s.gsc.Steady g) : Follows s (s.setGsc g) :=
  ⟨rfl, rfl, rfl, rfl, rfl, rfl, rfl, rfl, rfl, rfl, rfl, rfl, hg, .refl _, fun h => absurd hr h⟩

theorem Follows.of_writeSlot1 (hr : s.role = some .genset) (p : Setpoint) : Follows s (s.writeSlot1 p) :=
  ⟨rfl, rfl, rfl, rfl, rfl, rfl, rfl, rfl, rfl, rfl, rfl, rfl, rfl, .refl _, fun h => absurd hr h⟩

theorem Follows.of_enterEngine (hr : s.role = some .genset) (e : EngineState) : Follows s (s.enterEngine e) := by
  have hset := Follows.of_setGsc hr (s.gsc.enter e) rfl
  have hwrite := Follows.of_writeSlot1 (s := s.setGsc (s.gsc.enter e)) hr (.engine (commandOf e))
  exact (hset.trans hwrite).trans (.of_reformOwn _)

theorem Follows.of_engineCooldown (hr : s.role = some .genset) : Follows s s.engineCooldown := by
  have hset := Follows.of_setGsc hr { s.gsc with cooldown := Timer.started, warm := Timer.stopped } rfl
  exact hset.trans (.of_enterEngine (hset.role.trans hr) _)

theorem Follows.of_engineOff (hr : s.role = some .genset) (h : s.mpt.ringSeq < seqMax) (n : Nat) :
    Follows s (s.engineOff n) := by
  have hset := Follows.of_setGsc hr { s.gsc with
    crank := Timer.stopped, warm := Timer.stopped, cooldown := Timer.stopped, off := Timer.started, dwell := n } rfl
  have hoff := hset.trans (.of_enterEngine (hset.role.trans hr) .off)
  exact hoff.trans (.of_testStandby (by rw [hoff.ringSeq]; exact h))

theorem Follows.of_engineWithdrawn (hr : s.role = some .genset) (h : s.mpt.ringSeq < seqMax) :
    Follows s s.engineWithdrawn := by
  unfold State.engineWithdrawn
  split
  · exact .of_engineCooldown hr
  · exact .of_engineCooldown hr
  · exact .of_engineOff hr h _
  all_goals exact .refl _

/-- Only an engine's entry to OFF asks for a flush at entry to ACTIVE or WITHDRAWN (R104). -/
theorem Follows.of_enterServing (h : s.role = some .genset → s.mpt.ringSeq < seqMax) (op : OpState) :
    Follows s (s.enterServing op) := by
  have hnsq : Follows s (s.setNsq { s.nsq with op := op }) :=
    ⟨rfl, rfl, rfl, rfl, rfl, rfl, rfl, rfl, rfl, rfl, rfl, rfl, rfl, .refl _, fun _ => ⟨rfl, rfl⟩⟩
  have hpins : Follows (s.setNsq { s.nsq with op := op })
      ((s.setNsq { s.nsq with op := op }).setPins { s.pins with ready := true, traction := op == .active }) :=
    ⟨rfl, rfl, rfl, rfl, rfl, rfl, rfl, rfl, rfl, rfl, rfl, rfl, rfl, .refl _, fun _ => ⟨rfl, rfl⟩⟩
  have htake := ((hnsq.trans hpins).trans (.of_reformOwn _)).trans (.of_requestPrompt _)
  unfold State.enterServing
  dsimp only
  split
  · next hg =>
    have hr : s.role = some .genset := by rw [← htake.role]; exact hg.2
    exact htake.trans (.of_engineWithdrawn hg.2 (by rw [htake.ringSeq]; exact h hr))
  · exact htake

theorem Follows.of_decideOp (h : s.role = some .genset → s.mpt.ringSeq < seqMax) : Follows s s.decideOp := by
  rcases s.decideOp_cases with e | ⟨-, -, e⟩ | ⟨-, -, e⟩ <;> rw [e]
  · exact .refl _
  · exact .of_enterServing h _
  · exact .of_enterServing h _

/-- What ends an event leaves (R128, R136, R138). -/
theorem Follows.of_settle (h : s.role = some .genset → s.mpt.ringSeq < seqMax) : Follows s s.settle :=
  (Follows.of_decideOp h).trans (.of_compareF _)

/-- What SYNC exit leaves (R178). -/
theorem Follows.of_leaveSync (h : s.mpt.ringSeq < seqMax) : Follows s s.leaveSync := by
  have hflush : Follows s (s.setMpt { s.mpt with flush := Timer.started }) :=
    ⟨rfl, rfl, rfl, rfl, rfl, rfl, rfl, rfl, rfl, rfl, rfl, rfl, rfl, .refl _, fun _ => ⟨rfl, rfl⟩⟩
  have hserving := hflush.trans (.of_enterServing (fun _ => hflush.ringSeq.trans_lt h) (if s.withdraws then .withdrawn else .active))
  exact hserving.trans (.of_testStandby (by rw [hserving.ringSeq]; exact h))

theorem Follows.of_demandEndsSync (h : s.mpt.ringSeq < seqMax) : Follows s s.demandEndsSync := by
  rcases s.demandEndsSync_cases with e | e <;> rw [e]
  · exact .refl _
  · exact .of_leaveSync h

end
end Sys2Proof.Machine
end

/-! # Demand arrivals and the onset of DEMAND_LOST (R39 to R43, R66) -/
section
namespace Sys2Proof.Machine

section
variable {c : Instr} {s t u : State}

/-! ### The end of a good frame (R142, R146) -/

@[simp] theorem State.goodFrameEnds_sli (s : State) (src : Address) :
    (s.goodFrameEnds src).sli = { s.sli with line := .waitIdle 0 } := by
  unfold State.goodFrameEnds
  dsimp only
  split <;> rfl

theorem State.goodFrameEnds_clash (s : State) (src : Address) :
    (s.goodFrameEnds src).status .clash = (decide (src = s.ownAddress) || s.status .clash) := by
  unfold State.goodFrameEnds
  dsimp only
  split
  · next h => simp [h]
  · next h => simp [h, State.status]

theorem State.goodFrameEnds_status (s : State) (src : Address) {y : Status} (h : y ≠ .clash) :
    (s.goodFrameEnds src).status y = s.status y := by
  unfold State.goodFrameEnds
  dsimp only
  split
  · exact (State.putStatus_status_ne _ _ h).trans rfl
  · rfl

/-- A frame from another station leaves the statuses. -/
theorem State.goodFrameEnds_of_other {src : Address} (h : src ≠ s.ownAddress) : s.goodFrameEnds src = s.frameEnds := by
  unfold State.goodFrameEnds
  dsimp only
  rw [if_neg]
  exact h

@[simp] theorem State.goodFrameEnds_nsq (s : State) (src : Address) : (s.goodFrameEnds src).nsq = s.nsq :=
  s.goodFrameEnds_kept src .nsq (by decide)
@[simp] theorem State.goodFrameEnds_pins (s : State) (src : Address) : (s.goodFrameEnds src).pins = s.pins :=
  s.goodFrameEnds_kept src .pins (by decide)
@[simp] theorem State.goodFrameEnds_ptb (s : State) (src : Address) : (s.goodFrameEnds src).ptb = s.ptb :=
  s.goodFrameEnds_kept src .ptb (by decide)
@[simp] theorem State.goodFrameEnds_she (s : State) (src : Address) : (s.goodFrameEnds src).she = s.she :=
  s.goodFrameEnds_kept src .she (by decide)
@[simp] theorem State.goodFrameEnds_blu (s : State) (src : Address) : (s.goodFrameEnds src).blu = s.blu :=
  s.goodFrameEnds_kept src .blu (by decide)
@[simp] theorem State.goodFrameEnds_plu (s : State) (src : Address) : (s.goodFrameEnds src).plu = s.plu :=
  s.goodFrameEnds_kept src .plu (by decide)
@[simp] theorem State.goodFrameEnds_wau (s : State) (src : Address) : (s.goodFrameEnds src).wau = s.wau :=
  s.goodFrameEnds_kept src .wau (by decide)
@[simp] theorem State.goodFrameEnds_stp (s : State) (src : Address) : (s.goodFrameEnds src).stp = s.stp :=
  s.goodFrameEnds_kept src .stp (by decide)
@[simp] theorem State.goodFrameEnds_mpt (s : State) (src : Address) : (s.goodFrameEnds src).mpt = s.mpt :=
  s.goodFrameEnds_kept src .mpt (by decide)
@[simp] theorem State.goodFrameEnds_role (s : State) (src : Address) : (s.goodFrameEnds src).role = s.role := by
  simp [State.role]
@[simp] theorem State.goodFrameEnds_ownAddress (s : State) (src : Address) :
    (s.goodFrameEnds src).ownAddress = s.ownAddress := by
  simp [State.ownAddress]

/-! ### A DEMAND arrival taken (R40, R43) -/

/-- A DEMAND arrival as far as SYNC exit. -/
def State.demandTaken (s : State) (words : List Word) : State :=
  (s.storeDemand words).computeShares.rampArrives.watchShutdown

theorem State.takeDemand_eq (s : State) (words : List Word) : s.takeDemand words = (s.demandTaken words).demandEndsSync := rfl

section
variable (s : State) (words : List Word)

theorem State.watchShutdown_kept : KeptBut s s.watchShutdown [.nsq] := by
  obtain ⟨b, h⟩ := s.watchShutdown_eq_setNsq
  rw [h]
  exact s.setNsq_kept b

theorem State.rampArrives_kept : KeptBut s s.rampArrives [.blu] := by
  rcases s.rampArrives_cases with h | h <;> rw [h]
  · exact KeptBut.refl _ _
  · exact s.setBlu_kept _

theorem State.computeShares_kept : KeptBut s s.computeShares [.she, .stu] := by
  rcases s.computeShares_cases with h | ⟨r, h⟩ <;> rw [h]
  · exact KeptBut.refl _ _
  · exact ((s.setShe_kept r).mono (by decide)).putStatus (by decide) _ _

/-- What the stored record gives its readers at once. -/
theorem State.storeDemand_given : (s.storeDemand words).given = demandOfPayload words :=
  State.given_of_present rfl (s.storeDemand_demandLost words)

/-- The arrival as far as SYNC exit, in the AXLE role (R1, R22, R66). -/
theorem State.demandTaken_axle (h : s.role = some .axle) : s.demandTaken words
    = ((((s.storeDemand words).setShe (computeShare s.ownMember s.ptb.entries (demandOfPayload words).d
        (demandOfPayload words).v (demandOfPayload words).aux (vLo s.mpt.copy) (vHi s.mpt.copy))).reportShortBrake).setBlu
          s.blu.demandArrives).watchShutdown := by
  have hrole : (s.storeDemand words).role = some .axle := h
  unfold State.demandTaken State.computeShares
  rw [if_pos hrole, State.storeDemand_given]
  unfold State.rampArrives
  exact congrArg State.watchShutdown (if_pos hrole)

theorem State.demandTaken_other (h : s.role ≠ some .axle) : s.demandTaken words = (s.storeDemand words).watchShutdown := by
  have hrole : (s.storeDemand words).role ≠ some .axle := h
  unfold State.demandTaken State.computeShares State.rampArrives
  rw [if_neg hrole, if_neg hrole]

theorem State.demandTaken_kept : KeptBut s (s.demandTaken words) [.nsq, .ptb, .stu, .she, .blu] := by
  have hstore : KeptBut s (s.storeDemand words) [.nsq, .ptb, .stu, .she, .blu] :=
    ((s.setPtb_kept _).mono (by decide)).putStatus (by decide) _ _
  exact ((hstore.trans ((State.computeShares_kept _).mono (by decide))).trans ((State.rampArrives_kept _).mono
    (by decide))).trans ((State.watchShutdown_kept _).mono (by decide))

@[simp] theorem State.demandTaken_mpt : (s.demandTaken words).mpt = s.mpt := s.demandTaken_kept words .mpt (by decide)

theorem State.demandTaken_ptb :
    (s.demandTaken words).ptb = { s.ptb with demand := demandOfPayload words, demandTimer := Timer.started } := by
  simp [State.demandTaken, State.storeDemand]

theorem State.demandTaken_demandLost : (s.demandTaken words).status .demandLost = false := by
  have h : (s.demandTaken words).demandLost = false := by simp [State.demandTaken]
  exact h

end

/-- A DEMAND arrival taken, in SYNC, ACTIVE and WITHDRAWN, as an event: the record and its readers, then what follows. -/
theorem Follows.of_takeDemand (h : s.mpt.ringSeq < seqMax) (words : List Word) :
    Follows (s.demandTaken words) (s.takeDemand words).settle := by
  have htaken : (s.demandTaken words).mpt.ringSeq < seqMax := by simpa using h
  have hsync := Follows.of_demandEndsSync htaken
  exact hsync.trans (.of_settle fun _ => by rw [hsync.ringSeq]; exact htaken)

theorem clampInt_eq {lo hi : Int} (h : lo ≤ hi) (x : Int) : clampInt lo hi x = max lo (min x hi) := by
  unfold clampInt
  split_ifs <;> omega

theorem clampNat_eq (hi x : Nat) : clampNat hi x = min x hi := by
  unfold clampNat
  split_ifs <;> omega

theorem BlendUnit.demandArrives_ramp (b : BlendUnit) : b.demandArrives.ramp = if b.ramp = .down then .up else b.ramp := by
  unfold BlendUnit.demandArrives
  split <;> rfl

theorem BlendUnit.demandArrives_limits (b : BlendUnit) :
    b.demandArrives.limitM = b.limitM ∧ b.demandArrives.clampBinds = b.clampBinds := by
  unfold BlendUnit.demandArrives
  split <;> exact ⟨rfl, rfl⟩

/-- The AXLE role's part of an arrival. -/
theorem State.demandTaken_of_axle {words : List Word} (h : s.role = some .axle) :
    (s.demandTaken words).she = computeShare s.ownMember s.ptb.entries (demandOfPayload words).d (demandOfPayload words).v
        (demandOfPayload words).aux (vLo s.mpt.copy) (vHi s.mpt.copy)
      ∧ (s.demandTaken words).blu = s.blu.demandArrives
      ∧ (s.demandTaken words).status .shortBrake = ((s.demandTaken words).she.shortBrake || s.blu.clampBinds) := by
  rw [State.demandTaken_axle _ _ h]
  have hkept := State.watchShutdown_kept ((((s.storeDemand words).setShe (computeShare s.ownMember s.ptb.entries
    (demandOfPayload words).d (demandOfPayload words).v (demandOfPayload words).aux (vLo s.mpt.copy)
    (vHi s.mpt.copy))).reportShortBrake).setBlu s.blu.demandArrives)
  have hstu := hkept .stu (by decide)
  refine ⟨hkept .she (by decide), hkept .blu (by decide), ?_⟩
  rw [State.status, hstu, hkept .she (by decide)]
  exact State.putStatus_status_self _ _ _

theorem State.demandTaken_of_other {words : List Word} (h : s.role ≠ some .axle) :
    (s.demandTaken words).she = s.she ∧ (s.demandTaken words).blu = s.blu
      ∧ (s.demandTaken words).status .shortBrake = s.status .shortBrake := by
  rw [State.demandTaken_other _ _ h]
  have hkept := State.watchShutdown_kept (s.storeDemand words)
  have hstu := hkept .stu (by decide)
  refine ⟨hkept .she (by decide), hkept .blu (by decide), ?_⟩
  rw [State.status, hstu]
  exact State.putStatus_status_ne _ _ (by decide)

/-- Settles O7: the record and its readers as `demandTaken` leaves them; what follows keeps them. -/
theorem demandArrivalIsStored : Obligations.DemandArrivalIsStored := by
  intro s w1 w2 w3 w4 hr hs h
  let words := [w1, w2, w3, w4]
  let g := s.goodFrameEnds 0
  have hseq : g.mpt.ringSeq < seqMax := by simpa [g] using h
  have hf := Follows.of_takeDemand hseq words
  have hptb : (g.takeDemand words).settle.ptb
      = { s.ptb with demand := demandOfPayload words, demandTimer := Timer.started } := by
    rw [hf.ptb, State.demandTaken_ptb]
    simp [g]
  have hkept := g.demandTaken_kept words
  have hstp : (g.demandTaken words).stp = s.stp := (hkept .stp (by decide)).trans (s.goodFrameEnds_stp 0)
  have hplu : (g.demandTaken words).plu = s.plu := (hkept .plu (by decide)).trans (s.goodFrameEnds_plu 0)
  have hlimits : (g.demandTaken words).blu.limitM = s.blu.limitM ∧ (g.demandTaken words).blu.clampBinds = s.blu.clampBinds := by
    by_cases haxle : g.role = some .axle
    · rw [(State.demandTaken_of_axle haxle).2.1, State.goodFrameEnds_blu]
      exact s.blu.demandArrives_limits
    · rw [(State.demandTaken_of_other haxle).2.1, State.goodFrameEnds_blu]
      exact ⟨rfl, rfl⟩
  refine ⟨(g.takeDemand words).settle, exec_demandArrival_of_serves hr hs rfl, by rw [hptb]; rfl, by rw [hptb]; exact clampInt_eq (by decide) _,
    by rw [hptb]; exact clampNat_eq _ _, ?_, by rw [hptb]; rfl, by rw [hptb]; rfl, by rw [hptb]; rfl, by rw [hptb]; rfl, by rw [hptb],
    ?_, by rw [hptb], fun haxle => ?_, fun haxle => ?_, ?_, ?_, fun haxle => ?_, ?_, ?_, ?_, ?_, ?_⟩
  · rw [hptb]
    show ((clampInt 0 150 w3.toInt).toNat : Int) = _
    rw [clampInt_eq (by decide)]
    omega
  · rw [hf.status, State.demandTaken_demandLost]
  · obtain ⟨hshe, -, -⟩ := State.demandTaken_of_axle (words := words) ((s.goodFrameEnds_role 0).trans haxle)
    rw [hf.she, hshe, hptb]
    simp only [State.ownMember, State.goodFrameEnds_ownAddress, State.goodFrameEnds_blu, State.goodFrameEnds_ptb,
      State.goodFrameEnds_mpt]
  · obtain ⟨-, hblu, hshort⟩ := State.demandTaken_of_axle (words := words) ((s.goodFrameEnds_role 0).trans haxle)
    rw [State.goodFrameEnds_blu] at hblu hshort
    refine ⟨fun hdown => ?_, fun hdown => ?_, ?_⟩
    · rw [hf.ramp, hblu, BlendUnit.demandArrives_ramp, if_pos hdown]
    · rw [hf.ramp, hblu, BlendUnit.demandArrives_ramp, if_neg hdown]
    · rw [hf.status, hshort, hf.she, Bool.or_eq_true]
  · rw [hf.limitM]; exact hlimits.1
  · rw [hf.clampBinds]; exact hlimits.2
  · obtain ⟨hshe, hblu, hshort⟩ := State.demandTaken_of_other (words := words)
      (fun hg : g.role = some .axle => haxle ((s.goodFrameEnds_role 0).symm.trans hg))
    rw [hf.she, hf.ramp, hf.status, hshe, hblu, hshort, State.goodFrameEnds_she, State.goodFrameEnds_blu]
    exact ⟨rfl, rfl, State.goodFrameEnds_status _ _ (by decide)⟩
  · rw [hf.held0, hstp]
  · rw [hf.held1, hstp]
  · rw [hf.paF, hplu]
  · rw [hf.copy, State.demandTaken_mpt, State.goodFrameEnds_mpt]
  · rw [hf.eeprom, State.demandTaken_mpt, State.goodFrameEnds_mpt]

/-! ### A DEMAND frame that does not meet R39 -/

theorem exec_demandArrival_of_ignored {src : Address} {words : List Word} (hr : s.receives = true) (hlen : words.length ≤ 6)
    (hother : ¬ (src = 0 ∧ words.length = 4)) : exec (.demandArrival src words) s = .next (s.goodFrameEnds src).settle := by
  have hcarried : payloadCarried words = true := decide_eq_true hlen
  have hcounts : demandCounts src words = false := by
    simpa [demandCounts] using fun h => fun h' => hother ⟨h, h'⟩
  show execDemandArrival src words s = _
  simp only [execDemandArrival, hr, hcarried, hcounts, if_true, Bool.false_eq_true, if_false]

/-- Settles O8: such a frame ends as any good frame does, with CLASH at most. -/
theorem otherDemandIsIgnored : Obligations.OtherDemandIsIgnored := by
  intro s src words hr hlen hother h
  have hf : Follows (s.goodFrameEnds src) (s.goodFrameEnds src).settle := .of_settle fun _ => by simpa using h
  refine ⟨_, exec_demandArrival_of_ignored hr hlen hother, ?_, ?_, ?_, ?_, ?_, fun hsrc => ?_, fun hsrc => ?_, ?_⟩
  · rw [hf.ptb, State.goodFrameEnds_ptb]
  · rw [hf.ptb, State.goodFrameEnds_ptb]
  · rw [hf.status, State.goodFrameEnds_status _ _ (by decide)]
  · rw [hf.she, State.goodFrameEnds_she]
  · rw [hf.ptb, State.goodFrameEnds_ptb]
  · rw [hf.status, State.goodFrameEnds_clash]; simp [hsrc]
  · rw [hf.status, State.goodFrameEnds_clash]; simp [hsrc]
  · rw [hf.eeprom, State.goodFrameEnds_mpt]

/-! ### The onset of DEMAND_LOST (R41) -/

theorem State.loseDemand_kept (s : State) : KeptBut s s.loseDemand [.nsq, .ptb, .stu, .she, .blu] := by
  have hstore : KeptBut s ((s.setPtb { s.ptb with demandTimer := ⟨false, 50⟩ }).putStatus .demandLost true)
      [.nsq, .ptb, .stu, .she, .blu] := ((s.setPtb_kept _).mono (by decide)).putStatus (by decide) _ _
  unfold State.loseDemand
  dsimp only
  refine KeptBut.trans (hstore.trans ?_) ((State.setNsq_kept _ _).mono (by decide))
  rcases State.loseAxleDemand_cases ((s.setPtb { s.ptb with demandTimer := ⟨false, 50⟩ }).putStatus .demandLost true)
    with h | h <;> rw [h]
  · exact KeptBut.refl _ _
  · exact (((State.setShe_kept _ _).mono (by decide)).setBlu (by decide) _).putStatus (by decide) _ _

theorem State.loseDemand_nsq (s : State) : s.loseDemand.nsq = { s.nsq with hold := ⟨false, 0⟩, holdMet := false } := by
  have h : ∀ t : State, t.cancelHold.nsq = { t.nsq with hold := ⟨false, 0⟩, holdMet := false } := fun _ => rfl
  unfold State.loseDemand
  dsimp only
  rw [h, State.loseAxleDemand_nsq]
  rfl

theorem State.loseDemand_of_axle (h : s.role = some .axle) :
    s.loseDemand.she = ⟨0, 0, 0, false, false⟩ ∧ s.loseDemand.blu = { s.blu with ramp := .down }
      ∧ s.loseDemand.status .shortBrake = s.blu.clampBinds
      ∧ ∀ y, y ≠ .demandLost → y ≠ .shortBrake → s.loseDemand.status y = s.status y := by
  unfold State.loseDemand State.loseAxleDemand
  dsimp only
  have haxle : ((s.setPtb { s.ptb with demandTimer := ⟨false, 50⟩ }).putStatus .demandLost true).role = some .axle := h
  rw [if_pos haxle]
  refine ⟨rfl, rfl, ?_, fun y h1 h2 => ?_⟩
  · exact State.putStatus_status_self _ _ _
  · exact (State.putStatus_status_ne _ _ h2).trans (State.putStatus_status_ne _ _ h1)

theorem State.loseDemand_of_other (h : s.role ≠ some .axle) : s.loseDemand.she = s.she ∧ s.loseDemand.blu = s.blu
    ∧ ∀ y, y ≠ .demandLost → s.loseDemand.status y = s.status y := by
  unfold State.loseDemand State.loseAxleDemand
  dsimp only
  have hother : ((s.setPtb { s.ptb with demandTimer := ⟨false, 50⟩ }).putStatus .demandLost true).role ≠ some .axle := h
  rw [if_neg hother]
  exact ⟨rfl, rfl, fun y h1 => State.putStatus_status_ne _ _ h1⟩

/-- Settles O17: the onset moves no node between ACTIVE and WITHDRAWN, so that F alone is compared after it. -/
theorem demandLossIsRaised : Obligations.DemandLossIsRaised := by
  intro s e hset hs ht he
  have hdue : s.ptb.demandTimer.due 50 = true := by simp [ht, Timer.due, he]
  have hf := Follows.of_compareF s.loseDemand
  refine ⟨_, exec_demandTimerExpiry_of_due hs hdue, ?_⟩
  rw [hset.settle_loseDemand]
  refine ⟨hf.demandLost.trans s.loseDemand_demandLost, ?_, ?_, ?_, ?_, fun haxle => ?_, fun haxle => ?_, fun y h1 h2 => ?_, ?_, ?_⟩
  · rw [hf.ptb, State.loseDemand_ptb]
  · rw [hf.ptb, State.loseDemand_ptb]
  · rw [hf.ptb, State.loseDemand_ptb]
  · rw [State.compareF_nsq, State.loseDemand_nsq]
  · obtain ⟨hshe, hblu, hshort, -⟩ := State.loseDemand_of_axle haxle
    rw [State.compareF_she, State.compareF_blu, State.compareF_status]
    exact ⟨hshe, hblu, hshort⟩
  · obtain ⟨hshe, hblu, hother⟩ := State.loseDemand_of_other haxle
    rw [State.compareF_she, State.compareF_blu, State.compareF_status]
    exact ⟨hshe, hblu, hother _ (by decide)⟩
  · rw [State.compareF_status]
    by_cases haxle : s.role = some .axle
    · obtain ⟨-, -, -, hother⟩ := State.loseDemand_of_axle haxle
      exact hother y h1 h2
    · obtain ⟨-, -, hother⟩ := State.loseDemand_of_other haxle
      exact hother y h1
  · exact (s.loseDemand_kept.mono (by decide)).trans ((State.compareF_kept _).mono (by decide))
  · have hsli : s.loseDemand.sli = s.sli := s.loseDemand_kept .sli (by decide)
    rw [← hsli]
    exact hf.sli

end
end Sys2Proof.Machine
end

/-! # Shares, peers and received frames -/
section
namespace Sys2Proof.Machine

section
variable {c : Instr} {s t u : State}

/-! ### The share computation by the sign of the demand -/

theorem liveEntries_eq (es : List PeerEntry) : liveEntries es = es.filter fun e =>
    decide ((e.freshness = .fresh ∨ e.freshness = .stale)
      ∧ (e.reported = .known .active ∨ e.reported = .known .withdrawn)) := by
  refine List.filter_congr fun e _ => ?_
  obtain ⟨_, _, reported, freshness, _⟩ := e
  have hlive : ∀ f : Freshness, (f != .lost) = decide (f = .fresh ∨ f = .stale) := fun f => by cases f <;> rfl
  simp [PeerEntry.live, hlive, beq_eq_decide]

theorem peerMembers_eq (es : List PeerEntry) : peerMembers es = (liveEntries es).filterMap fun e => match e.part with
    | .axle _ pd pr fb q => some ⟨e.address, pd, pr, fb, q⟩
    | _ => none := by
  refine List.filterMap_congr fun e _ => ?_
  cases e.part <;> rfl

theorem deliverySum_eq (es : List PeerEntry) : deliverySum es = ((liveEntries es).map fun e => match e.part with
    | .pack po _ _ => po
    | .genset po _ _ => po
    | _ => 0).sum := by
  refine congrArg List.sum (List.map_congr_left fun e _ => ?_)
  cases e.part <;> rfl

theorem acceptanceSum_eq (es : List PeerEntry) : acceptanceSum es = ((liveEntries es).map fun e => match e.part with
    | .pack _ pa _ => pa
    | .genset _ pa _ => pa
    | _ => 0).sum := by
  refine congrArg List.sum (List.map_congr_left fun e _ => ?_)
  cases e.part <;> rfl

theorem weightSum_driveWeights (x : List Member) : weightSum (driveWeights x) = (x.map Member.pd).sum := by
  simp [weightSum, driveWeights, Function.comp_def]

/-- The friction share is the own friction part with the regen excess, cut at the own Fb, which SHORT_BRAKE tells (R18). -/
theorem brakingShare_sum (own : Member) (es : List PeerEntry) (b v aux lo hi : Nat) :
    let x := own :: peerMembers es
    let total := regenTotal b (fade lo hi v) x es aux
    let regen := splitResult total (regenWeights x) (own.address, own.pr)
    let friction := splitResult (b - total) (frictionWeights x) (own.address, own.fb * own.q / 100)
    let share := brakingShare own es b v aux lo hi
    share.r + share.f ≤ regen + friction ∧ (share.shortBrake = false → share.r + share.f = regen + friction)
      ∧ (share.shortBrake = true ↔ own.fb < friction + (regen - own.pr)
          ∨ weightSum (frictionWeights x) = 0 ∧ total < b) := by
  intro x total regen friction share
  have hr : share.r = min regen own.pr := rfl
  have hf : share.f = min (friction + (regen - own.pr)) own.fb := rfl
  have hshort : share.shortBrake = true ↔ own.fb < friction + (regen - own.pr)
      ∨ weightSum (frictionWeights x) = 0 ∧ total < b := by
    show (decide (own.fb < friction + (regen - own.pr))
      || (decide (weightSum (frictionWeights x) = 0) && decide (0 < b - total))) = true ↔ _
    simp only [Bool.or_eq_true, Bool.and_eq_true, decide_eq_true_eq, Nat.sub_pos_iff_lt]
  refine ⟨by omega, fun hno => ?_, hshort⟩
  have hcut : ¬ own.fb < friction + (regen - own.pr) := fun hcut => by
    rw [hshort.mpr (.inl hcut)] at hno
    cases hno
  omega

/-- Settles O13: the definitions of R5 to R20 by the sign of the demand. -/
theorem sharesFollowTheSignOfTheDemand : Obligations.SharesFollowTheSignOfTheDemand := by
  intro own es d v aux lo hi
  refine ⟨⟨?_, ?_, ?_, fun x => ⟨rfl, rfl, rfl⟩⟩, fun hd => ?_, fun hd => ?_, fun hd => ?_⟩
  · exact (peerMembers_eq es).trans (congrArg (List.filterMap _) (liveEntries_eq es))
  · exact (deliverySum_eq es).trans (congrArg (fun l => (List.map _ l).sum) (liveEntries_eq es))
  · exact (acceptanceSum_eq es).trans (congrArg (fun l => (List.map _ l).sum) (liveEntries_eq es))
  · rw [computeShare, if_pos hd]
    rfl
  · rw [computeShare, if_neg (by omega), if_pos hd]
    intro x total part
    have hpart : splitResult (tractionTotal d.toNat x es aux) (driveWeights x) (own.address, own.pd) = part := by
      rw [tractionTotal, weightSum_driveWeights]
    refine ⟨congrArg (min · own.pd) hpart, ?_, rfl, rfl, rfl⟩
    show decide (own.pd < splitResult (tractionTotal d.toNat x es aux) (driveWeights x) (own.address, own.pd)) = true ↔ _
    rw [hpart, decide_eq_true_eq]
  · rw [computeShare, if_neg (by omega), if_neg (by omega)]
    intro x total regen friction
    obtain ⟨hle, heq, hshort⟩ := brakingShare_sum own es (-d).toNat v aux lo hi
    exact ⟨rfl, rfl, decide_eq_true_iff, rfl, hle, heq, hshort⟩

/-! ### The age timers (R33) -/

/-- An expiry at the entry with an address, seen at one place of the list. -/
theorem State.ageEntry_getElem? (s : State) (a : Address) (f : PeerEntry → PeerEntry) (i : Nat) {e : PeerEntry}
    (h : s.ptb.entries[i]? = some e) : (s.ageEntry a f).ptb.entries[i]? = some (if e.address = a then f e else e) := by
  show (s.ptb.entries.map fun e => if e.address = a then f e else e)[i]? = _
  rw [List.getElem?_map, h]
  rfl

theorem State.ageEntry_frame (s : State) (a : Address) (f : PeerEntry → PeerEntry) :
    KeptBut s (s.ageEntry a f) [.ptb] ∧ (s.ageEntry a f).ptb.demand = s.ptb.demand
      ∧ (s.ageEntry a f).ptb.demandTimer = s.ptb.demandTimer
      ∧ (s.ageEntry a f).ptb.entries.length = s.ptb.entries.length :=
  ⟨s.setPtb_kept _, rfl, rfl, List.length_map _⟩

theorem PeerEntry.staleExpiry_of_not_due {e : PeerEntry} (h : e.freshness ≠ .fresh ∨ e.ageTimer.elapsed < 60) :
    e.staleExpiry = e := by
  unfold PeerEntry.staleExpiry
  rw [if_neg]
  rintro ⟨hf, hd⟩
  simp only [Timer.due, Bool.and_eq_true, decide_eq_true_eq] at hd
  rcases h with h | h
  · exact h hf
  · omega

theorem PeerEntry.lostExpiry_of_not_due {e : PeerEntry} (h : e.freshness ≠ .stale ∨ e.ageTimer.elapsed < 200) :
    e.lostExpiry = e := by
  unfold PeerEntry.lostExpiry
  rw [if_neg]
  rintro ⟨hf, hd⟩
  simp only [Timer.due, Bool.and_eq_true, decide_eq_true_eq] at hd
  rcases h with h | h
  · exact h hf
  · omega

/-- Settles O16, expiry by expiry. -/
theorem ageExpiriesMoveFreshness : Obligations.AgeExpiriesMoveFreshness := by
  rintro s a hs c (rfl | rfl)
  · obtain ⟨hkept, hdemand, htimer, hlength⟩ := s.ageEntry_frame a PeerEntry.staleExpiry
    refine ⟨s.ageEntry a PeerEntry.staleExpiry, ?_, hkept, hdemand, htimer, hlength, fun i e he =>
      ⟨_, s.ageEntry_getElem? a _ i he, ?_, fun hc => (by cases hc), fun ha => if_neg ha, ?_, fun hc => (by cases hc)⟩⟩
    · show execAgeTimerStale a s = _
      rw [execAgeTimerStale, if_pos hs]
    · rintro - ⟨ha, hf, hr, he⟩
      rw [if_pos ha, PeerEntry.staleExpiry, if_pos ⟨hf, by simp [Timer.due, hr, he]⟩]
    · rintro - hn
      rw [PeerEntry.staleExpiry_of_not_due hn, ite_self]
  · obtain ⟨hkept, hdemand, htimer, hlength⟩ := s.ageEntry_frame a PeerEntry.lostExpiry
    refine ⟨s.ageEntry a PeerEntry.lostExpiry, ?_, hkept, hdemand, htimer, hlength, fun i e he =>
      ⟨_, s.ageEntry_getElem? a _ i he, fun hc => (by cases hc), ?_, fun ha => if_neg ha, fun hc => (by cases hc), ?_⟩⟩
    · show execAgeTimerLost a s = _
      rw [execAgeTimerLost, if_pos hs]
    · rintro - ⟨ha, hf, hr, he⟩
      rw [if_pos ha, PeerEntry.lostExpiry, if_pos ⟨hf, by simp [Timer.due, hr, he]⟩]
    · rintro - hn
      rw [PeerEntry.lostExpiry_of_not_due hn, ite_self]

end
end Sys2Proof.Machine
end

/-! # Frames received and STATE frames sent (R26 to R32, R142 to R147, R151) -/
section
namespace Sys2Proof.Machine

section
variable {c : Instr} {s t u : State}

/-! ### The operating state after an event (R136) -/

theorem State.withdraws_of_status {x : Status} (hx : statusIn withdrawingSet x = true) (h : s.status x = true) :
    s.withdraws = true := by
  rw [State.withdraws, bne_iff_ne]
  intro hzero
  have hin : statusIn (s.stu.set &&& withdrawingSet) x = true := by rw [statusIn_and, hx, Bool.and_true]; exact h
  rw [hzero] at hin
  simp [statusIn] at hin

/-- The operating state and the lines at entry to ACTIVE or WITHDRAWN (R136, R137). -/
theorem State.enterServing_lines (h : s.role = some .genset → s.mpt.ringSeq < seqMax) (op : OpState) :
    (s.enterServing op).nsq.op = op ∧ (s.enterServing op).pins.ready = true
      ∧ (s.enterServing op).pins.traction = (op == .active) := by
  have hnsq : (s.takeOp op).requestPrompt.nsq.op = op := by rw [State.requestPrompt_nsq, State.takeOp_nsq]
  have hpins : (s.takeOp op).requestPrompt.pins = { s.pins with ready := true, traction := op == .active } := by
    rw [State.requestPrompt_pins, State.takeOp_pins]
  rw [State.enterServing_eq]
  split
  · next hg =>
    have hr : s.role = some .genset := by
      rw [← hg.2]
      simp only [State.role, State.requestPrompt_nsq, State.takeOp_nsq]
    have hkept := State.engineWithdrawn_kept (s := (s.takeOp op).requestPrompt)
      (by rw [State.requestPrompt_mpt, s.takeOp_kept op .mpt (by decide)]; exact h hr)
    rw [hkept .nsq (by decide), hkept .pins (by decide), hnsq, hpins]
    exact ⟨rfl, rfl, rfl⟩
  · rw [hnsq, hpins]
    exact ⟨rfl, rfl, rfl⟩

theorem State.compareF_op (s : State) : s.compareF.nsq.op = s.nsq.op := by rw [State.compareF_nsq]

/-- A node in ACTIVE with a withdrawing status set withdraws at the end of the event (R136, R137). -/
theorem State.settle_withdraws (h : s.role = some .genset → s.mpt.ringSeq < seqMax) (hop : s.nsq.op = .active)
    (hw : s.withdraws = true) :
    s.settle.nsq.op = .withdrawn ∧ s.settle.pins.ready = true ∧ s.settle.pins.traction = false := by
  have hd : s.decideOp = s.enterServing .withdrawn := by unfold State.decideOp; rw [hop, hw]; rfl
  obtain ⟨h1, h2, h3⟩ := State.enterServing_lines h .withdrawn
  unfold State.settle
  rw [hd, State.compareF_nsq, State.compareF_pins]
  exact ⟨h1, h2, h3⟩

/-- A node in WITHDRAWN with no withdrawing status set returns to ACTIVE at the end of the event (R136, R137). -/
theorem State.settle_returns (h : s.role = some .genset → s.mpt.ringSeq < seqMax) (hop : s.nsq.op = .withdrawn)
    (hw : s.withdraws = false) :
    s.settle.nsq.op = .active ∧ s.settle.pins.ready = true ∧ s.settle.pins.traction = true := by
  have hd : s.decideOp = s.enterServing .active := by unfold State.decideOp; rw [hop, hw]; rfl
  obtain ⟨h1, h2, h3⟩ := State.enterServing_lines h .active
  unfold State.settle
  rw [hd, State.compareF_nsq, State.compareF_pins]
  exact ⟨h1, h2, h3⟩

/-! ### Bad frames (R144, R147) -/

/-- The end of a bad frame before the event is ended. -/
def State.badFrameCounted (s : State) : State :=
  let t := s.frameEnds.setSli { s.frameEnds.sli with rxErrors := min (s.sli.rxErrors + 1) 65535 }
  if s.sli.rxErrors = 19 then t.putStatus .linkNoisy true else t

theorem State.badFrameEnds_eq (s : State) : s.badFrameEnds = s.badFrameCounted.settle := rfl

theorem State.badFrameCounted_kept (s : State) : KeptBut s s.badFrameCounted [.stu, .sli] := by
  unfold State.badFrameCounted
  dsimp only
  have hsli : KeptBut s (s.frameEnds.setSli { s.frameEnds.sli with rxErrors := min (s.sli.rxErrors + 1) 65535 })
      [.stu, .sli] := KeptBut.setSli ((s.setSli_kept _).mono (by decide)) (by decide) _
  split
  · exact hsli.putStatus (by decide) _ _
  · exact hsli

theorem State.badFrameCounted_sli (s : State) : s.badFrameCounted.sli
    = { s.sli with line := .waitIdle 0, rxErrors := min (s.sli.rxErrors + 1) 65535 } := by
  unfold State.badFrameCounted
  dsimp only
  split <;> rfl

theorem State.badFrameCounted_status (s : State) (y : Status) : s.badFrameCounted.status y
    = if y = .linkNoisy ∧ s.sli.rxErrors = 19 then true else s.status y := by
  unfold State.badFrameCounted
  dsimp only
  split
  · next h =>
    by_cases hy : y = .linkNoisy
    · rw [hy, if_pos ⟨rfl, h⟩]; exact State.putStatus_status_self _ _ _
    · rw [if_neg fun hc => hy hc.1]; exact (State.putStatus_status_ne _ _ hy).trans rfl
  · next h => rw [if_neg fun hc => h hc.2]; rfl

theorem State.badFrameCounted_withdraws (s : State) : s.badFrameCounted.withdraws = s.withdraws := by
  unfold State.badFrameCounted
  dsimp only
  split
  · exact State.putStatus_withdraws _ _ (by decide)
  · rfl

/-- No status of a bad frame withdraws, so that F alone is compared. -/
theorem Settled.badFrameEnds (h : Settled s) : s.badFrameEnds = s.badFrameCounted.compareF :=
  h.settle_eq (congrArg Sequencer.op (s.badFrameCounted_kept .nsq (by decide))) s.badFrameCounted_withdraws

/-- A service request's meaning, whatever its code. -/
theorem exec_of_serviceOf {src target : Address} {code : Nat} {args : List Word}
    (h : serviceOf c = some (src, target, code, args)) :
    ∃ carry, exec c s = .next (s.serviceRequest src target code args carry) := by
  cases c
  case unsupportedRequest src' target' code' args' =>
    rw [serviceOf] at h
    split at h
    · cases h
    · next hc =>
      cases h
      have hcode : ¬ (1 ≤ code'.toNat ∧ code'.toNat ≤ 13) := by simpa [codeSupported] using hc
      refine ⟨fun t _ => t, ?_⟩
      show execUnsupportedRequest _ _ _ _ s = _
      rw [execUnsupportedRequest, if_neg hcode]
  all_goals
    cases h
    try exact ⟨_, rfl⟩

theorem State.serviceRequest_of_not_receives {src target : Address} {code : Nat} {args : List Word}
    {carry : State → Nat → State} (h : s.receives = false) : s.serviceRequest src target code args carry = s := by
  unfold State.serviceRequest
  rw [h]
  rfl

/-- Settles O18: the count, the window and the two conditions of R142. -/
theorem badFramesAreCounted : Obligations.BadFramesAreCounted := by
  intro s hset
  refine ⟨fun hr => ?_, fun hr he => ?_, s.receives_iff, fun hr => ?_⟩
  · refine ⟨s.badFrameCounted.compareF, ?_, ?_, fun h => ?_, fun h => ?_, fun y hy => ?_, ?_, ?_⟩
    · show execBadFrame s = _
      rw [execBadFrame, if_pos hr, hset.badFrameEnds]
    · have hp := State.compareF_prompt s.badFrameCounted
      rcases hp with hp | hp <;> rw [hp, State.badFrameCounted_sli]
    · rw [State.compareF_status, State.badFrameCounted_status, if_pos ⟨rfl, h⟩]
    · rw [State.compareF_status, State.badFrameCounted_status, if_neg fun hc => h hc.2]
    · rw [State.compareF_status, State.badFrameCounted_status, if_neg fun hc => hy hc.1]
    · exact s.badFrameCounted_kept.trans (State.compareF_kept _)
    · rw [← State.badFrameCounted_sli]
      exact State.compareF_prompt _
  · refine ⟨s.setSli { s.sli with rxErrors := 0, window := Timer.started }, ?_, rfl, s.setSli_kept _⟩
    show execWindowTimerExpiry s = _
    rw [execWindowTimerExpiry, if_pos (by simp [Timer.due, hr, he])]
  · have hno : ¬ s.receives = true := by rw [hr]; decide
    refine ⟨congrArg Host.Outcome.next (if_neg hno), fun src words => ⟨congrArg Host.Outcome.next (if_neg hno),
      congrArg Host.Outcome.next (if_neg hno), congrArg Host.Outcome.next (if_neg hno), fun c target code hc => ?_⟩⟩
    obtain ⟨carry, hexec⟩ := exec_of_serviceOf (s := s) hc
    rw [hexec, State.serviceRequest_of_not_receives hr]

/-! ### STATE arrivals (R26 to R32) -/

theorem reportedOfCode_eq_known {n : Nat} {op : OpState} : reportedOfCode n = .known op ↔ n = op.code := by
  rcases n with _ | _ | _ | _ | _ | _ | n <;> cases op <;> simp [reportedOfCode, OpState.code]

theorem stateFits_iff (words : List Word) : stateFits words = true ↔
    ∃ role, roleOfCode ((wordAt words 0).extractLsb' 14 2).toNat = some role ∧ words.length = stateLength role := by
  unfold stateFits
  cases roleOfCode ((wordAt words 0).extractLsb' 14 2).toNat <;> simp

/-- The role part of a good STATE payload is the one of the role that its length names (R28, R144). -/
theorem rolePartOfPayload_of_length {words : List Word} (h : stateFits words = true) {role : Role}
    (hl : words.length = stateLength role) : roleOfCode ((wordAt words 0).extractLsb' 14 2).toNat = some role := by
  obtain ⟨r, hr, hlr⟩ := (stateFits_iff words).mp h
  rw [hr]
  rw [hl] at hlr
  cases role <;> cases r <;> first | rfl | exact absurd hlr (by decide)

/-- The role part that a payload of a role's length gives. -/
def rolePart (words : List Word) : Role → RolePart
  | .axle => .axle (max (-1000) (min (wordAt words 5).toInt 1000)) (min (wordAt words 1).toNat 1000)
      (min (wordAt words 2).toNat 1000) (min (wordAt words 3).toNat 1000) (min (wordAt words 4).toNat 100)
  | .pack => .pack (min (wordAt words 1).toNat 1000) (min (wordAt words 2).toNat 1000) (min (wordAt words 3).toNat 1000)
  | .genset => .genset (min (wordAt words 1).toNat 1000) (min (wordAt words 2).toNat 1000)
      (engineOfCode ((wordAt words 0).extractLsb' 6 3).toNat)

theorem rolePartOfPayload_eq {words : List Word} {role : Role}
    (h : roleOfCode ((wordAt words 0).extractLsb' 14 2).toNat = some role) :
    rolePartOfPayload words = rolePart words role := by
  cases role <;>
    simp only [rolePartOfPayload, rolePart, h, clampNat_eq, clampInt_eq (show (-1000 : Int) ≤ 1000 by decide)]

theorem engineOfCode_spec (n : Nat) : (n ≤ 5 → (engineOfCode n).code = n) ∧ (6 ≤ n → engineOfCode n = .faulted) := by
  rcases n with _ | _ | _ | _ | _ | _ | n <;> simp [engineOfCode, EngineState.code]

theorem hasEntry_iff (es : List PeerEntry) (a : Address) : hasEntry es a = true ↔ ∃ e ∈ es, e.address = a := by
  simp [hasEntry]

theorem State.takeState_kept (s : State) (src : Address) (words : List Word) :
    KeptBut s (s.takeState src words) [.ptb, .stu] := by
  unfold State.takeState
  dsimp only
  split
  · exact (s.setPtb_kept _).mono (by decide)
  · split
    · exact ((s.setPtb_kept _).mono (by decide)).putStatus (by decide) _ _
    · exact (s.putStatus_kept _ _).mono (by decide)

theorem State.takeState_demand (s : State) (src : Address) (words : List Word) :
    (s.takeState src words).ptb.demand = s.ptb.demand
      ∧ (s.takeState src words).ptb.demandTimer = s.ptb.demandTimer := by
  unfold State.takeState
  dsimp only
  split
  · exact ⟨rfl, rfl⟩
  · split <;> exact ⟨rfl, rfl⟩

theorem State.takeState_status (s : State) (src : Address) (words : List Word) {y : Status} (hy : y ≠ .tableFull) :
    (s.takeState src words).status y = s.status y := by
  unfold State.takeState
  dsimp only
  split
  · rfl
  · split
    · exact (State.putStatus_status_ne _ _ hy).trans rfl
    · exact State.putStatus_status_ne _ _ hy

theorem State.takeState_withdraws (s : State) (src : Address) (words : List Word) :
    (s.takeState src words).withdraws = s.withdraws := by
  unfold State.takeState
  dsimp only
  split
  · rfl
  · split
    · exact State.putStatus_withdraws _ _ (by decide)
    · exact State.putStatus_withdraws _ _ (by decide)

section
variable {src : Address} {words : List Word}

theorem State.takeState_of_held (h : ∃ e ∈ s.ptb.entries, e.address = src) :
    s.takeState src words
      = s.setPtb { s.ptb with entries := putEntry s.ptb.entries (entryOfPayload src words) } :=
  if_pos ((hasEntry_iff _ _).mpr h)

theorem State.takeState_of_new (h : ∀ e ∈ s.ptb.entries, e.address ≠ src) (hroom : s.ptb.entries.length < 12) :
    s.takeState src words = (s.setPtb { s.ptb with
      entries := s.ptb.entries ++ [entryOfPayload src words] }).putStatus .tableFull false := by
  have hnew : ¬ hasEntry s.ptb.entries src = true := fun hc => by
    obtain ⟨e, he, ha⟩ := (hasEntry_iff _ _).mp hc
    exact h e he ha
  unfold State.takeState
  dsimp only
  rw [if_neg hnew]
  exact if_pos hroom

theorem State.takeState_of_full (h : ∀ e ∈ s.ptb.entries, e.address ≠ src) (hfull : 12 ≤ s.ptb.entries.length) :
    s.takeState src words = s.putStatus .tableFull true := by
  have hnew : ¬ hasEntry s.ptb.entries src = true := fun hc => by
    obtain ⟨e, he, ha⟩ := (hasEntry_iff _ _).mp hc
    exact h e he ha
  unfold State.takeState
  dsimp only
  rw [if_neg hnew]
  exact if_neg (Nat.not_lt.mpr hfull)

end

/-- A good STATE frame from a peer's address is taken, and F compared. -/
theorem exec_stateArrival_of_peer {src : Address} {words : List Word} (hset : Settled s) (hr : s.receives = true)
    (hs : s.serves = true) (hf : stateFits words = true) (h0 : src ≠ 0) (h15 : src ≠ 15) (hown : src ≠ s.ownAddress) :
    exec (.stateArrival src words) s = .next (s.frameEnds.takeState src words).compareF := by
  have hpeer : (s.frameEnds.serves && s.frameEnds.isPeer src) = true := by
    simpa [State.isPeer, hs] using ⟨⟨h0, h15⟩, hown⟩
  have hsettle : (s.frameEnds.takeState src words).settle = (s.frameEnds.takeState src words).compareF :=
    hset.settle_eq (congrArg Sequencer.op (State.takeState_kept _ _ _ .nsq (by decide)))
      (State.takeState_withdraws _ _ _)
  show execStateArrival src words s = _
  simp only [execStateArrival, hr, hf, State.goodFrameEnds_of_other hown, if_true, hpeer, hsettle]

/-- Settles O15: the entry's fields, then the three cases of R29 to R32. -/
theorem stateArrivalTakesAPeer : Obligations.StateArrivalTakesAPeer := by
  intro s src words hset hr hs hf h0 h15 hown
  have hkept := s.frameEnds.takeState_kept src words
  have hcompare := State.compareF_prompt (s.frameEnds.takeState src words)
  refine ⟨_, entryOfPayload src words, exec_stateArrival_of_peer hset hr hs hf h0 h15 hown, rfl, rfl, rfl,
    fun h pd pr fb q p hw => ?_, fun h po pa soc p hw => ?_, fun h po pa p hw => ?_, fun op => reportedOfCode_eq_known,
    fun hheld => ?_, fun hnew hroom => ?_, fun hnew hfull => ?_, ?_, ?_, fun y hy => ?_, ?_, ?_⟩
  · have hrole := rolePartOfPayload_of_length (role := .axle) hf (by rw [hw]; rfl)
    subst hw
    exact rolePartOfPayload_eq hrole
  · have hrole := rolePartOfPayload_of_length (role := .pack) hf (by rw [hw]; rfl)
    subst hw
    exact rolePartOfPayload_eq hrole
  · have hrole := rolePartOfPayload_of_length (role := .genset) hf (by rw [hw]; rfl)
    obtain ⟨hlow, hhigh⟩ := engineOfCode_spec (h.extractLsb' 6 3).toNat
    refine ⟨engineOfCode (h.extractLsb' 6 3).toNat, ?_, hlow, hhigh⟩
    subst hw
    exact rolePartOfPayload_eq hrole
  · rw [State.compareF_ptb, State.compareF_status, State.takeState_of_held (s := s.frameEnds) hheld]
    exact ⟨rfl, rfl⟩
  · rw [State.compareF_ptb, State.compareF_status, State.takeState_of_new (s := s.frameEnds) hnew hroom]
    exact ⟨rfl, State.putStatus_status_self _ _ _⟩
  · rw [State.compareF_ptb, State.compareF_status, State.takeState_of_full (s := s.frameEnds) hnew hfull]
    exact ⟨rfl, State.putStatus_status_self _ _ _⟩
  · rw [State.compareF_ptb]; exact (s.frameEnds.takeState_demand src words).1
  · rw [State.compareF_ptb]; exact (s.frameEnds.takeState_demand src words).2
  · rw [State.compareF_status, State.takeState_status _ _ _ hy]; rfl
  · have hends : KeptBut s s.frameEnds [.ptb, .stu, .sli] := (s.setSli_kept _).mono (by decide)
    exact (hends.trans (hkept.mono (by decide))).trans ((State.compareF_kept _).mono (by decide))
  · have hsli : (s.frameEnds.takeState src words).sli = { s.sli with line := .waitIdle 0 } := hkept .sli (by decide)
    rw [← hsli]
    exact hcompare

/-! ### CLASH (R146) -/

/-- A service request that is not the node's to take ends as a good frame does. -/
theorem State.serviceRequest_of_elsewhere {src target : Address} {code : Nat} {args : List Word}
    {carry : State → Nat → State} (hr : s.receives = true) (ha : args.length ≤ 5) (h : s.serves = false ∨ src ≠ 15) :
    s.serviceRequest src target code args carry = (s.goodFrameEnds src).settle := by
  have hplace : (s.goodFrameEnds src).requestPlace src target code = none := by
    unfold State.requestPlace
    rw [State.goodFrameEnds_serves]
    rcases h with h | h
    · simp [h]
    · rw [beq_eq_false_iff_ne.mpr h]
      simp
  unfold State.serviceRequest
  rw [if_pos hr, if_pos (show argumentsCarried args = true from decide_eq_true ha)]
  dsimp only
  rw [hplace]

/-- The frames of R146 that are handed to no block end as a good frame does. -/
theorem exec_unhanded {src : Address} {words : List Word} (hr : s.receives = true)
    (hc : c = .svcReplyArrival src words ∧ 1 ≤ words.length ∧ words.length ≤ 6
      ∨ c = .stateArrival src words ∧ stateFits words = true ∧ src = s.ownAddress
      ∨ (∃ target code, serviceOf c = some (src, target, code, words)) ∧ words.length ≤ 5 ∧ src = s.ownAddress
        ∧ (s.serves = false ∨ src ≠ 15)
      ∨ c = .demandArrival src words ∧ words.length ≤ 6 ∧ src = s.ownAddress
        ∧ (¬ (src = 0 ∧ words.length = 4) ∨ s.serves = false ∧ s.nsq.op ≠ .standby)) :
    exec c s = .next (s.goodFrameEnds src).settle := by
  rcases hc with ⟨rfl, h1, h6⟩ | ⟨rfl, hf, hown⟩ | ⟨⟨target, code, hc⟩, h5, -, hother⟩ | ⟨rfl, h6, -, hother⟩
  · have hcarried : (payloadCarried words && !words.isEmpty) = true := by
      rw [payloadCarried, decide_eq_true h6, Bool.true_and, Bool.not_eq_true', List.isEmpty_eq_false_iff]
      exact List.length_pos_iff.mp h1
    show execSvcReplyArrival src words s = _
    rw [execSvcReplyArrival, if_pos hr, if_pos hcarried]
  · have hpeer : ((s.goodFrameEnds src).serves && (s.goodFrameEnds src).isPeer src) = false := by
      simp [State.isPeer, hown]
    show execStateArrival src words s = _
    simp only [execStateArrival, hr, hf, if_true, hpeer, Bool.false_eq_true, if_false]
  · obtain ⟨carry, hexec⟩ := exec_of_serviceOf (s := s) hc
    rw [hexec, State.serviceRequest_of_elsewhere hr h5 hother]
  · have hcarried : payloadCarried words = true := decide_eq_true h6
    by_cases hcounts : src = 0 ∧ words.length = 4
    · obtain ⟨hs, hop⟩ := hother.resolve_left (not_not_intro hcounts)
      have hstandby : ¬ ((s.goodFrameEnds src).nsq.op = .standby ∧ (demandOfPayload words).shutdown = false) := by
        rw [State.goodFrameEnds_nsq]; exact fun h => hop h.1
      have hd : demandCounts src words = true := by simp [demandCounts, hcounts]
      show execDemandArrival src words s = _
      simp only [execDemandArrival, hr, hcarried, hd, State.goodFrameEnds_serves, hs, if_true, Bool.false_eq_true, if_false,
        hstandby]
    · exact exec_demandArrival_of_ignored hr h6 hcounts

/-- Settles O19: what ends such a frame, with withdrawal where the source is the node's own address. -/
theorem ownAddressLatchesClash : Obligations.OwnAddressLatchesClash := by
  intro s src words c hset hr h hc
  have hseq : (s.goodFrameEnds src).mpt.ringSeq < seqMax := by rw [State.goodFrameEnds_mpt]; exact h
  have hf : Follows (s.goodFrameEnds src) (s.goodFrameEnds src).settle := .of_settle fun _ => hseq
  refine ⟨_, exec_unhanded hr hc, ?_, ?_, ?_, ?_, ?_, ?_, ?_, fun y hy => ?_, fun hown => ⟨?_, fun hop => ?_, fun hop => ?_⟩,
    fun hown => ?_⟩
  · rw [hf.ptb, State.goodFrameEnds_ptb]
  · rw [hf.she, State.goodFrameEnds_she]
  · rw [hf.held0, State.goodFrameEnds_stp]
  · rw [hf.held1, State.goodFrameEnds_stp]
  · rw [hf.eeprom, State.goodFrameEnds_mpt]
  · rw [hf.copy, State.goodFrameEnds_mpt]
  · rw [hf.wau, State.goodFrameEnds_wau]
  · rw [hf.status, State.goodFrameEnds_status _ _ hy]
  · rw [hf.status, State.goodFrameEnds_clash]; simp [hown]
  · have hclash : (s.goodFrameEnds src).status .clash = true := by rw [State.goodFrameEnds_clash]; simp [hown]
    obtain ⟨h1, h2, h3⟩ := State.settle_withdraws (s := s.goodFrameEnds src) (fun _ => hseq)
      (by rw [State.goodFrameEnds_nsq]; exact hop) (State.withdraws_of_status (by decide) hclash)
    exact ⟨h1, h3, h2⟩
  · have hclash : (s.goodFrameEnds src).status .clash = true := by rw [State.goodFrameEnds_clash]; simp [hown]
    rw [State.settle_eq_compareF, State.compareF_nsq, State.goodFrameEnds_nsq]
    · rw [State.goodFrameEnds_nsq]; exact fun ha => absurd ha hop
    · exact fun _ => State.withdraws_of_status (by decide) hclash
  · have hends : (s.goodFrameEnds src).settle = s.frameEnds.compareF := by
      rw [State.goodFrameEnds_of_other hown]
      exact hset.settle_eq rfl rfl
    rw [hends]
    refine ⟨State.compareF_status _ _, by rw [State.compareF_nsq]; rfl, ?_, State.compareF_prompt _⟩
    exact ((s.setSli_kept _).mono (by decide)).trans (State.compareF_kept _)

/-! ### STATE frames sent and read back (R28, R29, R143 to R145, R151) -/

/-- The fields of a STATE header word (Table 8.8-2). -/
theorem stateHeader_fields (role : Role) (op : OpState) (f w : Bool) {bits : Nat} (h : bits < 8) :
    ((stateHeader role op f w bits).extractLsb' 14 2).toNat = role.code
      ∧ ((stateHeader role op f w bits).extractLsb' 11 3).toNat = op.code
      ∧ ((stateHeader role op f w bits).extractLsb' 6 3).toNat = bits := by
  have hrole : role.code < 4 := by cases role <;> decide
  have hop : op.code < 8 := by cases op <;> decide
  have hf : bitOf f ≤ 1 := by cases f <;> decide
  have hw : bitOf w ≤ 1 := by cases w <;> decide
  simp only [stateHeader, BitVec.extractLsb'_toNat, BitVec.toNat_ofNat, Nat.shiftRight_eq_div_pow]
  omega

theorem roleOfCode_code (role : Role) : roleOfCode role.code = some role := by cases role <;> rfl

theorem State.statePayload_header (s : State) (role : Role) : ∃ bits, bits < 8
    ∧ wordAt (s.statePayload role) 0 = stateHeader role s.nsq.op s.fBit s.wBit bits
    ∧ (role = .genset → bits = s.gsc.engine.code) := by
  cases role
  · refine ⟨bitOf s.blu.own.slip * 4, ?_, rfl, nofun⟩
    cases s.blu.own.slip <;> decide
  · exact ⟨0, by decide, rfl, nofun⟩
  · refine ⟨s.gsc.engine.code, ?_, rfl, fun _ => rfl⟩
    cases s.gsc.engine <;> decide

theorem State.statePayload_length (s : State) (role : Role) : (s.statePayload role).length = stateLength role := by
  cases role <;> rfl

theorem State.statePayload_roleCode (s : State) (role : Role) :
    roleOfCode ((wordAt (s.statePayload role) 0).extractLsb' 14 2).toNat = some role := by
  obtain ⟨bits, hbits, hheader, -⟩ := s.statePayload_header role
  rw [hheader, (stateHeader_fields _ _ _ _ hbits).1, roleOfCode_code]

theorem makeFrame_arrival_state (u : BitVec 3) (a : Address) {words : List Word} (h : stateFits words = true)
    (hl : words.length ≤ 6) : (makeFrame u a 1#3 words).arrival = .stateArrival a words := by
  have hgood : (makeFrame u a 1#3 words).good = true := by
    have hkind : (makeFrame u a 1#3 words).kind.toNat = 1 := rfl
    simp only [Frame.good, hkind]
    simp [makeFrame, hl, h]
  unfold Frame.arrival
  rw [if_pos hgood]
  rfl

theorem engineOfCode_code (e : EngineState) : engineOfCode e.code = e := by cases e <;> rfl

theorem toNat_ofNat_of_le {n : Nat} (h : n ≤ 1000) : min (BitVec.ofNat 16 n).toNat 1000 = n := by
  rw [BitVec.toNat_ofNat]
  omega

theorem toInt_ofInt_of_le {p : Int} (h1 : -1000 ≤ p) (h2 : p ≤ 1000) :
    max (-1000) (min (BitVec.ofInt 16 p).toInt 1000) = p := by
  rw [BitVec.toInt_ofInt, Int.bmod_eq_of_le (by omega) (by omega)]
  omega

/-- Settles O59: the header's fields and the clamped words give back what the sender put there. -/
theorem sentStateFramesAreReadBack : Obligations.SentStateFramesAreReadBack := by
  intro s role _
  have hcode := s.statePayload_roleCode role
  obtain ⟨bits, hbits, hheader, hengine⟩ := s.statePayload_header role
  obtain ⟨-, hop, hfield⟩ := stateHeader_fields role s.nsq.op s.fBit s.wBit hbits
  refine ⟨?_, ?_, fun hr hpd hpr hfb hq hp hp' => ?_, fun hr hpo hpa hsoc => ?_, fun hr hpo hpa => ?_⟩
  · refine makeFrame_arrival_state _ _ ((stateFits_iff _).mpr ⟨role, hcode, s.statePayload_length role⟩) ?_
    rw [s.statePayload_length]
    cases role <;> decide
  · rw [reportedOfPayload, hheader]
    exact reportedOfCode_eq_known.mpr hop
  · subst hr
    rw [rolePartOfPayload_eq hcode]
    simp only [rolePart, State.statePayload, wordAt, List.getD_cons_succ, List.getD_cons_zero, toNat_ofNat_of_le hpd,
      toNat_ofNat_of_le hpr, toNat_ofNat_of_le hfb, toInt_ofInt_of_le hp hp']
    rw [BitVec.toNat_ofNat, Nat.mod_eq_of_lt (by omega), Nat.min_eq_left hq]
  · subst hr
    rw [rolePartOfPayload_eq hcode]
    simp only [rolePart, State.statePayload, wordAt, List.getD_cons_succ, List.getD_cons_zero, toNat_ofNat_of_le hpo,
      toNat_ofNat_of_le hpa, toNat_ofNat_of_le hsoc]
  · subst hr
    rw [rolePartOfPayload_eq hcode]
    rw [rolePart, hheader, hfield, hengine rfl, engineOfCode_code]
    simp only [State.statePayload, wordAt, List.getD_cons_succ, List.getD_cons_zero, toNat_ofNat_of_le hpo,
      toNat_ofNat_of_le hpa]

end
end Sys2Proof.Machine
end

/-! # Service requests (R132, R133, R140, R173, R182 to R184) -/
section
namespace Sys2Proof.Machine

section
variable {c : Instr} {s t u : State}

/-! ### Judging a request -/

/-- The node with a reply place reserved for a request (R148, R182 step 2). -/
def State.requestPlaced (s : State) (n code : Nat) : State :=
  s.frameEnds.setSli { s.frameEnds.sli with replies := reservePlace s.sli.replies n (BitVec.ofNat 8 code) }

section
variable {target : Address} {code n : Nat} {args : List Word} {carry : State → Nat → State}

theorem State.serviceRequest_of_refused {r : ReplyResult} (h : Reaches s target code n) (ha : args.length ≤ 5)
    (hr : s.refusal code args = some r) :
    s.serviceRequest 15 target code args carry = ((s.requestPlaced n code).reply n r []).settle := by
  have hr' : (s.requestPlaced n code).refusal code args = some r := hr
  rw [State.serviceRequest_of_reaches h ha]
  show (match (s.requestPlaced n code).refusal code args with
    | some r => (s.requestPlaced n code).reply n r []
    | none => carry (s.requestPlaced n code) n).settle = _
  rw [hr']

theorem State.serviceRequest_of_accepted (h : Reaches s target code n) (ha : args.length ≤ 5)
    (hr : s.refusal code args = none) :
    s.serviceRequest 15 target code args carry = (carry (s.requestPlaced n code) n).settle := by
  have hr' : (s.requestPlaced n code).refusal code args = none := hr
  rw [State.serviceRequest_of_reaches h ha]
  show (match (s.requestPlaced n code).refusal code args with
    | some r => (s.requestPlaced n code).reply n r []
    | none => carry (s.requestPlaced n code) n).settle = _
  rw [hr']

end

theorem State.requestPlaced_kept (s : State) (n code : Nat) : KeptBut s (s.requestPlaced n code) [.sli] :=
  (s.setSli_kept _).trans ((State.setSli_kept _ _).mono (by decide))

theorem State.requestPlaced_sli (s : State) (n code : Nat) : (s.requestPlaced n code).sli = { s.sli with
    line := .waitIdle 0, replies := s.sli.replies ++ [⟨n, .reserved, BitVec.ofNat 8 code, .done, []⟩] } := rfl

/-- The reply formed in the place just reserved; the places before it are other places (R148). -/
theorem formReply_append {rs : List ReplyPlace} {n : Nat} (hn : freePlace rs = some n) (x : ReplyPlace) (hx : x.place = n)
    (r : ReplyResult) (d : List Word) : formReply (rs ++ [x]) n r d
      = rs ++ [{ x with condition := .queued, result := r, data := if r = .done then d else [] }] := by
  obtain ⟨-, -, hnew⟩ := freePlace_spec hn
  have hothers : formReply rs n r d = rs := by
    exact (List.map_congr_left fun y hy =>
      if_neg fun he : y.place = n => hnew (he ▸ List.mem_map_of_mem hy)).trans (List.map_id rs)
  show (rs ++ [x]).map _ = _
  rw [List.map_append, show rs.map _ = rs from hothers]
  simp [hx]

theorem State.requestPlaced_reply_sli {n : Nat} (hn : freePlace s.sli.replies = some n) (code : Nat) (r : ReplyResult)
    (d : List Word) : ((s.requestPlaced n code).reply n r d).sli = { s.sli with
      line := .waitIdle 0
      replies := s.sli.replies ++ [⟨n, .queued, BitVec.ofNat 8 code, r, if r = .done then d else []⟩] } := by
  show { (s.requestPlaced n code).sli with replies := formReply (s.requestPlaced n code).sli.replies n r d } = _
  rw [State.requestPlaced_sli]
  dsimp only
  rw [formReply_append hn _ rfl]

theorem ReplyJoined.of_compareF {r : ReplyPlace}
    (h : u.sli = { s.sli with line := .waitIdle 0, replies := s.sli.replies ++ [r] }) : ReplyJoined s u.compareF r := by
  rw [ReplyJoined, ← h]
  exact u.compareF_prompt

/-- What a request leaves that changes no status: F alone is compared. -/
theorem Settled.settle_of_stu (h : Settled s) (hop : t.nsq.op = s.nsq.op) (hstu : t.stu = s.stu) : t.settle = t.compareF :=
  h.settle_eq hop (State.withdraws_of_stu hstu)

theorem needsParked_iff (code : Nat) : needsParked code = true ↔ code = 9 ∨ code = 11 ∨ code = 12 ∨ code = 13 := by
  simp [needsParked, or_assoc]

theorem badArgument_iff (items : List WearItem) (code : Nat) (args : List Word) : badArgument items code args = true ↔
    (code = 8 ∨ code = 9) ∧ (argItem args = 0 ∨ items.length < argItem args) ∨ code = 8 ∧ 1 < argPart args
      ∨ code = 10 ∧ 63 < argWord args ∨ code = 11 ∧ 62 < argWord args := by
  unfold badArgument
  dsimp only
  split
  · simp
  · simp
  · simp
  · simp
  · next h8 h9 h10 h11 => simp [show ¬ code = 8 from h8, show ¬ code = 9 from h9, show ¬ code = 10 from h10,
      show ¬ code = 11 from h11]

theorem State.findsBusy_iff (s : State) (code : Nat) : s.findsBusy code = true ↔
    (code = 10 ∨ code = 11) ∧ s.mpt.op ≠ .none ∨ code ≠ 1 ∧ code ≠ 2 ∧ s.nsq.pendingReset ≠ .none
      ∨ (code = 12 ∨ code = 13) ∧ s.waitsStandby = true := by
  simp [State.findsBusy, or_assoc, and_assoc]

/-- A request that passes every test of R182. -/
theorem State.refusal_eq_none {code : Nat} {args : List Word} (hcode : 1 ≤ code ∧ code ≤ 13)
    (hparked : needsParked code = true → s.given.parked = true) (hbad : ¬ badArgument s.wau.items code args = true)
    (hbusy : ¬ s.findsBusy code = true) : s.refusal code args = none := by
  unfold State.refusal
  rw [if_neg (by omega), if_neg, if_neg hbad, if_neg hbusy]
  rw [Bool.and_eq_true, Bool.not_eq_true']
  rintro ⟨h1, h2⟩
  rw [hparked h1] at h2
  cases h2

/-- Settles O20: the place first, then the tests in the order of `State.refusal`. -/
theorem requestsAreJudgedInOrder : Obligations.RequestsAreJudgedInOrder := by
  intro s c src target code args hset hc ha hr
  obtain ⟨carry, hexec⟩ := exec_of_serviceOf (s := s) hc
  refine ⟨fun hown hno => ?_, fun n result hsrc hreach hjudged => ?_⟩
  · have hplace : s.frameEnds.requestPlace src target code = none := by
      unfold State.requestPlace
      rw [State.frameEnds_serves, State.frameEnds_ownAddress]
      split
      · next h =>
        simp only [Bool.and_eq_true, Bool.or_eq_true, beq_iff_eq, bne_iff_ne] at h
        obtain ⟨⟨⟨hs, hsrc⟩, htarget⟩, hbroad⟩ := h
        rcases hno with h | h | ⟨h1, h2⟩ | ⟨h1, h2, h3⟩ | h
        · rw [hs] at h; cases h
        · exact absurd hsrc h
        · exact absurd htarget (not_or.mpr ⟨h1, h2⟩)
        · exact absurd hbroad (by simp [h1, h2, h3])
        · exact h
      · rfl
    have hends : s.serviceRequest src target code args carry = s.frameEnds.compareF := by
      unfold State.serviceRequest
      rw [if_pos hr, if_pos (show argumentsCarried args = true from decide_eq_true ha)]
      dsimp only
      rw [State.goodFrameEnds_of_other hown, hplace]
      exact hset.settle_of_stu rfl rfl
    refine ⟨_, hexec.trans (congrArg _ hends), ?_, State.compareF_set _, State.compareF_prompt _⟩
    exact ((s.setSli_kept _).mono (by decide)).trans (State.compareF_kept _)
  · have hrefused : s.refusal code args = some result := by
      unfold State.refusal
      rcases hjudged with ⟨hk, rfl⟩ | ⟨hk, ⟨hm, hp⟩, rfl⟩ | ⟨hk, hm, hb, rfl⟩ | ⟨hk, hm, hb, hbusy, rfl⟩
      · rw [if_pos (by omega)]
      · rw [if_neg (by omega), if_pos (by rw [(needsParked_iff code).mpr hm, hp]; rfl)]
      · have hpass : ¬ (needsParked code && !s.given.parked) = true := by
          rw [Bool.and_eq_true, needsParked_iff, Bool.not_eq_true']; exact hm
        rw [if_neg (by omega), if_neg hpass, if_pos ((badArgument_iff _ _ _).mpr hb)]
      · have hpass : ¬ (needsParked code && !s.given.parked) = true := by
          rw [Bool.and_eq_true, needsParked_iff, Bool.not_eq_true']; exact hm
        rw [if_neg (by omega), if_neg hpass, if_neg fun h => hb ((badArgument_iff _ _ _).mp h),
          if_pos ((s.findsBusy_iff code).mpr hbusy)]
    have hsettle : ((s.requestPlaced n code).reply n result []).settle
        = ((s.requestPlaced n code).reply n result []).compareF := hset.settle_of_stu rfl rfl
    obtain ⟨-, -, -, -, hfree⟩ := id hreach
    refine ⟨((s.requestPlaced n code).reply n result []).compareF, ?_, ?_, State.compareF_set _, .of_compareF ?_⟩
    · rw [hexec, hsrc, State.serviceRequest_of_refused hreach ha hrefused, hsettle]
    · exact (((s.requestPlaced_kept n code).trans (State.reply_kept _ _ _ _)).mono (by decide)).trans (State.compareF_kept _)
    · rw [State.requestPlaced_reply_sli hfree, ite_self]

/-! ### IDENTIFY and READ_WEAR (R127, R183) -/

/-- A request that is answered at once and changes nothing else. -/
theorem State.answered_at_once (hset : Settled s) {target : Address} {code n : Nat} {args : List Word}
    (h : Reaches s target code n) (ha : args.length ≤ 5) (hr : s.refusal code args = none) (d : State → List Word)
    {data : List Word} (hd : d (s.requestPlaced n code) = data) :
    s.serviceRequest 15 target code args (fun t k => t.reply k .done (d t))
        = ((s.requestPlaced n code).reply n .done data).compareF
      ∧ KeptBut s ((s.requestPlaced n code).reply n .done data).compareF [.stu, .sli]
      ∧ ((s.requestPlaced n code).reply n .done data).compareF.stu.set = s.stu.set
      ∧ ReplyJoined s ((s.requestPlaced n code).reply n .done data).compareF
          ⟨n, .queued, BitVec.ofNat 8 code, .done, data⟩ := by
  have hsettle : ((s.requestPlaced n code).reply n .done data).settle
      = ((s.requestPlaced n code).reply n .done data).compareF := hset.settle_of_stu rfl rfl
  obtain ⟨-, -, -, -, hfree⟩ := id h
  refine ⟨?_, ?_, State.compareF_set _, .of_compareF ?_⟩
  · rw [State.serviceRequest_of_accepted h ha hr, hd, hsettle]
  · exact (((s.requestPlaced_kept n code).trans (State.reply_kept _ _ _ _)).mono (by decide)).trans (State.compareF_kept _)
  · rw [State.requestPlaced_reply_sli hfree, if_pos rfl]

theorem words32_append (a b : Word) : words32 (a ++ b).toNat = [a, b] := by
  have hb := b.isLt
  have ha := a.isLt
  have h : (a ++ b).toNat = a.toNat * 65536 + b.toNat := by
    rw [BitVec.toNat_append, Nat.shiftLeft_eq, ← Nat.shiftLeft_eq, ← Nat.shiftLeft_add_eq_or_of_lt hb, Nat.shiftLeft_eq]
  rw [words32, h]
  refine congrArg₂ (fun x y => [x, y]) ?_ ?_ <;> apply BitVec.eq_of_toNat_eq <;> rw [BitVec.toNat_ofNat] <;> omega

theorem State.roleCode_of_role {role : Role} (h : s.role = some role) : s.roleCode = role.code := by
  rw [State.roleCode, h]
  rfl

/-- The item and the part of READ_WEAR's argument word. -/
theorem argItem_argPart {item part : Nat} (hitem : item < 16) (hpart : part ≤ 1) :
    argItem [BitVec.ofNat 16 (part * 256 + item)] = item ∧ argPart [BitVec.ofNat 16 (part * 256 + item)] = part := by
  simp only [argItem, argPart, wordAt, List.getD_cons_zero, BitVec.extractLsb'_toNat, BitVec.toNat_ofNat,
    Nat.shiftRight_eq_div_pow]
  omega

theorem itemAt_of_getElem? {items : List WearItem} {i : Nat} {x : WearItem} (h : items[i - 1]? = some x) :
    itemAt items i = x := by
  rw [itemAt, List.getD_eq_getElem?_getD, h]
  rfl

theorem State.wearData_eq {item part : Nat} {x : WearItem} (hitem : 1 ≤ item) (hx : s.wau.items[item - 1]? = some x) :
    s.wearData item part = BitVec.ofNat 16 (item + part * 256 + x.state.code * 4096) ::
      (if part = 0 then [BitVec.ofNat 16 (x.acc / 65536), BitVec.ofNat 16 x.acc]
       else [imageWord s.mpt.copy (28 + 4 * item), imageWord s.mpt.copy (29 + 4 * item),
         imageWord s.mpt.copy (30 + 4 * item), imageWord s.mpt.copy (31 + 4 * item)]) := by
  have h28 : 32 + 4 * (item - 1) = 28 + 4 * item := by omega
  have h30 : 34 + 4 * (item - 1) = 30 + 4 * item := by omega
  have h29 : 28 + 4 * item + 1 = 29 + 4 * item := by omega
  have h31 : 30 + 4 * item + 1 = 31 + 4 * item := by omega
  have hwords : words32 (nearOf s.mpt.copy item) ++ words32 (dueOf s.mpt.copy item)
      = [imageWord s.mpt.copy (28 + 4 * item), imageWord s.mpt.copy (29 + 4 * item),
         imageWord s.mpt.copy (30 + 4 * item), imageWord s.mpt.copy (31 + 4 * item)] := by
    rw [nearOf, dueOf, cfg32, cfg32, words32_append, words32_append, h28, h30, h29, h31]
    rfl
  unfold State.wearData
  dsimp only
  rw [itemAt_of_getElem? hx, hwords]
  rfl

/-- Settles O21. -/
theorem identifyAndReadWearAnswerAtOnce : Obligations.IdentifyAndReadWearAnswerAtOnce := by
  intro s target args n role hset ha hrole
  refine ⟨fun h => ?_, fun h hpending item part w x hargs hw h1 h16 hpart hx => ?_⟩
  · have hr : s.refusal 1 args = none := State.refusal_eq_none (by decide)
      (fun hp => absurd hp (by decide)) (by rw [badArgument_iff]; omega) (by rw [State.findsBusy_iff]; omega)
    have hdata : (s.requestPlaced n 1).identity = [0x0440, 0x0100,
        BitVec.ofNat 16 (role.code * 16384 + s.ownAddress.toNat * 1024 + s.nsq.cause.code * 128)] := by
      rw [State.identity, State.roleCode_of_role (s := s.requestPlaced n 1) hrole]
      rfl
    obtain ⟨hexec, hkept, hstu, hjoined⟩ := State.answered_at_once hset h ha hr State.identity hdata
    exact ⟨_, congrArg Host.Outcome.next hexec, hkept, hstu, hjoined⟩
  · subst hargs hw
    obtain ⟨hi, hp⟩ := argItem_argPart h16 hpart
    have hlen : item ≤ s.wau.items.length := by
      obtain ⟨hlt, -⟩ := List.getElem?_eq_some_iff.mp hx
      omega
    have hr : s.refusal 8 [BitVec.ofNat 16 (part * 256 + item)] = none := by
      refine State.refusal_eq_none (by decide) (fun hp => absurd hp (by decide)) ?_ ?_
      · rw [badArgument_iff, hi, hp]; omega
      · rw [State.findsBusy_iff]; simp [hpending]
    have hdata := State.wearData_eq (s := s.requestPlaced n 8) (part := part) h1 hx
    obtain ⟨hexec, hkept, hstu, hjoined⟩ := State.answered_at_once hset h ha hr
      (fun t => t.wearData (argItem [BitVec.ofNat 16 (part * 256 + item)]) (argPart [BitVec.ofNat 16 (part * 256 + item)]))
      ((congrArg₂ (State.wearData _) hi hp).trans hdata)
    exact ⟨_, congrArg Host.Outcome.next hexec, hkept, hstu, hjoined⟩

end
end Sys2Proof.Machine
end

/-! # READ_STATUS, CLEAR, the force flags and the requests whose end comes later (R106, R132, R133, R140, R173, R184) -/
section
namespace Sys2Proof.Machine

section
variable {c : Instr} {s t u : State}

/-! ### READ_STATUS (R140, R183) -/

/-- A bit of a word given as a number. -/
theorem getLsbD_ofNat_word {n i : Nat} {b : Bool} (h : i < 16) (hn : n / 2 ^ i % 2 = bitOf b) :
    (BitVec.ofNat 16 n).getLsbD i = b := by
  rw [BitVec.getLsbD_ofNat, Nat.testBit_eq_decide_div_mod_eq, hn, decide_eq_true h, Bool.true_and]
  cases b <;> rfl

theorem bitOf_le (b : Bool) : bitOf b ≤ 1 := by cases b <;> decide

/-- What the fields of word 3 are read as, whatever the role's own bits below bit 11 and beside bit 7. -/
theorem statusWord_common {role op clamp high low : Nat} (hrole : role < 4) (hop : op < 8) (hclamp : clamp ≤ 1)
    (hhigh : high < 8) (hlow : low < 128) :
    let w := BitVec.ofNat 16 (role * 16384 + op * 2048 + clamp * 128 + (high * 256 + low))
    (w.extractLsb' 14 2).toNat = role ∧ (w.extractLsb' 11 3).toNat = op ∧ (w.extractLsb' 8 3).toNat = high
      ∧ (w.extractLsb' 9 2).toNat = high / 2 ∧ (w.extractLsb' 4 3).toNat = low / 16 ∧ (w.extractLsb' 3 4).toNat = low / 8 := by
  simp only [BitVec.extractLsb'_toNat, BitVec.toNat_ofNat, Nat.shiftRight_eq_div_pow]
  omega

theorem OpState.code_lt (op : OpState) : op.code < 8 := by cases op <;> decide
theorem Role.code_lt (role : Role) : role.code < 4 := by cases role <;> decide

/-- The statuses of words 1 and 2. -/
theorem State.counted_bits (s : State) (x : Status) :
    (x.index < 16 → (s.counted.extractLsb' 0 16).getLsbD x.index = (s.status x || statusIn s.sli.state.carried x))
    ∧ (16 ≤ x.index → ((s.counted.extractLsb' 16 8).setWidth 16 : Word).getLsbD (x.index - 16)
        = (s.status x || statusIn s.sli.state.carried x)) := by
  have hcounted : s.counted.getLsbD x.index = (s.status x || statusIn s.sli.state.carried x) := statusIn_or _ _ _
  have hlt := x.index_lt
  refine ⟨fun h => ?_, fun h => ?_⟩
  · rw [BitVec.getLsbD_extractLsb', decide_eq_true h, Bool.true_and, Nat.zero_add, hcounted]
  · rw [BitVec.getLsbD_setWidth, BitVec.getLsbD_extractLsb', decide_eq_true (by omega : x.index - 16 < 16),
      decide_eq_true (by omega : x.index - 16 < 8), Bool.true_and, Bool.true_and, Nat.add_sub_cancel' h, hcounted]

/-- The state in which READ_STATUS has formed its reply. -/
theorem State.readStatus_frame {n : Nat} {target : Address} (h : Reaches s target 2 n) :
    KeptBut s ((s.requestPlaced n 2).readStatus n) [.sli, .free]
      ∧ ((s.requestPlaced n 2).readStatus n).sli = { s.sli with
          line := .waitIdle 0, replies := s.sli.replies ++ [⟨n, .queued, 2, .done, s.statusData⟩] } := by
  obtain ⟨-, -, -, -, hfree⟩ := h
  have hsli : ((s.requestPlaced n 2).reply n .done s.statusData).sli = { s.sli with
      line := .waitIdle 0, replies := s.sli.replies ++ [⟨n, .queued, 2, .done, s.statusData⟩] } := by
    rw [State.requestPlaced_reply_sli hfree, if_pos rfl]
    rfl
  have hkept : KeptBut s ((s.requestPlaced n 2).reply n .done s.statusData) [.sli, .free] :=
    ((s.requestPlaced_kept n 2).trans (State.reply_kept _ _ _ _)).mono (by decide)
  unfold State.readStatus
  dsimp only
  split
  · exact ⟨hkept.setFree (by decide) _, hsli⟩
  · exact ⟨hkept, hsli⟩

/-- Settles O22: the words of `State.statusData`, field by field. -/
theorem readStatusShowsTheNode : Obligations.ReadStatusShowsTheNode := by
  intro s target args n role hset ha hrole h
  have hr : s.refusal 2 args = none := State.refusal_eq_none (by decide)
    (fun hp => absurd hp (by decide)) (by rw [badArgument_iff]; omega) (by rw [State.findsBusy_iff]; omega)
  obtain ⟨hkept, hsli⟩ := State.readStatus_frame h
  have hstu : ((s.requestPlaced n 2).readStatus n).stu = s.stu := hkept .stu (by decide)
  have hsettle : ((s.requestPlaced n 2).readStatus n).settle = ((s.requestPlaced n 2).readStatus n).compareF :=
    hset.settle_of_stu (congrArg Sequencer.op (hkept .nsq (by decide))) hstu
  have hexec : exec (.readStatus 15 target args) s = .next ((s.requestPlaced n 2).readStatus n).compareF := by
    show execReadStatus 15 target args s = _
    rw [execReadStatus, State.serviceRequest_of_accepted h ha hr, hsettle]
  have hframe : KeptBut s ((s.requestPlaced n 2).readStatus n).compareF [.stu, .sli, .free] :=
    (hkept.mono (by decide)).trans ((State.compareF_kept _).mono (by decide))
  have hcommon : ∀ high low, high < 8 → low < 128 → _ := fun high low hhigh hlow =>
    statusWord_common role.code_lt s.nsq.op.code_lt (bitOf_le s.she.clamp) hhigh hlow
  have hclamp : ∀ high low, high < 8 → low < 128 → (BitVec.ofNat 16 (role.code * 16384 + s.nsq.op.code * 2048
      + bitOf s.she.clamp * 128 + (high * 256 + low))).getLsbD 7 = s.she.clamp := fun high low hhigh hlow => by
    have := bitOf_le s.she.clamp
    exact getLsbD_ofNat_word (by decide) (by omega)
  have hdata : ∀ high low w4 w5, s.statusData = [s.counted.extractLsb' 0 16, (s.counted.extractLsb' 16 8).setWidth 16,
      BitVec.ofNat 16 (role.code * 16384 + s.nsq.op.code * 2048 + bitOf s.she.clamp * 128 + (high * 256 + low)), w4, w5] →
      ReplyJoined s ((s.requestPlaced n 2).readStatus n).compareF ⟨n, .queued, 2, .done,
        [s.counted.extractLsb' 0 16, (s.counted.extractLsb' 16 8).setWidth 16,
          BitVec.ofNat 16 (role.code * 16384 + s.nsq.op.code * 2048 + bitOf s.she.clamp * 128 + (high * 256 + low)), w4,
          w5]⟩ := fun high low w4 w5 hd => .of_compareF (by rw [hsli, hd])
  cases role
  case axle =>
    have hslip : s.blu.slip.code ≤ 2 := by cases s.blu.slip <;> simp [SlipState.code]
    have hkind := bitOf_le s.slipKindBit
    have hd : s.statusData = [s.counted.extractLsb' 0 16, (s.counted.extractLsb' 16 8).setWidth 16,
        BitVec.ofNat 16 (Role.axle.code * 16384 + s.nsq.op.code * 2048 + bitOf s.she.clamp * 128
          + ((s.blu.slip.code * 2 + bitOf s.slipKindBit) * 256 + 0)), BitVec.ofNat 16 s.blu.own.q,
        BitVec.ofInt 16 s.blu.own.pAct] := by
      have hbits : s.blu.slip.code * 512 + bitOf s.slipKindBit * 256
          = (s.blu.slip.code * 2 + bitOf s.slipKindBit) * 256 + 0 := by omega
      simp only [State.statusData, State.statusWord3, State.statusWords45, State.roleCode_of_role hrole, hrole,
        List.cons_append, List.nil_append, hbits]
    have hkindBit : (BitVec.ofNat 16 (Role.axle.code * 16384 + s.nsq.op.code * 2048 + bitOf s.she.clamp * 128
        + ((s.blu.slip.code * 2 + bitOf s.slipKindBit) * 256 + 0))).getLsbD 8 = s.slipKindBit := by
      have := bitOf_le s.she.clamp
      exact getLsbD_ofNat_word (by decide) (by omega)
    have hbit3 : (BitVec.ofNat 16 (Role.axle.code * 16384 + s.nsq.op.code * 2048 + bitOf s.she.clamp * 128
        + ((s.blu.slip.code * 2 + bitOf s.slipKindBit) * 256 + 0))).getLsbD 3 = false :=
      getLsbD_ofNat_word (by decide) (by rw [show bitOf false = 0 from rfl]; omega)
    obtain ⟨h14, h11, -, h9, h4, -⟩ := hcommon (s.blu.slip.code * 2 + bitOf s.slipKindBit) 0 (by omega) (by decide)
    refine ⟨_, _, _, _, _, _, hexec, hframe, by rw [State.compareF_set, hstu], hdata _ _ _ _ hd,
      fun x => (s.counted_bits x).1, fun x => (s.counted_bits x).2, h14, h11, hclamp _ _ (by omega) (by decide),
      fun _ => ⟨by omega, h4, hbit3, fun hk => ?_, fun hk => ?_, rfl, rfl⟩, nofun, nofun⟩
    · rw [hkindBit, State.slipKindBit, hk]
    · rw [hkindBit, State.slipKindBit, hk]
  case pack =>
    have hd : s.statusData = [s.counted.extractLsb' 0 16, (s.counted.extractLsb' 16 8).setWidth 16,
        BitVec.ofNat 16 (Role.pack.code * 16384 + s.nsq.op.code * 2048 + bitOf s.she.clamp * 128 + (0 * 256 + 0)),
        BitVec.ofNat 16 s.plu.own.soc, BitVec.ofInt 16 s.plu.own.pAct] := by
      simp only [State.statusData, State.statusWord3, State.statusWords45, State.roleCode_of_role hrole, hrole,
        List.cons_append, List.nil_append, Nat.zero_mul]
    obtain ⟨h14, h11, h8, -, -, h3⟩ := hcommon 0 0 (by decide) (by decide)
    exact ⟨_, _, _, _, _, _, hexec, hframe, by rw [State.compareF_set, hstu], hdata _ _ _ _ hd,
      fun x => (s.counted_bits x).1, fun x => (s.counted_bits x).2, h14, h11, hclamp _ _ (by decide) (by decide),
      nofun, fun _ => ⟨h8, h3, rfl, rfl⟩, nofun⟩
  case genset =>
    have hengine : s.gsc.engine.code ≤ 5 := by cases s.gsc.engine <;> decide
    have hprimary := bitOf_le s.gsc.primary
    have hd : s.statusData = [s.counted.extractLsb' 0 16, (s.counted.extractLsb' 16 8).setWidth 16,
        BitVec.ofNat 16 (Role.genset.code * 16384 + s.nsq.op.code * 2048 + bitOf s.she.clamp * 128
          + (0 * 256 + (s.gsc.engine.code * 16 + bitOf s.gsc.primary * 8))),
        BitVec.ofNat 16 s.gsc.socMin, BitVec.ofInt 16 s.gsc.ownPAct] := by
      simp only [State.statusData, State.statusWord3, State.statusWords45, State.roleCode_of_role hrole, hrole,
        List.cons_append, List.nil_append, Nat.zero_mul, Nat.zero_add]
    have hbit3 : (BitVec.ofNat 16 (Role.genset.code * 16384 + s.nsq.op.code * 2048 + bitOf s.she.clamp * 128
        + (0 * 256 + (s.gsc.engine.code * 16 + bitOf s.gsc.primary * 8)))).getLsbD 3 = s.gsc.primary :=
      getLsbD_ofNat_word (by decide) (by omega)
    obtain ⟨h14, h11, h8, -, h4, -⟩ := hcommon 0 (s.gsc.engine.code * 16 + bitOf s.gsc.primary * 8) (by decide) (by omega)
    exact ⟨_, _, _, _, _, _, hexec, hframe, by rw [State.compareF_set, hstu], hdata _ _ _ _ hd,
      fun x => (s.counted_bits x).1, fun x => (s.counted_bits x).2, h14, h11, hclamp _ _ (by decide) (by omega),
      nofun, nofun, fun _ => ⟨h8, by omega, hbit3, rfl, rfl⟩⟩

/-! ### The force flags (R133) -/

/-- A request that puts one status outside the withdrawing set and is answered DONE. -/
theorem State.forced_at_once (hset : Settled s) {target : Address} {code n : Nat} {args : List Word}
    (h : Reaches s target code n) (ha : args.length ≤ 5) (hr : s.refusal code args = none) {x : Status}
    (hx : statusIn withdrawingSet x = false) (b : Bool) (carry : State → Nat → State) (stu : StatusUnit)
    (hstu : stu.set = s.stu.set) (hcarry : carry (s.requestPlaced n code) n
      = (((s.requestPlaced n code).setStu stu).putStatus x b).reply n .done []) :
    ∃ t, Host.Outcome.next (s.serviceRequest 15 target code args carry) = (.next t : Outcome)
      ∧ t.stu.forceFault = stu.forceFault ∧ t.stu.forceWarn = stu.forceWarn ∧ t.status x = b
      ∧ (∀ y, y ≠ x → t.status y = s.status y) ∧ KeptBut s t [.stu, .sli]
      ∧ ReplyJoined s t ⟨n, .queued, BitVec.ofNat 8 code, .done, []⟩ := by
  have hw : ((((s.requestPlaced n code).setStu stu).putStatus x b).reply n .done []).withdraws = s.withdraws := by
    rw [State.reply_withdraws, State.putStatus_withdraws _ _ hx, State.withdraws, State.setStu_stu, hstu]
    rfl
  obtain ⟨-, -, -, -, hfree⟩ := id h
  refine ⟨((((s.requestPlaced n code).setStu stu).putStatus x b).reply n .done []).compareF, ?_, ?_, ?_, ?_,
    fun y hy => ?_, ?_, .of_compareF ?_⟩
  · rw [State.serviceRequest_of_accepted h ha hr, hcarry,
      hset.settle_eq (t := (((s.requestPlaced n code).setStu stu).putStatus x b).reply n .done []) rfl hw]
  · rw [State.compareF_forceFault]; rfl
  · rw [State.compareF_forceWarn]; rfl
  · rw [State.compareF_status]; exact State.putStatus_status_self _ _ _
  · rw [State.compareF_status]
    refine (State.putStatus_status_ne _ _ hy).trans ?_
    rw [State.status, State.setStu_stu, hstu]
    rfl
  · refine KeptBut.trans (KeptBut.trans ?_ ((State.reply_kept _ _ _ _).mono (by decide))) (State.compareF_kept _)
    exact (KeptBut.setStu ((s.requestPlaced_kept n code).mono (by decide)) (by decide) _).putStatus (by decide) _ _
  · exact (State.requestPlaced_reply_sli hfree code .done []).trans (by rw [ite_self])

theorem State.refusal_of_force {code : Nat} {args : List Word} (hc : 3 ≤ code ∧ code ≤ 7)
    (hp : s.nsq.pendingReset = .none) : s.refusal code args = none := by
  refine State.refusal_eq_none (by omega) (fun h => ?_) ?_ ?_
  · rw [needsParked_iff] at h; omega
  · rw [badArgument_iff]; omega
  · rw [State.findsBusy_iff, hp]
    rintro (⟨h, -⟩ | ⟨-, -, h⟩ | ⟨h, -⟩)
    · omega
    · exact h rfl
    · omega

/-- Settles O24: four uses of one argument. -/
theorem forceFlagsDriveTheirStatuses : Obligations.ForceFlagsDriveTheirStatuses := by
  intro s target args n hset ha hp b
  refine ⟨?_, ?_⟩
  · rintro c code (⟨rfl, rfl, rfl⟩ | ⟨rfl, rfl, rfl⟩) h
    · exact State.forced_at_once hset h ha (State.refusal_of_force (by decide) hp) (x := .forcedFault) (by decide) true _
        { s.stu with forceFault := true } rfl rfl
    · exact State.forced_at_once hset h ha (State.refusal_of_force (by decide) hp) (x := .forcedFault) (by decide) false _
        { s.stu with forceFault := false } rfl rfl
  · rintro c code (⟨rfl, rfl, rfl⟩ | ⟨rfl, rfl, rfl⟩) h
    · obtain ⟨t, hexec, hfault, hwarn, hrest⟩ := State.forced_at_once hset h ha (State.refusal_of_force (by decide) hp)
        (x := .forcedWarn) (by decide) true (fun t n => t.putForceWarn true n) { s.stu with forceWarn := true } rfl rfl
      exact ⟨t, hexec, hwarn, hfault, hrest⟩
    · obtain ⟨t, hexec, hfault, hwarn, hrest⟩ := State.forced_at_once hset h ha (State.refusal_of_force (by decide) hp)
        (x := .forcedWarn) (by decide) false (fun t n => t.putForceWarn false n) { s.stu with forceWarn := false } rfl rfl
      exact ⟨t, hexec, hwarn, hfault, hrest⟩

/-! ### The requests whose end comes later (R173, R184) -/

/-- A request carried out that leaves the statuses and the operating state: F alone is compared. -/
theorem exec_of_carried (hset : Settled s) {target : Address} {code n : Nat} {args : List Word}
    {carry : State → Nat → State} (h : Reaches s target code n) (ha : args.length ≤ 5) (hr : s.refusal code args = none)
    (hu : carry (s.requestPlaced n code) n = u) (hop : u.nsq.op = s.nsq.op) (hstu : u.stu = s.stu) :
    Host.Outcome.next (s.serviceRequest 15 target code args carry) = (.next u.compareF : Outcome) := by
  rw [State.serviceRequest_of_accepted h ha hr, hu, hset.settle_of_stu hop hstu]

theorem State.refusal_of_config {code : Nat} {args : List Word} (hc : code = 10 ∨ code = 11) (hop : s.mpt.op = .none)
    (hparked : code = 11 → s.given.parked = true) (hp : s.nsq.pendingReset = .none)
    (hw : argWord args ≤ if code = 10 then 63 else 62) : s.refusal code args = none := by
  refine State.refusal_eq_none (by omega) (fun h => ?_) ?_ ?_
  · rw [needsParked_iff] at h; exact hparked (by omega)
  · rw [badArgument_iff]
    rcases hc with rfl | rfl
    · rw [if_pos rfl] at hw; omega
    · rw [if_neg (by decide)] at hw; omega
  · rw [State.findsBusy_iff, hp, hop]
    rintro (⟨-, h⟩ | ⟨-, -, h⟩ | ⟨h, -⟩)
    · exact h rfl
    · exact h rfl
    · omega

theorem State.refusal_of_reset {code : Nat} {args : List Word} (hc : code = 12 ∨ code = 13)
    (hparked : s.given.parked = true) (hp : s.nsq.pendingReset = .none) (hw : s.waitsStandby = false) :
    s.refusal code args = none := by
  refine State.refusal_eq_none (by omega) (fun _ => hparked) ?_ ?_
  · rw [badArgument_iff]; omega
  · rw [State.findsBusy_iff, hp, hw]
    rintro (⟨h, -⟩ | ⟨-, -, h⟩ | ⟨-, h⟩)
    · omega
    · exact h rfl
    · cases h

/-- A pending RESTART or REBOOT (R184). -/
theorem State.pendReset_frame {n code : Nat} {target : Address} (h : Reaches s target code n) (r : PendingReset) :
    ((s.requestPlaced n code).pendReset r n).compareF.nsq = { s.nsq with pendingReset := r, limit := ⟨true, 0⟩ }
      ∧ KeptBut s ((s.requestPlaced n code).pendReset r n).compareF [.stu, .sli, .nsq]
      ∧ ((s.requestPlaced n code).pendReset r n).compareF.stu.set = s.stu.set
      ∧ ReplyJoined s ((s.requestPlaced n code).pendReset r n).compareF ⟨n, .queued, BitVec.ofNat 8 code, .done, []⟩ := by
  obtain ⟨-, -, -, -, hfree⟩ := h
  refine ⟨State.compareF_nsq _, ?_, State.compareF_set _, .of_compareF ?_⟩
  · have hplaced : KeptBut s (s.requestPlaced n code) [.stu, .sli, .nsq] := (s.requestPlaced_kept n code).mono (by decide)
    exact ((hplaced.setNsq (by decide) _).trans ((State.reply_kept _ _ _ _).mono (by decide))).trans
      ((State.compareF_kept _).mono (by decide))
  · exact (State.requestPlaced_reply_sli hfree code .done []).trans (by rw [ite_self])

/-- Settles O26: the four requests in turn. -/
theorem longRequestsAreStarted : Obligations.LongRequestsAreStarted := by
  intro s target n w m v args hset hp ha
  refine ⟨fun h hop hw => ?_, fun h hop hparked hw => ?_, fun h hparked hw => ?_, fun h hparked hw => ?_⟩
  · have hr : s.refusal 10 [w] = none := State.refusal_of_config (.inl rfl) hop (fun h => by cases h) hp (by rw [if_pos rfl]; exact hw)
    refine ⟨_, exec_of_carried hset h (by simp) hr rfl rfl rfl, State.compareF_mpt _, ?_, State.compareF_set _,
      .of_compareF rfl⟩
    exact (KeptBut.setMpt ((s.requestPlaced_kept n 10).mono (by decide)) (by decide) _).trans
      ((State.compareF_kept _).mono (by decide))
  · have hr : s.refusal 11 [w, m, v] = none :=
      State.refusal_of_config (.inr rfl) hop (fun _ => hparked) hp (by rw [if_neg (by decide)]; exact hw)
    refine ⟨_, exec_of_carried hset h (by simp) hr rfl rfl rfl, State.compareF_mpt _, ?_, State.compareF_set _,
      .of_compareF rfl⟩
    exact (KeptBut.setMpt ((s.requestPlaced_kept n 11).mono (by decide)) (by decide) _).trans
      ((State.compareF_kept _).mono (by decide))
  · have hr : s.refusal 12 args = none := State.refusal_of_reset (.inl rfl) hparked hp hw
    obtain ⟨hnsq, hkept, hstu, hjoined⟩ := State.pendReset_frame h .restart
    exact ⟨_, exec_of_carried hset h ha hr rfl rfl rfl, hnsq, hkept, hstu, hjoined⟩
  · have hr : s.refusal 13 args = none := State.refusal_of_reset (.inr rfl) hparked hp hw
    obtain ⟨hnsq, hkept, hstu, hjoined⟩ := State.pendReset_frame h .reboot
    exact ⟨_, exec_of_carried hset h ha hr rfl rfl rfl, hnsq, hkept, hstu, hjoined⟩

end
end Sys2Proof.Machine
end

/-! # CLEAR and WEAR_RESET (R106, R125, R132) -/
section
namespace Sys2Proof.Machine

section
variable {c : Instr} {s t u : State}

/-! ### The scheduler at the end of an event -/

/-- The scheduler but for its own capability record. -/
def Genset.SameEngine (a b : Genset) : Prop := b = { a with ownPo := b.ownPo, ownPa := b.ownPa, ownPAct := b.ownPAct }

theorem Genset.SameEngine.trans {a b d : Genset} (h : a.SameEngine b) (k : b.SameEngine d) : a.SameEngine d := by
  rw [Genset.SameEngine] at h k ⊢
  rw [k, h]

theorem State.reformOwn_sameEngine (s : State) : s.gsc.SameEngine s.reformOwn.gsc := by
  unfold State.reformOwn
  split <;> rfl

/-- An engine that neither cranks nor runs is left as it is at entry to ACTIVE or WITHDRAWN (R104). -/
theorem State.enterServing_sameEngine (h : s.gsc.engine = .off ∨ s.gsc.engine = .cooldown ∨ s.gsc.engine = .faulted)
    (op : OpState) : s.gsc.SameEngine (s.enterServing op).gsc := by
  have htake : s.gsc.SameEngine (s.takeOp op).requestPrompt.gsc :=
    State.reformOwn_sameEngine ((s.setNsq { s.nsq with op := op }).setPins { s.pins with ready := true, traction := op == .active })
  have hengine : (s.takeOp op).requestPrompt.gsc.engine = s.gsc.engine := by rw [htake]
  rw [State.enterServing_eq]
  split
  · have hstill : (s.takeOp op).requestPrompt.engineWithdrawn = (s.takeOp op).requestPrompt := by
      unfold State.engineWithdrawn
      rw [hengine]
      rcases h with h | h | h <;> rw [h]
    rw [hstill]
    exact htake
  · exact htake

theorem State.settle_sameEngine (h : s.gsc.engine = .off ∨ s.gsc.engine = .cooldown ∨ s.gsc.engine = .faulted) :
    s.gsc.SameEngine s.settle.gsc := by
  unfold State.settle
  rw [State.compareF_gsc]
  rcases s.decideOp_cases with e | ⟨-, -, e⟩ | ⟨-, -, e⟩ <;> rw [e]
  · rfl
  · exact State.enterServing_sameEngine h _
  · exact State.enterServing_sameEngine h _

/-! ### CLEAR (R106, R132) -/

theorem State.clearEngine_of_not_faulted (h : ¬ (s.role = some .genset ∧ s.gsc.engine = .faulted)) : s.clearEngine = s :=
  if_neg h

theorem State.clearEngine_of_faulted (hr : s.role = some .genset) (he : s.gsc.engine = .faulted) :
    s.clearEngine = (s.setGsc { s.gsc with failures := 0 }).engineOff 20 := if_pos ⟨hr, he⟩

theorem State.clearEngine_kept (h : s.mpt.ringSeq < seqMax) : KeptBut s s.clearEngine [.blu, .plu, .gsc, .stp, .mpt] := by
  unfold State.clearEngine
  split
  · have hset : KeptBut s (s.setGsc { s.gsc with failures := 0 }) [.blu, .plu, .gsc, .stp, .mpt] :=
      (s.setGsc_kept _).mono (by decide)
    exact hset.trans (State.engineOff_kept (s := s.setGsc { s.gsc with failures := 0 }) h 20)
  · exact KeptBut.refl _ _

theorem State.clearEngine_eeprom (h : s.mpt.ringSeq < seqMax) : s.clearEngine.mpt.eeprom = s.mpt.eeprom
    ∧ s.clearEngine.mpt.ringSeq = s.mpt.ringSeq ∧ s.clearEngine.gsc.starts = s.gsc.starts := by
  by_cases hf : s.role = some .genset ∧ s.gsc.engine = .faulted
  · rw [State.clearEngine_of_faulted hf.1 hf.2]
    have hoff := Follows.of_engineOff (s := s.setGsc { s.gsc with failures := 0 }) hf.1 h 20
    exact ⟨hoff.eeprom, hoff.ringSeq, hoff.starts⟩
  · rw [State.clearEngine_of_not_faulted hf]
    exact ⟨rfl, rfl, rfl⟩

/-- The standing conditions, status by status (Table 7.2-1). -/
theorem State.statusIn_standing (s : State) (y : Status) : statusIn s.standing y =
    if y = .wearDue then anyDue s.wau.items
    else if y = .stageLost then decide (5 ≤ s.stp.fail0) || decide (5 ≤ s.stp.fail1)
    else if y = .cfgCorrupt then s.mpt.recheckBad
    else if y = .cfgDefault then s.mpt.copyDefault
    else if y = .strap then s.nsq.strapDiffers else false := by
  have hzero : statusIn 0 y = false := by simp [statusIn]
  simp only [State.standing, statusIn_statusPut, hzero, eq_comm (a := y)]

theorem State.clearedSet_of_latched {y : Status} (h : statusIn latchedSet y = true) :
    statusIn s.clearedSet y = statusIn s.standing y := by
  rw [State.statusIn_clearedSet, h, Bool.not_true, Bool.and_false, Bool.false_or]

theorem State.clearedSet_of_other {y : Status} (h : statusIn latchedSet y = false)
    (hy : y ≠ .wearDue ∧ y ≠ .stageLost ∧ y ≠ .cfgCorrupt ∧ y ≠ .cfgDefault ∧ y ≠ .strap) :
    statusIn s.clearedSet y = s.status y := by
  rw [State.statusIn_clearedSet, h, State.statusIn_standing]
  simp [hy]

theorem anyDue_iff (items : List WearItem) : anyDue items = true ↔ ∃ x ∈ items, x.state = .due := by
  simp [anyDue]

theorem anyNear_iff (items : List WearItem) : anyNear items = true ↔ ∃ x ∈ items, x.state ≠ .ok := by
  simp [anyNear]

/-- The operating state at the end of an event agrees with the withdrawing set (R136). -/
theorem State.settle_op (h : s.role = some .genset → s.mpt.ringSeq < seqMax) (hop : s.nsq.op = .active ∨ s.nsq.op = .withdrawn) :
    s.settle.nsq.op = if s.settle.withdraws = true then .withdrawn else .active := by
  rw [(Follows.of_settle h).withdraws]
  cases hw : s.withdraws with
  | true =>
    rw [if_pos rfl]
    rcases hop with ha | hw'
    · exact (State.settle_withdraws h ha hw).1
    · rw [State.settle_eq_compareF (fun ha => by rw [hw'] at ha; cases ha) (fun _ => hw), State.compareF_nsq, hw']
  | false =>
    rw [if_neg (by decide)]
    rcases hop with ha | hw'
    · rw [State.settle_eq_compareF (fun _ => hw) (fun hh => by rw [ha] at hh; cases hh), State.compareF_nsq, ha]
    · exact (State.settle_returns h hw' hw).1

theorem State.enterEngine_sameEngine (s : State) (e : EngineState) : (s.gsc.enter e).SameEngine (s.enterEngine e).gsc :=
  State.reformOwn_sameEngine ((s.setGsc (s.gsc.enter e)).writeSlot1 (.engine (commandOf e)))

/-- The scheduler at the engine's entry to OFF (R96, R101, R102). -/
theorem State.engineOff_sameEngine (h : s.mpt.ringSeq < seqMax) (n : Nat) :
    Genset.SameEngine { s.gsc.enter .off with
      crank := Timer.stopped, warm := Timer.stopped, cooldown := Timer.stopped, off := Timer.started, dwell := n }
      (s.engineOff n).gsc := by
  have henter := State.enterEngine_sameEngine (s.setGsc { s.gsc with
    crank := Timer.stopped, warm := Timer.stopped, cooldown := Timer.stopped, off := Timer.started, dwell := n }) .off
  have htest : (s.engineOff n).gsc = _ := State.testStandby_kept (by simpa using h) .gsc (by decide)
  rw [htest]
  exact henter

/-- The scheduler at a CLEAR in FAULTED (R106). -/
theorem State.clearEngine_gsc (hr : s.role = some .genset) (he : s.gsc.engine = .faulted) (h : s.mpt.ringSeq < seqMax) :
    s.clearEngine.gsc.engine = .off ∧ s.clearEngine.gsc.failures = 0 ∧ s.clearEngine.gsc.off = ⟨true, 0⟩
      ∧ s.clearEngine.gsc.dwell = 20 := by
  have hoff := State.engineOff_sameEngine (s := s.setGsc { s.gsc with failures := 0 }) h 20
  rw [State.clearEngine_of_faulted hr he, hoff]
  exact ⟨rfl, rfl, rfl, rfl⟩

/-- The node in which a CLEAR has formed its reply. -/
def State.cleared (s : State) (n : Nat) : State := (s.requestPlaced n 3).carryClear n

theorem State.cleared_eq (s : State) (n : Nat) :
    s.cleared n = (((s.requestPlaced n 3).setStu { s.stu with set := s.clearedSet }).clearEngine).reply n .done [] := rfl

theorem State.cleared_frame {n : Nat} (h : s.mpt.ringSeq < seqMax) (hn : freePlace s.sli.replies = some n) :
    KeptBut s (s.cleared n) [.stu, .sli, .blu, .plu, .gsc, .stp, .mpt]
      ∧ (s.cleared n).stu = { s.stu with set := s.clearedSet }
      ∧ (s.cleared n).sli.replies = s.sli.replies ++ [⟨n, .queued, 3, .done, []⟩]
      ∧ (s.cleared n).mpt.eeprom = s.mpt.eeprom ∧ (s.cleared n).mpt.ringSeq = s.mpt.ringSeq
      ∧ (s.cleared n).gsc.starts = s.gsc.starts := by
  let p := (s.requestPlaced n 3).setStu { s.stu with set := s.clearedSet }
  have hp : KeptBut s p [.stu, .sli, .blu, .plu, .gsc, .stp, .mpt] :=
    KeptBut.setStu ((s.requestPlaced_kept n 3).mono (by decide)) (by decide) _
  have hclear := State.clearEngine_kept (s := p) h
  obtain ⟨heeprom, hseq, hstarts⟩ := State.clearEngine_eeprom (s := p) h
  have hstu : p.clearEngine.stu = p.stu := hclear .stu (by decide)
  have hsli : p.clearEngine.sli = p.sli := hclear .sli (by decide)
  rw [State.cleared_eq]
  refine ⟨(hp.trans (hclear.mono (by decide))).trans ((State.reply_kept _ _ _ _).mono (by decide)), hstu, ?_, heeprom, hseq,
    hstarts⟩
  show formReply p.clearEngine.sli.replies n .done [] = _
  rw [hsli]
  exact formReply_append hn _ rfl .done []

/-- Settles O23: the status set, the engine and the operating state in turn. -/
theorem clearKeepsStandingConditions : Obligations.ClearKeepsStandingConditions := by
  intro s target args n hset ha h hpending hseq
  have hr : s.refusal 3 args = none := State.refusal_of_force (by decide) hpending
  obtain ⟨-, hserves, -, -, hfree⟩ := id h
  obtain ⟨hkept, hstu, hreplies, heeprom, hringSeq, hstarts⟩ := State.cleared_frame hseq hfree
  have hlimit : (s.cleared n).role = some .genset → (s.cleared n).mpt.ringSeq < seqMax := fun _ => by rw [hringSeq]; exact hseq
  have hf := Follows.of_settle hlimit
  have hnsq : (s.cleared n).nsq = s.nsq := hkept .nsq (by decide)
  have hstatus : ∀ y, (s.cleared n).settle.status y = statusIn s.clearedSet y := fun y => by
    rw [hf.status, State.status, hstu]
  have hlatched : ∀ y, statusIn latchedSet y = true → (s.cleared n).settle.status y = statusIn s.standing y := fun y hy => by
    rw [hstatus, State.clearedSet_of_latched hy]
  refine ⟨(s.cleared n).settle, congrArg Host.Outcome.next (State.serviceRequest_of_accepted h ha hr),
    ?_, ?_, ?_, ?_, ?_, ?_, ?_, ?_, ?_, ?_, ?_, ?_, ?_, fun hop => ?_, fun hop => ?_, fun hrole he => ?_, fun he hop => ?_,
    ?_, ?_, ?_, ?_, ?_, ?_⟩
  · rw [hlatched _ (by decide), State.statusIn_standing]; simp
  · rw [hlatched _ (by decide), State.statusIn_standing]; simp
  · rw [hlatched _ (by decide), State.statusIn_standing]; simp
  · rw [hlatched _ (by decide), State.statusIn_standing]; simp
  · rw [hlatched _ (by decide), State.statusIn_standing]; simp
  · rw [hlatched _ (by decide), State.statusIn_standing]; simp
  · rw [hlatched _ (by decide), State.statusIn_standing]; simp
  · rw [hlatched _ (by decide), State.statusIn_standing]; simp
  · rw [hlatched _ (by decide), State.statusIn_standing]; simp
  · rw [hlatched _ (by decide), State.statusIn_standing, if_pos rfl, anyDue_iff]
  · intro y hy
    have hother : ∀ y ∈ [Status.wearBlank, .partnerFault, .plausU, .plausSpeed, .demandLost, .linkQuiet, .linkNoisy, .tableFull,
        .shortBrake, .derate, .stageHot, .wearNear, .forcedFault, .forcedWarn], statusIn latchedSet y = false
          ∧ y ≠ .wearDue ∧ y ≠ .stageLost ∧ y ≠ .cfgCorrupt ∧ y ≠ .cfgDefault ∧ y ≠ .strap := by decide
    rw [hstatus, State.clearedSet_of_other (hother y hy).1 (hother y hy).2]
  · rw [hf.stu, hstu]
  · rw [hf.stu, hstu]
  · rw [State.settle_of_sync (hnsq ▸ hop), State.compareF_nsq, hnsq, hop]
  · refine State.settle_op hlimit ?_
    rw [hnsq]
    rw [State.serves] at hserves
    cases hs : s.nsq.op <;> rw [hs] at hserves hop <;> simp_all [OpState.serves]
  · have hgsc := State.clearEngine_gsc (s := (s.requestPlaced n 3).setStu { s.stu with set := s.clearedSet }) hrole he hseq
    obtain ⟨h1, h2, h3, h4⟩ : (s.cleared n).gsc.engine = .off ∧ (s.cleared n).gsc.failures = 0
      ∧ (s.cleared n).gsc.off = ⟨true, 0⟩ ∧ (s.cleared n).gsc.dwell = 20 := hgsc
    rw [State.settle_sameEngine (s := s.cleared n) (.inl h1)]
    exact ⟨h1, h2, h3, h4⟩
  · have hgsc : (s.cleared n).gsc = s.gsc := by
      have hstill := State.clearEngine_of_not_faulted (s := (s.requestPlaced n 3).setStu { s.stu with set := s.clearedSet })
        (fun hc => he hc.2)
      rw [State.cleared_eq, hstill]
      rfl
    rw [← hnsq] at hop
    unfold State.settle at hop ⊢
    rw [State.compareF_nsq] at hop
    rw [State.compareF_gsc, ← hgsc]
    rcases (s.cleared n).decideOp_cases with e | ⟨ho, -, e⟩ | ⟨ho, -, e⟩
    · rw [e]
    · rw [e, (State.enterServing_lines hlimit _).1, ho] at hop; cases hop
    · rw [e, (State.enterServing_lines hlimit _).1, ho] at hop; cases hop
  · rw [hf.starts, hstarts]
  · rw [hf.sli.replies, hreplies]
  · rw [hf.ptb]; exact hkept .ptb (by decide)
  · rw [hf.she]; exact hkept .she (by decide)
  · rw [hf.wau]; exact hkept .wau (by decide)
  · rw [hf.eeprom, heeprom]

end
end Sys2Proof.Machine
end

/-! # WEAR_RESET (R125, R167) -/
section
namespace Sys2Proof.Machine

section
variable {c : Instr} {s t u : State}

theorem State.withdraws_of_status_eq (h : ∀ y, statusIn withdrawingSet y = true → t.status y = s.status y) :
    t.withdraws = s.withdraws := by
  have hset : t.stu.set &&& withdrawingSet = s.stu.set &&& withdrawingSet := by
    refine statusSet_ext fun y => ?_
    rw [statusIn_and, statusIn_and]
    cases hy : statusIn withdrawingSet y with
    | false => rw [Bool.and_false, Bool.and_false]
    | true => exact congrArg (· && true) (h y hy)
  rw [State.withdraws, State.withdraws, hset]

/-! ### The item emptied -/

/-- The wear table with an item emptied, and WEAR_NEAR after it (R125 steps 1 to 3). -/
def State.wearEmptied (s : State) (i : Nat) : State :=
  (s.setWau (s.wau.resetItem s.role i)).putStatus .wearNear (anyNear (s.wau.resetItem s.role i).items)

theorem State.emptyItem_match (s : State) (i : Nat) : s.emptyItem i = match (s.wearEmptied i).role with
    | some .axle => if i = 1 then (s.wearEmptied i).reformOwn else s.wearEmptied i
    | some .pack => if i = 1 then (s.wearEmptied i).formPackLimits else s.wearEmptied i
    | some .genset | none => s.wearEmptied i := rfl

@[simp] theorem State.wearEmptied_role (s : State) (i : Nat) : (s.wearEmptied i).role = s.role := rfl

/-- A reset of A1 re-forms the own capability record with the new q (R123). -/
theorem State.emptyItem_of_pads (hr : s.role = some .axle) : s.emptyItem 1 = (s.wearEmptied 1).setBlu { s.blu with
    own := axleRecord s.mpt.copy s.nsq.op s.stp.held0 s.stp.held1 100 s.blu.slip s.blu.limitL } := by
  have hq : (s.wau.resetItem s.role 1).q = 100 := by rw [Wear.resetItem_q, if_pos ⟨hr, rfl⟩]
  have hrole : (s.wearEmptied 1).role = some .axle := hr
  have hreform : s.emptyItem 1 = (s.wearEmptied 1).reformOwn := by
    rw [State.emptyItem_match, hrole]
    rfl
  rw [hreform]
  unfold State.reformOwn
  rw [hrole]
  exact congrArg (fun q => (s.wearEmptied 1).setBlu { s.blu with
    own := axleRecord s.mpt.copy s.nsq.op s.stp.held0 s.stp.held1 q s.blu.slip s.blu.limitL }) hq

/-- The Pack Limits Unit with its limits formed for d_w = 100 and advertised (R72 to R78, R124). -/
def State.freshLimits (s : State) : PackUnit :=
  (s.plu.formLimits s.mpt.copy (packReading s.stp.held1) 100).advertise s.nsq.op (packReading s.stp.held1)
    (heldPAct s.stp.held0)

/-- A reset of S1 forms the pack's limits again with the new d_w (R124). -/
theorem State.emptyItem_of_charge (hr : s.role = some .pack) :
    s.emptyItem 1 = ((s.wearEmptied 1).setPlu s.freshLimits).putStatus .derate s.freshLimits.derated := by
  have hdw : (s.wau.resetItem s.role 1).dw = 100 := by rw [Wear.resetItem_dw, if_pos ⟨hr, rfl⟩]
  have hform : s.emptyItem 1 = (s.wearEmptied 1).formPackLimits := by
    rw [State.emptyItem_match, State.wearEmptied_role, hr]
    rfl
  have hlimits : (s.wearEmptied 1).plu.formLimits (s.wearEmptied 1).mpt.copy (packReading (s.wearEmptied 1).stp.held1)
      (s.wearEmptied 1).wau.dw = s.plu.formLimits s.mpt.copy (packReading s.stp.held1) 100 :=
    congrArg (s.plu.formLimits s.mpt.copy (packReading s.stp.held1)) hdw
  rw [hform]
  unfold State.formPackLimits
  dsimp only
  rw [hlimits]
  unfold State.reformOwn
  rw [show ((s.wearEmptied 1).setPlu (s.plu.formLimits s.mpt.copy (packReading s.stp.held1) 100)).role = some .pack from hr]
  rfl

/-- Any other item changes nothing beyond the table. -/
theorem State.emptyItem_of_plain {i : Nat} (ha : ¬ (s.role = some .axle ∧ i = 1)) (hp : ¬ (s.role = some .pack ∧ i = 1)) :
    s.emptyItem i = s.wearEmptied i := by
  rw [State.emptyItem_match, State.wearEmptied_role]
  split
  · next hr => exact if_neg fun hi => ha ⟨hr, hi⟩
  · next hr => exact if_neg fun hi => hp ⟨hr, hi⟩
  all_goals rfl

/-- The three cases of a WEAR_RESET. -/
theorem State.emptyItem_cases (s : State) (i : Nat) :
    (s.role = some .axle ∧ i = 1 ∧ s.emptyItem i = (s.wearEmptied i).setBlu { s.blu with
        own := axleRecord s.mpt.copy s.nsq.op s.stp.held0 s.stp.held1 100 s.blu.slip s.blu.limitL })
    ∨ (s.role = some .pack ∧ i = 1 ∧ s.emptyItem i
        = ((s.wearEmptied i).setPlu s.freshLimits).putStatus .derate s.freshLimits.derated)
    ∨ (s.role ≠ some .axle ∨ i ≠ 1) ∧ (s.role ≠ some .pack ∨ i ≠ 1) ∧ s.emptyItem i = s.wearEmptied i := by
  by_cases ha : s.role = some .axle ∧ i = 1
  · obtain ⟨hr, rfl⟩ := ha
    exact .inl ⟨hr, rfl, State.emptyItem_of_pads hr⟩
  · by_cases hp : s.role = some .pack ∧ i = 1
    · obtain ⟨hr, rfl⟩ := hp
      exact .inr (.inl ⟨hr, rfl, State.emptyItem_of_charge hr⟩)
    · exact .inr (.inr ⟨not_and_or.mp ha, not_and_or.mp hp, State.emptyItem_of_plain ha hp⟩)

theorem State.wearEmptied_kept (s : State) (i : Nat) : KeptBut s (s.wearEmptied i) [.wau, .stu] :=
  ((s.setWau_kept _).mono (by decide)).putStatus (by decide) _ _

theorem State.wearEmptied_status (s : State) (i : Nat) :
    (s.wearEmptied i).status .wearNear = anyNear (s.wau.resetItem s.role i).items
      ∧ ∀ y, y ≠ .wearNear → (s.wearEmptied i).status y = s.status y :=
  ⟨State.putStatus_status_self _ _ _, fun _ hy => State.putStatus_status_ne _ _ hy⟩

theorem State.emptyItem_frame (s : State) (i : Nat) : KeptBut s (s.emptyItem i) [.wau, .stu, .blu, .plu]
    ∧ (s.emptyItem i).wau = s.wau.resetItem s.role i
    ∧ (s.emptyItem i).status .wearNear = anyNear (s.wau.resetItem s.role i).items
    ∧ (∀ y, y ≠ .wearNear → y ≠ .derate → (s.emptyItem i).status y = s.status y)
    ∧ (s.emptyItem i).stu.forceFault = s.stu.forceFault := by
  have hkept : KeptBut s (s.wearEmptied i) [.wau, .stu, .blu, .plu] := (s.wearEmptied_kept i).mono (by decide)
  obtain ⟨hnear, hothers⟩ := s.wearEmptied_status i
  rcases s.emptyItem_cases i with ⟨-, -, h⟩ | ⟨-, -, h⟩ | ⟨-, -, h⟩ <;> rw [h]
  · exact ⟨hkept.setBlu (by decide) _, rfl, hnear, fun y h1 _ => hothers y h1, rfl⟩
  · refine ⟨(hkept.setPlu (by decide) _).putStatus (by decide) _ _, rfl,
      (State.putStatus_status_ne _ _ (by decide)).trans hnear,
      fun y h1 h2 => (State.putStatus_status_ne _ _ h2).trans (hothers y h1), rfl⟩
  · exact ⟨hkept, rfl, hnear, fun y h1 _ => hothers y h1, rfl⟩

/-- The limits that a reset of S1 forms from a held record (R72 to R78). -/
theorem State.freshLimits_of_held {nib : BitVec 4} {u soc ic id : Nat} {tp ip : Int} {fault : Bool}
    (h : s.stp.held1 = some ⟨nib, .monitor u soc tp ic id ip fault⟩) :
    s.freshLimits.pd0 = u * id / 1000 ∧ s.freshLimits.poF = min (u * id / 1000) 1000 ∧ s.freshLimits.pa0 = u * ic / 1000
      ∧ s.freshLimits.pa1 = taperedAcceptance s.mpt.copy soc (u * ic / 1000)
      ∧ s.freshLimits.pa2 = coldAcceptance tp s.freshLimits.pa1 ∧ s.freshLimits.paF = min s.freshLimits.pa2 1000
      ∧ s.freshLimits.own = { po := if s.nsq.op = .active ∧ fault = false then s.freshLimits.poF else 0
                              pa := if s.nsq.op = .active ∧ fault = false then s.freshLimits.paF else 0
                              soc := soc, pAct := heldPAct s.stp.held0 } := by
  have hr : packReading s.stp.held1 = ⟨u, soc, tp, ic, id, fault⟩ := by rw [h]; rfl
  unfold State.freshLimits
  rw [hr]
  refine ⟨rfl, ?_, rfl, rfl, rfl, ?_, rfl⟩
  · show min (u * id / 1000 * 100 / 100) 1000 = _
    rw [Nat.mul_div_cancel _ (by decide)]
  · show min (coldAcceptance tp (taperedAcceptance s.mpt.copy soc (u * ic / 1000)) * 100 / 100) 1000 = _
    rw [Nat.mul_div_cancel _ (by decide)]
    rfl

theorem State.freshLimits_of_none (h : s.stp.held1 = none) :
    s.freshLimits.poF = 0 ∧ s.freshLimits.paF = 0 ∧ s.freshLimits.own.po = 0 ∧ s.freshLimits.own.pa = 0 := by
  have hr : packReading s.stp.held1 = ⟨0, 0, 0, 0, 0, false⟩ := by rw [h]; rfl
  have htaper : taperedAcceptance s.mpt.copy 0 0 = 0 := by
    unfold taperedAcceptance
    split_ifs <;> simp
  have hpo : (s.plu.formLimits s.mpt.copy ⟨0, 0, 0, 0, 0, false⟩ 100).poF = 0 := by simp [PackUnit.formLimits]
  have hpa : (s.plu.formLimits s.mpt.copy ⟨0, 0, 0, 0, 0, false⟩ 100).paF = 0 := by
    simp [PackUnit.formLimits, htaper, coldAcceptance]
  unfold State.freshLimits
  rw [hr]
  refine ⟨hpo, hpa, ?_, ?_⟩
  · simp [PackUnit.advertise, hpo]
  · simp [PackUnit.advertise, hpa]

theorem taperedAcceptance_cases (c : List Word) (soc pa0 : Nat) :
    (socMax c ≤ soc → taperedAcceptance c soc pa0 = 0)
    ∧ (soc < socMax c → socTaper c ≤ soc →
        taperedAcceptance c soc pa0 = pa0 * (socMax c - soc) / (socMax c - socTaper c))
    ∧ (soc < socMax c → soc < socTaper c → taperedAcceptance c soc pa0 = pa0) := by
  refine ⟨fun h => if_pos h, fun h h' => ?_, fun h h' => ?_⟩
  · rw [taperedAcceptance, if_neg (by omega), if_pos h']
  · rw [taperedAcceptance, if_neg (by omega), if_neg (by omega)]

theorem coldAcceptance_cases (tp : Int) (pa1 : Nat) : (tp < -10 → coldAcceptance tp pa1 = 0)
    ∧ (-10 ≤ tp → tp < 0 → coldAcceptance tp pa1 = pa1 / 2) ∧ (0 ≤ tp → coldAcceptance tp pa1 = pa1) := by
  refine ⟨fun h => if_pos h, fun h h' => ?_, fun h => ?_⟩
  · rw [coldAcceptance, if_neg (by omega), if_pos h']
  · rw [coldAcceptance, if_neg (by omega), if_neg (by omega)]

/-- What a flush requested below the sequence limit leaves in the Memory Port (R167, R171). -/
theorem State.requestFlush_mpt (h : s.mpt.ringSeq < seqMax) (ps : List Party) :
    (s.mpt.op = .none → ∃ job, (s.requestFlush ps).mpt.op = .flush job ∧ job.parties = ps
      ∧ job.snapshot.accs = s.wau.items.map WearItem.acc)
    ∧ (s.mpt.op ≠ .none → (s.requestFlush ps).mpt.op = s.mpt.op
      ∧ (s.requestFlush ps).mpt.pendingFlush = some ((s.mpt.pendingFlush.getD []) ++ ps)) := by
  refine ⟨fun ho => ?_, fun ho => ?_⟩
  · rw [State.requestFlush_idle ho, State.launchFlush_eq h]
    exact ⟨_, rfl, rfl, rfl⟩
  · rw [State.requestFlush_busy ho]
    exact ⟨rfl, rfl⟩

theorem State.refusal_of_wearReset {w : Word} (hp : s.nsq.pendingReset = .none) (hparked : s.given.parked = true)
    (h1 : 1 ≤ argItem [w]) (hlen : argItem [w] ≤ s.wau.items.length) : s.refusal 9 [w] = none := by
  refine State.refusal_eq_none (by decide) (fun _ => hparked) ?_ ?_
  · rw [badArgument_iff]; omega
  · rw [State.findsBusy_iff, hp]; simp

/-- Settles O25: the three cases of `State.emptyItem`, then the flush that the reply waits for. -/
theorem wearResetEmptiesItsItem : Obligations.WearResetEmptiesItsItem := by
  intro s target w item n hset h hp hparked hseq hitem h1 hlen
  have harg : argItem [w] = item := hitem.symm
  have hr : s.refusal 9 [w] = none := State.refusal_of_wearReset hp hparked (by omega) (by omega)
  let p := s.requestPlaced n 9
  let e := p.emptyItem item
  let u := e.requestFlush [.wearReset n item]
  obtain ⟨hkept, hwau, hnear, hothers, -⟩ := p.emptyItem_frame item
  have hmpt : e.mpt = s.mpt := hkept .mpt (by decide)
  have hseq' : e.mpt.ringSeq < seqMax := by rw [hmpt]; exact hseq
  have hflush := State.requestFlush_kept hseq' [.wearReset n item]
  have hcases := p.emptyItem_cases item
  obtain ⟨hidle, hbusy⟩ := State.requestFlush_mpt hseq' [.wearReset n item]
  have hexec : exec (.wearReset 15 target [w]) s = .next u.compareF := by
    have hw : u.withdraws = s.withdraws := State.withdraws_of_status_eq fun y hy => by
      have hu : u.stu = e.stu := hflush .stu (by decide)
      rw [State.status_of_stu y hu, hothers y (by rintro rfl; revert hy; decide) (by rintro rfl; revert hy; decide)]
      rfl
    have hop : u.nsq.op = s.nsq.op := by
      rw [show u.nsq = e.nsq from hflush .nsq (by decide), show e.nsq = p.nsq from hkept .nsq (by decide)]
      rfl
    show Host.Outcome.next (s.serviceRequest 15 target 9 [w] fun t n => t.carryWearReset (argItem [w]) n) = _
    rw [State.serviceRequest_of_accepted h (by simp) hr, State.carryWearReset_eq, harg, hset.settle_eq hop hw]
  have hframe : KeptBut s u.compareF [.wau, .stu, .sli, .mpt, .blu, .plu] :=
    ((((s.requestPlaced_kept n 9).mono (by decide)).trans (hkept.mono (by decide))).trans (hflush.mono (by decide))).trans
      ((State.compareF_kept _).mono (by decide))
  have htwau : u.compareF.wau = s.wau.resetItem s.role item := by
    rw [State.compareF_wau, show u.wau = e.wau from hflush .wau (by decide), hwau]
    rfl
  have htblu : u.compareF.blu = e.blu := (State.compareF_blu u).trans (hflush .blu (by decide))
  have htplu : u.compareF.plu = e.plu := (State.compareF_plu u).trans (hflush .plu (by decide))
  have htstatus : ∀ y, u.compareF.status y = e.status y := fun y =>
    (State.compareF_status u y).trans (State.status_of_stu y (hflush .stu (by decide)))
  have htmpt : u.compareF.mpt = u.mpt := State.compareF_mpt u
  have hsli : u.sli = p.sli := (hflush .sli (by decide)).trans (hkept .sli (by decide))
  have hlt : item - 1 < s.wau.items.length := by omega
  refine ⟨u.compareF, hexec, ?_, ?_, fun j hj => ?_, ?_, ?_, ?_, fun hrole hi => ?_, fun hno => ?_, fun hrole hi => ?_,
    fun hrole hi => ?_, fun hno => ?_, fun hno => ?_, fun hrole hi => ?_, ?_, ?_, fun y h2 h3 => ?_, fun ho => ?_, fun ho => ?_,
    ?_, hframe, .of_compareF ?_⟩
  · rw [htwau, Wear.resetItem_items, setItem_length]
  · rw [htwau, Wear.resetItem_items, setItem, List.getElem?_set_self hlt]
  · rw [htwau, Wear.resetItem_items, setItem, List.getElem?_set_ne (Ne.symm hj)]
  · rw [htwau, Wear.resetItem_armA4]
  · rw [htwau, Wear.resetItem_armS3]
  · rw [htwau, Wear.resetItem_hot]
  · rw [htwau, Wear.resetItem_runSeconds, if_pos ⟨hrole, hi⟩]
  · rw [htwau, Wear.resetItem_runSeconds, if_neg (not_and_or.mpr hno)]
  · refine ⟨by rw [htwau, Wear.resetItem_q, if_pos ⟨hrole, hi⟩], ?_⟩
    rcases hcases with ⟨-, -, he⟩ | ⟨hpack, -, -⟩ | ⟨hno, -, -⟩
    · rw [htblu, show e = _ from he]; rfl
    · rw [show p.role = s.role from rfl, hrole] at hpack; cases hpack
    · exact absurd hi (hno.resolve_left (not_not_intro hrole))
  · rw [htwau, Wear.resetItem_dw, if_pos ⟨hrole, hi⟩]
  · refine ⟨by rw [htwau, Wear.resetItem_q, if_neg (not_and_or.mpr hno)], ?_⟩
    rcases hcases with ⟨haxle, hi, -⟩ | ⟨-, -, he⟩ | ⟨-, -, he⟩
    · exact absurd ⟨haxle, hi⟩ (not_and_or.mpr hno)
    · rw [htblu, show e = _ from he]; rfl
    · rw [htblu, show e = _ from he]; rfl
  · refine ⟨by rw [htwau, Wear.resetItem_dw, if_neg (not_and_or.mpr hno)], ?_, ?_⟩
    · rcases hcases with ⟨-, -, he⟩ | ⟨hpack, hi, -⟩ | ⟨-, -, he⟩
      · rw [htplu, show e = _ from he]; rfl
      · exact absurd ⟨hpack, hi⟩ (not_and_or.mpr hno)
      · rw [htplu, show e = _ from he]; rfl
    · rw [htstatus]
      rcases hcases with ⟨-, -, he⟩ | ⟨hpack, hi, -⟩ | ⟨-, -, he⟩
      · rw [show e = _ from he]; exact (p.wearEmptied_status item).2 _ (by decide)
      · exact absurd ⟨hpack, hi⟩ (not_and_or.mpr hno)
      · rw [show e = _ from he]; exact (p.wearEmptied_status item).2 _ (by decide)
  · have he : e = ((p.wearEmptied item).setPlu s.freshLimits).putStatus .derate s.freshLimits.derated := by
      rcases hcases with ⟨haxle, -, -⟩ | ⟨-, -, he⟩ | ⟨-, hno, -⟩
      · rw [show p.role = s.role from rfl, hrole] at haxle; cases haxle
      · exact he
      · exact absurd hi (hno.resolve_left (not_not_intro hrole))
    have hplu : u.compareF.plu = s.freshLimits := by rw [htplu, he]; rfl
    have hderate : u.compareF.status .derate = s.freshLimits.derated := by
      rw [htstatus, he]; exact State.putStatus_status_self _ _ _
    rw [hplu, hderate]
    refine ⟨State.freshLimits_of_none, fun nib u soc tp ic id ip fault hheld => ?_⟩
    obtain ⟨hpd0, hpoF, hpa0, hpa1, hpa2, hpaF, hown⟩ := State.freshLimits_of_held hheld
    obtain ⟨t1, t2, t3⟩ := taperedAcceptance_cases s.mpt.copy soc (u * ic / 1000)
    obtain ⟨c1, c2, c3⟩ := coldAcceptance_cases tp s.freshLimits.pa1
    rw [← hpa1] at t1
    rw [← hpa1, ← hpa0] at t2 t3
    rw [← hpa2] at c1 c2 c3
    refine ⟨hpd0, by rw [hpoF, hpd0], hpa0, t1, t2, t3, c1, c2, c3, hpaF, by rw [hown], fun ha hf => ?_, fun hn => ?_, ?_⟩
    · rw [hown]
      exact ⟨if_pos ⟨ha, hf⟩, if_pos ⟨ha, hf⟩⟩
    · have hno : ¬ (s.nsq.op = .active ∧ fault = false) := fun ⟨ha, hf⟩ => by
        rcases hn with hn | hn
        · exact hn ha
        · rw [hf] at hn; cases hn
      rw [hown]
      exact ⟨if_neg hno, if_neg hno⟩
    · exact decide_eq_true_iff
  · rw [htstatus, show e.status .wearNear = _ from hnear, htwau, anyNear_iff]
    rfl
  · rw [htstatus, show e.status .wearDue = _ from hothers _ (by decide) (by decide)]
    rfl
  · rw [htstatus, show e.status y = _ from hothers _ h2 h3]
    rfl
  · obtain ⟨job, h2, h3, h4⟩ := hidle (by rw [hmpt]; exact ho)
    refine ⟨job, by rw [htmpt]; exact h2, h3, ?_⟩
    rw [h4, htwau, show e.wau = _ from hwau]
    rfl
  · obtain ⟨h2, h3⟩ := hbusy (by rw [hmpt]; exact ho)
    rw [htmpt]
    exact ⟨h2.trans (by rw [hmpt]), _, h3, List.mem_append_right _ List.mem_cons_self⟩
  · have hf := Follows.of_requestFlush hseq' [.wearReset n item]
    rw [htmpt, show u.mpt.eeprom = e.mpt.eeprom from hf.eeprom, hmpt]
  · rw [hsli]
    rfl

end
end Sys2Proof.Machine
end

/-! # RESTART, WAKE and the resets that are pending (R44, R141, R165, R174, R175, R184) -/
section
namespace Sys2Proof.Machine

section
variable {c : Instr} {s t u : State}

/-! ### The comparison of F that finds no change (R138) -/

theorem State.compareF_of_formed (hs : s.serves = true) (h : s.stu.fValue = s.fBit) : s.compareF = s := by
  have hforms : s.formsF = true := by
    unfold State.formsF
    unfold State.serves OpState.serves at hs
    split at hs <;> simp_all
  unfold State.compareF
  dsimp only
  rw [hforms, if_pos rfl, h, bne_self_eq_false, Bool.false_and, if_neg (by decide), ← h]
  rfl

/-- SYNC entry forms the F value itself, so that the end of the event finds it formed. -/
theorem State.enterSync_settle (s : State) (held : Bool) : (s.enterSync held).settle = s.enterSync held := by
  have hop : (s.enterSync held).nsq.op = .sync := by rw [State.enterSync_nsq]
  have hserves : (s.enterSync held).serves = true := by rw [State.serves, hop]; rfl
  rw [State.settle_of_sync hop, State.compareF_of_formed hserves ((s.enterSync_settled held).2.2 hserves)]

/-! ### The records of a RESTART or WAKE (R37, R38, R69, R85, R109, R155, R166) -/

/-- A record re-formed outside ACTIVE with nothing held stays at its reset values. -/
theorem State.reformOwn_atReset (hop : s.nsq.op ≠ .active) (h0 : s.stp.held0 = none) (h1 : s.stp.held1 = none)
    (hblu : s.blu.AtReset) (hplu : s.plu.AtReset) (hgsc : s.gsc.AtReset) :
    s.reformOwn.blu.AtReset ∧ s.reformOwn.plu.AtReset ∧ s.reformOwn.gsc.AtReset := by
  unfold State.reformOwn
  split
  · refine ⟨?_, hplu, hgsc⟩
    obtain ⟨b1, b2, b3, b4, b5, b6, b7, b8, b9, b10, hslip, b12, b13, -, -, -, -, -⟩ := hblu
    refine ⟨b1, b2, b3, b4, b5, b6, b7, b8, b9, b10, hslip, b12, b13, ?_, ?_, ?_, ?_, ?_⟩
    · exact if_neg hop
    · exact if_neg hop
    · show axleFb s.mpt.copy s.stp.held1 = 0
      rw [h1]
      rfl
    · show s.blu.slip.flag = false
      rw [hslip]
      rfl
    · show heldPAct s.stp.held0 = 0
      rw [h0]
      rfl
  · refine ⟨hblu, ?_, hgsc⟩
    obtain ⟨p1, p2, p3, p4, p5, p6, p7, p8, -, -, -, -⟩ := hplu
    refine ⟨p1, p2, p3, p4, p5, p6, p7, p8, if_neg fun h => hop h.1, if_neg fun h => hop h.1, ?_, ?_⟩
    · show (packReading s.stp.held1).soc = 0
      rw [h1]
      rfl
    · show heldPAct s.stp.held0 = 0
      rw [h0]
      rfl
  · refine ⟨hblu, hplu, ?_⟩
    obtain ⟨g1, g2, g3, g4, g5, g6, g7, g8, g9, g10, g11, g12, g13, g14, g15, g16, g17, g18, -, -, -⟩ := hgsc
    refine ⟨g1, g2, g3, g4, g5, g6, g7, g8, g9, g10, g11, g12, g13, g14, g15, g16, g17, g18, if_neg hop, if_neg hop, ?_⟩
    show heldPAct s.stp.held0 = 0
    rw [h0]
    rfl
  · exact ⟨hblu, hplu, hgsc⟩

/-- What SYNC entry starts in the role blocks (R45, R86, R116). -/
theorem State.syncStarted_roles (s : State) (held : Bool) :
    (s.role = some .axle → (s.syncStarted held).blu.rampTimer = ⟨true, 0⟩)
    ∧ (s.role = some .pack → (s.syncStarted held).wau.minute = ⟨true, 0⟩)
    ∧ (s.role = some .genset → (s.syncStarted held).gsc.tick = ⟨true, 0⟩ ∧ (s.syncStarted held).gsc.off = ⟨true, 0⟩)
    ∧ (s.syncStarted held).blu = { s.blu with rampTimer := (s.syncStarted held).blu.rampTimer }
    ∧ (s.syncStarted held).gsc
        = { s.gsc with tick := (s.syncStarted held).gsc.tick, off := (s.syncStarted held).gsc.off }
    ∧ ((s.syncStarted held).gsc.off = s.gsc.off ∨ (s.syncStarted held).gsc.off = ⟨true, 0⟩) := by
  unfold State.syncStarted
  cases held <;> dsimp only <;> split
  all_goals
    next hr =>
    have hr' : s.role = _ := hr
    refine ⟨fun h => ?_, fun h => ?_, fun h => ?_, rfl, rfl, ?_⟩
    all_goals first
      | exact rfl
      | exact ⟨rfl, rfl⟩
      | exact .inl rfl
      | exact .inr rfl
      | (rw [hr'] at h; cases h)

theorem State.reformOwn_gsc_timers (s : State) :
    s.reformOwn.gsc.tick = s.gsc.tick ∧ s.reformOwn.gsc.off = s.gsc.off := by
  rcases s.reformOwn_gsc_cases with h | h <;> rw [h] <;> exact ⟨rfl, rfl⟩

theorem restateItems_accs (c : List Word) (items : List WearItem) :
    (restateItems c items).map WearItem.acc = items.map WearItem.acc := by
  refine List.ext_getElem? fun i => ?_
  rw [restateItems, List.getElem?_map, List.getElem?_mapIdx, List.getElem?_map, Option.map_map]
  rfl

theorem restateItems_residues (c : List Word) (items : List WearItem) :
    (restateItems c items).map WearItem.residue = items.map WearItem.residue := by
  refine List.ext_getElem? fun i => ?_
  rw [restateItems, List.getElem?_map, List.getElem?_mapIdx, List.getElem?_map, Option.map_map]
  rfl

theorem Wear.afterReset_flags (w : Wear) (role : Option Role) (c : List Word) :
    (w.afterReset role c).runSeconds = w.runSeconds ∧ (w.afterReset role c).armA4 = false
    ∧ (w.afterReset role c).armS3 = false ∧ (w.afterReset role c).hot = false := by
  unfold Wear.afterReset Wear.derive
  split <;> exact ⟨rfl, rfl, rfl, rfl⟩

/-- The three statuses that a RESTART or WAKE keeps (R141). -/
theorem statusIn_keptSet (y : Status) : statusIn keptSet y = decide (y ∈ [Status.cfgDefault, .cfgCorrupt, .memFault]) := by
  cases y <;> rfl

section
variable (s : State) (k : ResetKind) (held : Bool)

/-- The role blocks as SYNC entry leaves them after a RESTART or WAKE (R45, R69, R85, R109, R116). -/
theorem State.keptBlocks_enterSync_roles :
    ((s.keptBlocks k).enterSync held).blu.AtReset ∧ ((s.keptBlocks k).enterSync held).plu.AtReset
    ∧ ((s.keptBlocks k).enterSync held).gsc.AtReset := by
  obtain ⟨-, -, -, hblu, hgsc, hoff⟩ := (s.keptBlocks k).syncStarted_roles held
  have hplu : ((s.keptBlocks k).syncStarted held).plu = PackUnit.initial :=
    (s.keptBlocks k).syncStarted_kept held .plu (by decide)
  have hstp := State.syncStarted_stp (s.keptBlocks k) held
  refine State.reformOwn_atReset (s := (s.keptBlocks k).syncStarted held) ?_ ?_ ?_ ?_ ?_ ?_
  · rw [State.syncStarted_nsq]; nofun
  · rw [hstp]; cases held <;> rfl
  · rw [hstp]; cases held <;> rfl
  · rw [hblu]; exact BlendUnit.initial_atReset _
  · rw [hplu]; exact PackUnit.initial_atReset
  · rw [hgsc]
    obtain ⟨g1, g2, g3, g4, g5, g6, g7, g8, -, g10⟩ := Genset.initial_atReset
    refine ⟨g1, g2, g3, g4, g5, g6, g7, g8, ?_, g10⟩
    rcases hoff with h | h
    · rw [h]; rfl
    · rw [h]

/-- Every record after a RESTART or WAKE (R37, R155, R166). -/
theorem State.keptBlocks_enterSync_records : ResetRecords ((s.keptBlocks k).enterSync held) := by
  have hshe : ((s.keptBlocks k).enterSync held).she = ShareRecord.initial :=
    (s.keptBlocks k).enterSync_kept held .she (by decide)
  obtain ⟨hblu, hplu, hgsc⟩ := s.keptBlocks_enterSync_roles k held
  refine ⟨?_, ?_, hshe, hblu, hplu, hgsc, ?_, ?_⟩
  · rw [State.enterSync_ptb]; rfl
  · rw [State.enterSync_ptb]; rfl
  · rw [State.enterSync_stp]; cases held <;> exact StagePort.initial_atReset
  · rw [State.enterSync_sli]
    exact ⟨rfl, rfl, rfl, rfl, rfl, rfl, rfl, rfl⟩

/-- The timers that SYNC entry starts after a RESTART or WAKE (R38, R45, R86, R116, R155, R169, R178, R179). -/
theorem State.keptBlocks_enterSync_timers : SyncTimersStarted ((s.keptBlocks k).enterSync held) := by
  obtain ⟨hramp, hminute, htick, -, -, -⟩ := (s.keptBlocks k).syncStarted_roles held
  have hrole : ((s.keptBlocks k).enterSync held).role = s.role := by
    rw [State.role, State.enterSync_nsq]; rfl
  have hwau : ((s.keptBlocks k).enterSync held).wau = ((s.keptBlocks k).syncStarted held).wau :=
    State.reformOwn_wau _
  refine ⟨?_, ?_, ?_, ?_, ?_, ?_, fun h => ?_, fun h => ?_, fun h => ?_⟩
  · rw [State.enterSync_nsq]
  · rw [State.enterSync_nsq]; rfl
  · rw [State.enterSync_ptb]; rfl
  · rw [State.enterSync_sli]; rfl
  · rw [State.enterSync_sli]; rfl
  · rw [State.enterSync_mpt]; rfl
  · exact (congrArg BlendUnit.rampTimer (State.reformOwn_blu ((s.keptBlocks k).syncStarted held))).trans (hramp (hrole.symm.trans h))
  · rw [hwau]; exact hminute (hrole.symm.trans h)
  · obtain ⟨h1, h2⟩ := htick (hrole.symm.trans h)
    obtain ⟨g1, g2⟩ := State.reformOwn_gsc_timers ((s.keptBlocks k).syncStarted held)
    exact ⟨g1.trans h1, g2.trans h2⟩

/-- The wear accounts after a RESTART or WAKE (R126). -/
theorem State.keptBlocks_enterSync_wear :
    ((s.keptBlocks k).enterSync held).wau.items.map WearItem.acc = s.wau.items.map WearItem.acc
    ∧ ((s.keptBlocks k).enterSync held).wau.items.map WearItem.residue = s.wau.items.map WearItem.residue
    ∧ ((s.keptBlocks k).enterSync held).wau.runSeconds = s.wau.runSeconds
    ∧ ((s.keptBlocks k).enterSync held).wau.armA4 = false ∧ ((s.keptBlocks k).enterSync held).wau.armS3 = false
    ∧ ((s.keptBlocks k).enterSync held).wau.hot = false := by
  have hkept := s.wau.afterReset_flags s.role s.mpt.copy
  rw [State.keptBlocks_items, restateItems_accs, restateItems_residues]
  refine ⟨rfl, rfl, ?_⟩
  rcases (s.keptBlocks k).enterSync_wau held with h | h <;> rw [h] <;> exact hkept

/-- The statuses after a RESTART or WAKE: three are kept, the wear warnings follow the table, the rest are clear (R126,
R141). -/
theorem State.keptBlocks_enterSync_statuses :
    (∀ y ∈ [Status.cfgDefault, .cfgCorrupt, .memFault], ((s.keptBlocks k).enterSync held).status y = s.status y)
    ∧ ∀ y, y ∉ [Status.cfgDefault, .cfgCorrupt, .memFault, .wearNear, .wearDue] →
        ((s.keptBlocks k).enterSync held).status y = false := by
  have hstatus : ∀ y, y ≠ .wearNear → y ≠ .wearDue →
      ((s.keptBlocks k).enterSync held).status y = (s.status y && statusIn keptSet y) := fun y hn hd => by
    rw [State.enterSync_status]
    show statusIn (statusPut (statusPut (s.stu.set &&& keptSet) .wearNear _) .wearDue _) y = _
    rw [statusIn_statusPut, if_neg hd.symm, statusIn_statusPut, if_neg hn.symm, statusIn_and]
    rfl
  have hnot : Status.wearNear ∉ [Status.cfgDefault, .cfgCorrupt, .memFault]
      ∧ Status.wearDue ∉ [Status.cfgDefault, .cfgCorrupt, .memFault] := by decide
  refine ⟨fun y hy => ?_, fun y hy => ?_⟩
  · rw [hstatus y (fun h => hnot.1 (h ▸ hy)) (fun h => hnot.2 (h ▸ hy)), statusIn_keptSet, decide_eq_true hy, Bool.and_true]
  · simp only [List.mem_cons, List.not_mem_nil, or_false, not_or] at hy
    obtain ⟨h1, h2, h3, hn, hd⟩ := hy
    rw [hstatus y hn hd, statusIn_keptSet, decide_eq_false (by simp [h1, h2, h3]), Bool.and_false]

end

/-- Settles O10: in STANDBY a DEMAND is not stored; with SHUTDOWN clear it is the WAKE reset. -/
theorem standbyWakesAtADemand : Obligations.StandbyWakesAtADemand := by
  unfold Obligations.StandbyWakesAtADemand
  intro s w1 w2 w3 w4 hop hr
  have hserves : s.serves = false := by rw [State.serves, hop]; rfl
  have hexec : exec (.demandArrival 0 [w1, w2, w3, w4]) s
      = .next (if w4.getLsbD 2 = false then (s.goodFrameEnds 0).wakeReset else (s.goodFrameEnds 0).settle) := by
    show execDemandArrival _ _ _ = _
    simp only [execDemandArrival, hr, if_true, State.goodFrameEnds_serves, hserves, State.goodFrameEnds_nsq, hop,
      true_and, Bool.false_eq_true, if_false]
    rfl
  cases hshut : w4.getLsbD 2 with
  | false =>
    rw [hshut, if_pos rfl, State.wakeReset_eq] at hexec
    obtain ⟨hkept, hclear⟩ := (s.goodFrameEnds 0).keptBlocks_enterSync_statuses .wake false
    obtain ⟨hacc, hres, -, ha4, hs3, hhot⟩ := (s.goodFrameEnds 0).keptBlocks_enterSync_wear .wake false
    have hstp := State.enterSync_stp ((s.goodFrameEnds 0).keptBlocks .wake) false
    have hmpt := (s.goodFrameEnds 0).keptBlocks_enterSync_mpt .wake false
    rw [State.goodFrameEnds_mpt] at hmpt
    have hnsq := State.enterSync_nsq ((s.goodFrameEnds 0).keptBlocks .wake) false
    refine ⟨_, hexec, by rw [hmpt], by rw [hmpt], fun _ => ?_, fun h => nomatch h⟩
    refine ⟨by rw [hnsq], by rw [hnsq]; rfl, ?_, by rw [State.enterSync_pins], State.keptBlocks_enterSync_records _ _ _,
      State.keptBlocks_enterSync_timers _ _ _, by rw [hstp]; rfl, by rw [hstp]; rfl, by rw [hstp]; rfl, ha4, hs3, hhot,
      by rw [hmpt], by rw [hmpt], ?_, ?_, ?_, ?_, hclear _ (by decide), hclear _ (by decide)⟩
    · rw [hnsq]
      show (s.goodFrameEnds 0).nsq.sample = _
      rw [State.goodFrameEnds_nsq]
    · rw [hacc, State.goodFrameEnds_wau]
    · rw [hres, State.goodFrameEnds_wau]
    · rw [hkept _ (by decide), State.goodFrameEnds_status _ _ (by decide)]
    · rw [hkept _ (by decide), State.goodFrameEnds_status _ _ (by decide)]
  | true =>
    rw [hshut, if_neg (by decide), State.settle_eq_compareF] at hexec
    · exact ⟨_, hexec, by simp, by simp, (fun h => nomatch h), fun _ => by simp⟩
    all_goals simp [hop]

/-! ### The pending RESTART or REBOOT taken (R184) -/

/-- What a pending RESTART finds: a state that differs from the settled one in its pins and its line alone. -/
theorem reset_proceeds (p : Straps) {c : Instr} {r : ReplyPlace} {s : State}
    (hc : c = .attemptComplete p ∧ replyInFlight s.sli.replies = some r ∧ r.result = .done
        ∧ (s.nsq.pendingReset = .restart ∧ r.code = 12 ∨ s.nsq.pendingReset = .reboot ∧ r.code = 13)
      ∨ c = .replyLimitExpiry p ∧ s.nsq.limit.running = true ∧ 100 ≤ s.nsq.limit.elapsed) :
    ∃ x, exec c s = .next x.proceedReset.settle ∧ KeptBut s x [.pins, .sli] := by
  have hpins : KeptBut s (s.pinStraps p) [.pins, .sli] := (KeptBut.refl s _).setPins (by decide) _
  rcases hc with ⟨rfl, hin, hdone, hcode⟩ | ⟨rfl, hrun, hdue⟩
  · refine ⟨(s.pinStraps p).completeAttempt, ?_, hpins.setSli (by decide) _⟩
    have hatt : s.attempting = true := by simp [State.attempting, hin]
    have hans : answersReset s.nsq.pendingReset r = true := by
      rcases hcode with ⟨hp, hcode⟩ | ⟨hp, hcode⟩ <;> simp [answersReset, hdone, hp, hcode]
    show execAttemptComplete p s = _
    simp only [execAttemptComplete, hatt, if_true, hin, hans]
  · refine ⟨s.pinStraps p, ?_, hpins⟩
    show execReplyLimitExpiry p s = _
    rw [execReplyLimitExpiry, if_pos (by simp [Timer.due, hrun, hdue])]

/-- Settles O28: a RESTART takes the values of the reset tables; a REBOOT requests the flush it waits on. -/
theorem resetsProceedAfterTheirReply : Obligations.ResetsProceedAfterTheirReply := by
  unfold Obligations.ResetsProceedAfterTheirReply
  intro s p c r hset hc
  obtain ⟨x, hexec, hx⟩ := reset_proceeds p hc
  have hnsq : x.nsq = s.nsq := hx .nsq (by decide)
  have hmpt : x.mpt = s.mpt := hx .mpt (by decide)
  have hwau : x.wau = s.wau := hx .wau (by decide)
  have hstu : x.stu = s.stu := hx .stu (by decide)
  refine ⟨fun hp => ?_, fun hp hseq => ?_⟩
  · have hproceed : x.proceedReset = x.restartReset := by
      simp only [State.proceedReset, hnsq, hp]
    rw [hproceed, State.restartReset_eq, State.enterSync_settle] at hexec
    obtain ⟨hkept, hclear⟩ := x.keptBlocks_enterSync_statuses .restart true
    obtain ⟨hacc, hres, hrun, ha4, hs3, hhot⟩ := x.keptBlocks_enterSync_wear .restart true
    have hstp := State.enterSync_stp (x.keptBlocks .restart) true
    have hpins := State.enterSync_pins (x.keptBlocks .restart) true
    have hm := x.keptBlocks_enterSync_mpt .restart true
    rw [hmpt] at hm
    have hn : ((x.keptBlocks .restart).enterSync true).nsq = { Sequencer.initial .sync s.nsq.sample .restart with
        strapDiffers := s.nsq.strapDiffers, op := .sync, sync := .running 0, strapCheck := Timer.started } := by
      rw [State.enterSync_nsq, ← hnsq]
      rfl
    refine ⟨_, hexec, by rw [hn], by rw [hn]; rfl, by rw [hn]; rfl, by rw [hn]; rfl, by rw [hn], by rw [hpins],
      by rw [hpins], by rw [hpins], by rw [hstp]; rfl, by rw [hstp]; rfl, by rw [hstp]; rfl,
      State.keptBlocks_enterSync_records _ _ _, State.keptBlocks_enterSync_timers _ _ _, by rw [hm], by rw [hm],
      by rw [hm], by rw [hm], ?_, ?_, by rw [hm], by rw [hacc, hwau], by rw [hres, hwau], by rw [hrun, hwau], ha4, hs3,
      hhot, ?_, hclear⟩
    · intro job hjob
      rw [hm, hjob]
      rfl
    · intro place n m v hop
      rw [hm, hop]
      rfl
    · intro y hy
      rw [hkept y hy, State.status_of_stu y hstu]
  · let w := x.setNsq { x.nsq with pendingReset := .rebootFlush, limit := Timer.stopped }
    have hproceed : x.proceedReset = w.requestFlush [.reboot] := by
      have hpx : x.nsq.pendingReset = .reboot := by rw [hnsq, hp]
      rw [State.proceedReset, hpx]
    have hwm : w.mpt = s.mpt := hmpt
    have hflush : KeptBut w (w.requestFlush [.reboot]) [.mpt] := State.requestFlush_kept (by rw [hwm]; exact hseq) _
    have hwnsq : (w.requestFlush [.reboot]).nsq = { s.nsq with pendingReset := .rebootFlush, limit := Timer.stopped } := by
      rw [hflush .nsq (by decide), ← hnsq]
      rfl
    have hwstu : (w.requestFlush [.reboot]).stu = s.stu := (hflush .stu (by decide)).trans hstu
    obtain ⟨hidle, hbusy⟩ := State.requestFlush_mpt (s := w) (by rw [hwm]; exact hseq) [.reboot]
    rw [hproceed, hset.settle_of_stu (by rw [hwnsq]) hwstu] at hexec
    refine ⟨_, hexec, ?_, fun ho => ?_, fun ho => ?_, ?_, ?_, ?_⟩
    · rw [State.compareF_nsq, hwnsq]; rfl
    · obtain ⟨job, h1, h2, h3⟩ := hidle (by rw [hwm]; exact ho)
      have hww : w.wau = s.wau := hwau
      exact ⟨job, by rw [State.compareF_mpt, h1], h2, by rw [h3, hww]⟩
    · obtain ⟨h1, h2⟩ := hbusy (by rw [hwm]; exact ho)
      rw [State.compareF_mpt, h1, hwm]
      exact ⟨rfl, _, h2, by simp⟩
    · rw [State.compareF_mpt]
      exact (Follows.of_requestFlush (s := w) (by rw [hwm]; exact hseq) _).eeprom.trans (by rw [hwm])
    · rw [State.compareF_set, hwstu]
    · have hw : KeptBut s w [.nsq, .pins, .stu, .sli, .mpt] := (hx.mono (by decide)).setNsq (by decide) _
      exact (hw.trans (hflush.mono (by decide))).trans ((State.compareF_kept _).mono (by decide))

end
end Sys2Proof.Machine
end

/-! # The node's own frames (R131, R135, R149 to R154) -/
section
namespace Sys2Proof.Machine

section
variable {c : Instr} {s t u : State}

/-! ### The F and W bits (R134, R135) -/

theorem statusSet_ne_zero {σ : StatusSet} : (σ != 0) = true ↔ ∃ x, statusIn σ x = true := by
  rw [bne_iff_ne]
  constructor
  · intro h
    by_contra hnone
    rw [not_exists] at hnone
    refine h (statusSet_ext fun x => ?_)
    rw [Bool.eq_false_iff.mpr (hnone x)]
    exact (BitVec.getLsbD_zero).symm
  · rintro ⟨x, hx⟩ rfl
    rw [statusIn, BitVec.ofNat_eq_ofNat, BitVec.getLsbD_zero] at hx
    cases hx

/-- A mask of the running copy names the statuses of its first 22 bits alone (R134). -/
theorem statusIn_mask (m : BitVec 32) (x : Status) :
    statusIn (m.setWidth 24 &&& 0x3FFFFF#24) x = true ↔ x.index < 22 ∧ m.getLsbD x.index = true := by
  have hconst : (0x3FFFFF#24).getLsbD x.index = decide (x.index < 22) := by cases x <;> rfl
  have hlt := x.index_lt
  rw [statusIn, BitVec.getLsbD_and, BitVec.getLsbD_setWidth, hconst, decide_eq_true hlt, Bool.true_and,
    Bool.and_eq_true, decide_eq_true_iff, and_comm]

theorem statusIn_counted (s : State) (x : Status) :
    statusIn s.counted x = true ↔ s.status x = true ∨ statusIn s.sli.state.carried x = true := by
  rw [State.counted, statusIn_or, Bool.or_eq_true]
  rfl

theorem counted_masked (s : State) (m : BitVec 32) : (s.counted &&& (m.setWidth 24 &&& 0x3FFFFF#24) != 0) = true
    ↔ ∃ x : Status, x.index < 22 ∧ m.getLsbD x.index = true
      ∧ (s.status x = true ∨ statusIn s.sli.state.carried x = true) := by
  rw [statusSet_ne_zero]
  refine exists_congr fun x => ?_
  rw [statusIn_and, Bool.and_eq_true, statusIn_mask, statusIn_counted, and_comm, and_assoc]

theorem State.fBit_iff (s : State) : s.fBit = true ↔ s.nsq.op ≠ .active ∨ s.status .forcedFault = true
    ∨ ∃ x : Status, x.index < 22 ∧ (imageWord s.mpt.copy 2 ++ imageWord s.mpt.copy 3).getLsbD x.index = true
      ∧ (s.status x = true ∨ statusIn s.sli.state.carried x = true) := by
  rw [State.fBit, Bool.or_eq_true, Bool.or_eq_true, bne_iff_ne, fMask, counted_masked, or_assoc,
    or_comm (a := ∃ _, _)]

theorem State.wBit_iff (s : State) : s.wBit = true ↔ reportEn s.mpt.copy = true ∧ (s.status .forcedWarn = true
    ∨ ∃ x : Status, x.index < 22 ∧ (imageWord s.mpt.copy 4 ++ imageWord s.mpt.copy 5).getLsbD x.index = true
      ∧ (s.status x = true ∨ statusIn s.sli.state.carried x = true)) := by
  rw [State.wBit, Bool.and_eq_true, Bool.or_eq_true, wMask, counted_masked, or_comm (a := ∃ _, _)]

/-! ### The header of a STATE frame (Table 8.8-2) -/

theorem stateHeader_bits (role : Role) (op : OpState) (f w : Bool) {bits : Nat} (h : bits < 8) :
    (stateHeader role op f w bits).getLsbD 10 = f ∧ (stateHeader role op f w bits).getLsbD 9 = w
    ∧ (stateHeader role op f w bits).getLsbD 8 = decide (4 ≤ bits)
    ∧ ((stateHeader role op f w bits).extractLsb' 6 2).toNat = bits % 4
    ∧ ((stateHeader role op f w bits).extractLsb' 0 6).toNat = 0 := by
  have hrole : role.code < 4 := by cases role <;> decide
  have hop : op.code < 8 := by cases op <;> decide
  have hf := bitOf_le f
  have hw := bitOf_le w
  refine ⟨?_, ?_, ?_, ?_, ?_⟩
  · exact getLsbD_ofNat_word (by decide) (by omega)
  · exact getLsbD_ofNat_word (by decide) (by omega)
  · refine getLsbD_ofNat_word (by decide) ?_
    by_cases h4 : 4 ≤ bits
    · rw [decide_eq_true h4, show bitOf true = 1 from rfl]; omega
    · rw [decide_eq_false h4, show bitOf false = 0 from rfl]; omega
  · simp only [stateHeader, BitVec.extractLsb'_toNat, BitVec.toNat_ofNat, Nat.shiftRight_eq_div_pow]
    omega
  · simp only [stateHeader, BitVec.extractLsb'_toNat, BitVec.toNat_ofNat, Nat.shiftRight_eq_div_pow]
    omega

/-- The three bits of a STATE header that are the role's own (Table 8.8-2). -/
def State.roleBits (s : State) : Role → Nat
  | .axle => bitOf s.blu.own.slip * 4
  | .pack => 0
  | .genset => s.gsc.engine.code

theorem State.roleBits_lt (s : State) (role : Role) : s.roleBits role < 8 := by
  cases role
  · show bitOf s.blu.own.slip * 4 < 8
    cases s.blu.own.slip <;> decide
  · show 0 < 8
    decide
  · show s.gsc.engine.code < 8
    cases s.gsc.engine <;> decide

theorem State.statePayload_roleBits (s : State) (role : Role) :
    wordAt (s.statePayload role) 0 = stateHeader role s.nsq.op s.fBit s.wBit (s.roleBits role) := by
  cases role <;> rfl

/-! ### A STATE attempt (R131, R149, R151) -/

theorem State.startState_counted (s : State) (role : Role) : (s.startState role).counted = s.counted := by
  refine statusSet_ext fun x => ?_
  show statusIn (s.stu.set &&& ~~~capturedSet ||| (s.sli.state.carried ||| s.stu.set &&& capturedSet)) x
    = statusIn (s.stu.set ||| s.sli.state.carried) x
  simp only [statusIn_or, statusIn_and, statusIn_not]
  cases statusIn s.stu.set x <;> cases statusIn capturedSet x <;> cases statusIn s.sli.state.carried x <;> rfl

/-- A status of the set, after the captured ones joined the carried set. -/
theorem State.startState_status (s : State) (role : Role) (x : Status) :
    (s.startState role).status x = (s.status x && !statusIn capturedSet x) := by
  show statusIn (s.stu.set &&& ~~~capturedSet) x = _
  rw [statusIn_and, statusIn_not]
  rfl

theorem State.startState_carried (s : State) (role : Role) (x : Status) :
    statusIn (s.startState role).sli.state.carried x
      = (statusIn s.sli.state.carried x || (s.status x && statusIn capturedSet x)) := by
  show statusIn (s.sli.state.carried ||| s.stu.set &&& capturedSet) x = _
  rw [statusIn_or, statusIn_and]
  rfl

theorem statusIn_capturedSet (y : Status) :
    statusIn capturedSet y = decide (y ∈ [Status.wearBlank, .plausU, .plausSpeed, .linkNoisy]) := by
  cases y <;> rfl

/-- A STATE attempt changes no bit of its own frame: a captured status counts as carried (R135). -/
theorem State.startState_bits (s : State) (role : Role) :
    (s.startState role).fBit = s.fBit ∧ (s.startState role).wBit = s.wBit := by
  have hfault : (s.startState role).status .forcedFault = s.status .forcedFault := by
    rw [State.startState_status]; exact Bool.and_true _
  have hwarn : (s.startState role).status .forcedWarn = s.status .forcedWarn := by
    rw [State.startState_status]; exact Bool.and_true _
  refine ⟨?_, ?_⟩
  · rw [State.fBit, State.startState_counted, hfault]; rfl
  · rw [State.wBit, State.startState_counted, hwarn]; rfl

/-- The captured statuses join the carried set and every other status stays (R131). -/
theorem State.startState_sets (s : State) (role : Role) :
    (∀ y ∈ [Status.wearBlank, .plausU, .plausSpeed, .linkNoisy], (s.startState role).status y = false
      ∧ statusIn (s.startState role).sli.state.carried y = (statusIn s.sli.state.carried y || s.status y))
    ∧ ∀ y, y ∉ [Status.wearBlank, .plausU, .plausSpeed, .linkNoisy] → (s.startState role).status y = s.status y
      ∧ statusIn (s.startState role).sli.state.carried y = statusIn s.sli.state.carried y := by
  refine ⟨fun y hy => ?_, fun y hy => ?_⟩ <;>
    rw [State.startState_status, State.startState_carried, statusIn_capturedSet]
  · rw [decide_eq_true hy]; simp
  · rw [decide_eq_false hy]; simp

/-- The frame is filled as the records stand (R151). -/
theorem State.startState_sending (s : State) (role : Role) :
    (s.startState role).sli.sending
      = some (makeFrame (BitVec.ofNat 3 s.sli.state.urgency) s.ownAddress 1#3 (s.statePayload role)) := by
  have hpayload : (s.startState role).statePayload role = s.statePayload role := by
    obtain ⟨hf, hw⟩ := s.startState_bits role
    cases role <;> (simp only [State.statePayload, hf, hw]; rfl)
  rw [← hpayload]
  rfl

theorem State.startState_withdraws (s : State) (role : Role) : (s.startState role).withdraws = s.withdraws := by
  have h : (s.stu.set &&& ~~~capturedSet) &&& withdrawingSet = s.stu.set &&& withdrawingSet := by
    rw [BitVec.and_assoc]
    rfl
  exact congrArg (· != 0) h

/-- The start of a STATE attempt, which no operating state and no F value follows. -/
theorem State.startState_settle (hs : Settled s) (hserves : s.serves = true) (role : Role) :
    (s.startState role).settle = s.startState role := by
  rw [hs.settle_eq (t := s.startState role) rfl (s.startState_withdraws role)]
  exact State.compareF_of_formed hserves (((hs.2.2 hserves).trans (s.startState_bits role).1.symm))

theorem replyHeader_fields (code : BitVec 8) (result : ReplyResult) :
    ((replyHeader code result).extractLsb' 12 4).toNat = 0 ∧ (replyHeader code result).extractLsb' 4 8 = code
    ∧ ((replyHeader code result).extractLsb' 0 4).toNat = result.code := by
  have hcode : result.code < 16 := by cases result <;> decide
  have hlt := code.isLt
  have hnat : (replyHeader code result).toNat = code.toNat * 16 + result.code := by
    rw [replyHeader, BitVec.toNat_append, BitVec.toNat_append, BitVec.toNat_ofNat, BitVec.toNat_ofNat, Nat.zero_mod,
      Nat.zero_shiftLeft, Nat.zero_or, Nat.mod_eq_of_lt hcode, ← Nat.shiftLeft_add_eq_or_of_lt hcode, Nat.shiftLeft_eq]
  refine ⟨?_, BitVec.eq_of_toNat_eq ?_, ?_⟩
  all_goals
    simp only [BitVec.extractLsb'_toNat, hnat, Nat.shiftRight_eq_div_pow]
    omega

theorem State.mayAttempt_of (hidle : s.sli.line = .idle) (hserves : s.serves = true) (hsilent : s.sli.silent = false)
    (hatt : s.attempting = false) : s.mayAttempt = true := by
  simp [State.mayAttempt, hidle, hserves, hsilent, hatt]

/-- Settles O29: the frame is filled from the records of the state its attempt begins in. -/
theorem theHeadIsAttempted : Obligations.TheHeadIsAttempted := by
  unfold Obligations.TheHeadIsAttempted
  intro s hs hidle hserves hsilent hatt
  have hmay := State.mayAttempt_of hidle hserves hsilent hatt
  refine ⟨fun role hr hq => ?_, fun r hq hr => ?_, fun hq hr => ?_⟩
  · have hexec : exec .attemptStart s = .next (s.startState role) := by
      show execAttemptStart s = _
      simp only [execAttemptStart, hmay, if_true, hq, hr]
      rw [State.startState_settle hs hserves]
    obtain ⟨hcaptured, hrest⟩ := s.startState_sets role
    have hheader := s.statePayload_roleBits role
    have hbits := s.roleBits_lt role
    obtain ⟨hrole, hop, hcode⟩ := stateHeader_fields role s.nsq.op s.fBit s.wBit hbits
    obtain ⟨hf, hw, hslip, hlow, hzero⟩ := stateHeader_bits role s.nsq.op s.fBit s.wBit hbits
    rw [← hheader] at hrole hop hcode hf hw hslip hlow hzero
    refine ⟨_, _, _, hexec, s.startState_sending role, rfl, rfl, rfl, ?_, ?_, ?_, hrole, hop, hzero,
      by rw [hf]; exact s.fBit_iff, by rw [hw]; exact s.wBit_iff, hcaptured, hrest, rfl, rfl, rfl, rfl, rfl,
      ((KeptBut.refl s _).setStu (by decide) _).setSli (by decide) _⟩
    · rintro rfl
      refine ⟨rfl, hslip.trans ?_, hlow.trans ?_⟩ <;> rw [State.roleBits] <;> cases s.blu.own.slip <;> rfl
    · rintro rfl
      exact ⟨rfl, hcode⟩
    · rintro rfl
      exact ⟨rfl, hcode⟩
  · have hexec : exec .attemptStart s = .next (s.startReplyAttempt r) := by
      show execAttemptStart s = _
      have hhead : headReply s.sli.replies = some r := hr
      simp only [execAttemptStart, hmay, if_true, hhead]
      split <;> simp_all
    refine ⟨_, s.replyFrame r, hexec, rfl, rfl, rfl, rfl, ⟨_, rfl, replyHeader_fields _ _⟩, rfl, rfl, rfl,
      (KeptBut.refl s _).setSli (by decide) _⟩
  · have hhead : headReply s.sli.replies = none := by
      rw [headReply, List.find?_eq_none]
      intro r hmem
      simpa using hr r hmem
    show execAttemptStart s = _
    simp only [execAttemptStart, hmay, if_true, hhead]
    split <;> simp_all

/-! ### The ends of an attempt (R150, R152 to R154) -/

/-- A comparison that finds the F value formed asks for no STATE frame (R138). -/
theorem State.compareF_sli_of_formed (h : s.serves = true → s.stu.fValue = s.fBit) : s.compareF.sli = s.sli := by
  cases hs : s.serves with
  | true => rw [State.compareF_of_formed hs (h hs)]
  | false =>
    unfold State.compareF
    dsimp only
    rw [hs, Bool.and_false, if_neg (by decide)]
    rfl

/-- Settles O30: the frame is queued again before the failure is counted. -/
theorem unfinishedAttemptsAreQueuedAgain : Obligations.UnfinishedAttemptsAreQueuedAgain := by
  unfold Obligations.UnfinishedAttemptsAreQueuedAgain
  intro s hs hatt
  have hexec : exec .attemptAbandoned s = .next s.requeueAttempt.countFailure.settle := by
    show execAttemptAbandoned s = _
    rw [execAttemptAbandoned, if_pos hatt]
  have hrequeue : KeptBut s s.requeueAttempt [.sli] := (KeptBut.refl s _).setSli (by decide) _
  refine ⟨⟨s.requeueAttempt, ?_, rfl, hrequeue⟩, fun hlt => ?_, fun hle => ?_⟩
  · show execArbitrationLost s = _
    rw [execArbitrationLost, if_pos hatt]
  · let t := s.requeueAttempt.setSli { s.requeueAttempt.sli with failures := s.sli.failures + 1 }
    have hcount : s.requeueAttempt.countFailure = t := by
      have hf : ¬ 8 ≤ s.requeueAttempt.sli.failures + 1 := by show ¬ 8 ≤ s.sli.failures + 1; omega
      rw [State.countFailure, if_neg hf]
      rfl
    have hformed : t.serves = true → t.stu.fValue = t.fBit := hs.requeueAttempt.2.2
    rw [hcount, hs.settle_of_stu (t := t) rfl rfl] at hexec
    exact ⟨_, hexec, State.compareF_sli_of_formed hformed, State.compareF_set t,
      (((hrequeue.mono (by decide)).setSli (by decide) _).trans t.compareF_kept)⟩
  · let t := (s.requeueAttempt.setSli { s.requeueAttempt.sli with
      failures := 8, silent := true, silence := Timer.started }).putStatus .linkQuiet true
    have hcount : s.requeueAttempt.countFailure = t := by
      have hf : 8 ≤ s.requeueAttempt.sli.failures + 1 := by show 8 ≤ s.sli.failures + 1; omega
      rw [State.countFailure, if_pos hf]
    have hw : t.withdraws = s.withdraws :=
      (State.putStatus_withdraws (s := s.requeueAttempt.setSli { s.requeueAttempt.sli with
        failures := 8, silent := true, silence := Timer.started }) _ (by decide)).trans (State.withdraws_of_stu rfl)
    rw [hcount, hs.settle_eq (t := t) rfl hw] at hexec
    refine ⟨_, hexec, ?_, t.compareF_prompt, fun y hy => ?_, ?_⟩
    · rw [State.compareF_status]
      exact State.putStatus_status_self _ _ _
    · rw [State.compareF_status]
      exact State.putStatus_status_ne _ _ hy
    · exact (((hrequeue.mono (by decide)).setSli (by decide) _).putStatus (by decide) _ _).trans t.compareF_kept

theorem StatePlace.completed_eq (p : StatePlace) (h : p.condition = .inFlight) :
    p.completed = if p.followOn then ⟨.queued, 1, false, 0⟩ else ⟨.empty, p.urgency, false, 0⟩ := by
  obtain ⟨condition, urgency, followOn, carried⟩ := p
  cases followOn <;> rfl

/-- Settles O31: a completed attempt of the node's own empties its place, whatever frame it carried. -/
theorem completedAttemptsReleaseTheirFrame : Obligations.CompletedAttemptsReleaseTheirFrame := by
  unfold Obligations.CompletedAttemptsReleaseTheirFrame
  intro s p hs hatt hr
  let t := (s.pinStraps p).completeAttempt
  have hexec : exec (.attemptComplete p) s = .next t.settle := by
    show execAttemptComplete p s = _
    simp only [execAttemptComplete, hatt, if_true]
    cases hin : replyInFlight s.sli.replies with
    | none => rfl
    | some r =>
      have hans : answersReset s.nsq.pendingReset r = false := by
        rcases hr r hin with h | h | h | ⟨h12, h13⟩
        · simp [answersReset, h]
        · simp [answersReset, h]
        · simp [answersReset, h]
        · rw [answersReset, beq_eq_false_iff_ne.mpr h12, beq_eq_false_iff_ne.mpr h13]
          simp
      dsimp only
      rw [hans, if_neg (by decide)]
  rw [hs.settle_of_stu (t := t) rfl rfl] at hexec
  have hstate : (if s.sli.state.condition = .inFlight then s.sli.state.completed else s.sli.state)
      = if s.sli.state.condition ≠ .inFlight then s.sli.state
        else if s.sli.state.followOn then ⟨.queued, 1, false, 0⟩ else ⟨.empty, s.sli.state.urgency, false, 0⟩ := by
    by_cases h : s.sli.state.condition = .inFlight
    · rw [if_pos h, if_neg (not_not.mpr h), StatePlace.completed_eq _ h]
    · rw [if_neg h, if_pos h]
  refine ⟨_, hexec, ?_, State.compareF_pins t, State.compareF_set t, ?_⟩
  · rw [← hstate]
    exact t.compareF_prompt
  · exact (((KeptBut.refl s _).setPins (by decide) _).setSli (by decide) _).trans (t.compareF_kept.mono (by decide))

theorem Timer.due_of {x : Timer} {n : Nat} (hr : x.running = true) (hd : n ≤ x.elapsed) : x.due n = true := by
  rw [Timer.due, hr, decide_eq_true hd]
  rfl

/-! ### Expiries that move one block (R97, R142, R150, R154, R161, R165) -/

/-- Settles O32: each expiry writes its own block; the silence timer's alone changes a status, which F is compared for. -/
theorem expiriesMoveTheirOwnBlock : Obligations.ExpiriesMoveTheirOwnBlock := by
  unfold Obligations.ExpiriesMoveTheirOwnBlock
  intro s hs
  refine ⟨fun hr hd => ?_, fun hr hd => ?_, fun e he hd => ?_, fun hr hd hserves => ?_, fun n hn => ?_,
    fun hserves hrole hr hd => ?_⟩
  · have hdue : s.sli.period.due 20 = true := Timer.due_of hr hd
    refine ⟨_, congrArg Host.Outcome.next (if_pos hdue), ?_, (KeptBut.refl s _).setSli (by decide) _⟩
    have hstate : s.sli.state.periodExpiry = if s.sli.state.condition = .empty then
        { s.sli.state with condition := .queued, urgency := 2 } else s.sli.state := by
      unfold StatePlace.periodExpiry
      split <;> simp_all
    rw [← hstate]
    rfl
  · have hdue : s.sli.silence.due 200 = true := Timer.due_of hr hd
    let t := (s.setSli { s.sli with silent := false, silence := Timer.stopped, failures := 0 }).putStatus .linkQuiet false
    have hexec : exec .silenceTimerExpiry s = .next t.settle := congrArg Host.Outcome.next (if_pos hdue)
    have hw : t.withdraws = s.withdraws :=
      (State.putStatus_withdraws (s := s.setSli { s.sli with silent := false, silence := Timer.stopped, failures := 0 })
        _ (by decide)).trans (State.withdraws_of_stu rfl)
    rw [hs.settle_eq (t := t) rfl hw] at hexec
    refine ⟨_, hexec, t.compareF_prompt, ?_, fun y hy => ?_, ?_⟩
    · rw [State.compareF_status]
      exact State.putStatus_status_self _ _ _
    · rw [State.compareF_status]
      exact State.putStatus_status_ne _ _ hy
    · exact (((KeptBut.refl s _).setSli (by decide) _).putStatus (by decide) _ _).trans t.compareF_kept
  · have hdue : s.stp.settle.due 100 = true := by rw [he]; exact decide_eq_true hd
    exact ⟨_, congrArg Host.Outcome.next (if_pos hdue), rfl, (KeptBut.refl s _).setStp (by decide) _⟩
  · have hdue : (s.stp.release.due 10 && s.serves) = true := by rw [Timer.due_of hr hd, hserves]; rfl
    exact ⟨_, congrArg Host.Outcome.next (if_pos hdue), rfl, rfl,
      ((KeptBut.refl s _).setPins (by decide) _).setStp (by decide) _⟩
  · refine ⟨s.setSli { s.sli with line := .idle }, ?_, rfl, (KeptBut.refl s _).setSli (by decide) _⟩
    show execReceiverIdle s = _
    rw [execReceiverIdle, hn]
  · have hschedules : s.schedules = true := by simp [State.schedules, hserves, hrole]
    have hdue : (s.schedules && s.gsc.run.due 60000) = true := by rw [Timer.due_of hr hd, hschedules]; rfl
    exact ⟨_, congrArg Host.Outcome.next (if_pos hdue), rfl, (KeptBut.refl s _).setGsc (by decide) _⟩

end
end Sys2Proof.Machine
end

/-! # Exchanges and setpoint records (R157, R158, R163, R165) -/
section
namespace Sys2Proof.Machine

section
variable {c : Instr} {s t u : State}

/-! ### The 16 bytes of a setpoint record (Table 9.9-1) -/

theorem xorBytes_append (xs : List Byte) : xorBytes (xs ++ [xorBytes xs]) = 0 := by
  rw [xorBytes, List.foldl_append]
  exact BitVec.xor_self

theorem recordBody_length (nibble : BitVec 4) (slot : Option Setpoint) : (recordBody nibble slot).length = 15 := by
  cases slot with
  | none => rfl
  | some p => cases p <;> rfl

theorem bytesOfWord_append (w : Word) : (w.extractLsb' 8 8 : Byte) ++ (w.extractLsb' 0 8 : Byte) = w := by
  refine BitVec.eq_of_getLsbD_eq fun i hi => ?_
  rw [BitVec.getLsbD_append, BitVec.getLsbD_extractLsb', BitVec.getLsbD_extractLsb']
  by_cases h : i < 8
  · rw [if_pos h]
    simp [h]
  · rw [if_neg h, show 8 + (i - 8) = i by omega]
    simp [show i - 8 < 8 by omega]

/-- The fields of a record as its partner reads them (Table 9.9-1). -/
theorem recordOfSlot_fields (nibble : BitVec 4) (slot : Option Setpoint) :
    (byteAt (recordOfSlot nibble slot) 0).extractLsb' 4 4 = nibble
    ∧ (byteAt (recordOfSlot nibble slot) 0).getLsbD 0 = slot.isSome
    ∧ (slot = none → ∀ i, 1 ≤ i → i ≤ 14 → byteAt (recordOfSlot nibble slot) i = 0)
    ∧ (∀ m : Int, slot = some (.torque m) → pairAt (recordOfSlot nibble slot) 2 = BitVec.ofInt 16 m)
    ∧ (∀ m, slot = some (.pressure m) → pairAt (recordOfSlot nibble slot) 2 = BitVec.ofNat 16 m)
    ∧ (∀ m, slot = some (.generator m) → pairAt (recordOfSlot nibble slot) 2 = BitVec.ofNat 16 m)
    ∧ (∀ u d c, slot = some (.converter u d c) → pairAt (recordOfSlot nibble slot) 2 = BitVec.ofNat 16 u
        ∧ pairAt (recordOfSlot nibble slot) 4 = BitVec.ofNat 16 d
        ∧ pairAt (recordOfSlot nibble slot) 6 = BitVec.ofNat 16 c)
    ∧ ∀ e, slot = some (.engine e) → (byteAt (recordOfSlot nibble slot) 2).toNat = e.code := by
  have hnibble : ∀ b : BitVec 4, (nibble ++ b).extractLsb' 4 4 = nibble := fun b => by
    refine BitVec.eq_of_getLsbD_eq fun i hi => ?_
    rw [BitVec.getLsbD_extractLsb', BitVec.getLsbD_append, if_neg (by omega), Nat.add_sub_cancel_left, decide_eq_true hi,
      Bool.true_and]
  have hlow : ∀ b : BitVec 4, (nibble ++ b).getLsbD 0 = b.getLsbD 0 := fun b => by
    rw [BitVec.getLsbD_append, if_pos (by decide)]
  refine ⟨?_, ?_, ?_, ?_, ?_, ?_, ?_, ?_⟩
  · cases slot <;> exact hnibble _
  · cases slot <;> exact hlow _
  · rintro rfl i h1 h14
    interval_cases i <;> rfl
  · rintro m rfl
    exact bytesOfWord_append _
  · rintro m rfl
    exact bytesOfWord_append _
  · rintro m rfl
    exact bytesOfWord_append _
  · rintro u d c rfl
    exact ⟨bytesOfWord_append _, bytesOfWord_append _, bytesOfWord_append _⟩
  · rintro e rfl
    cases e <;> rfl

theorem recordOfSlot_length (nibble : BitVec 4) (slot : Option Setpoint) : (recordOfSlot nibble slot).length = 16 := by
  rw [recordOfSlot, List.length_append, recordBody_length]
  rfl

/-! ### The exchange served (R157, R163) -/

/-- The own reading of a level on ULINK_SENSE (R163). -/
theorem readingOfSense_millivolts (mv : Nat) : (2600 < mv → readingOfSense (.millivolts mv) = .outOfRange)
    ∧ (2500 ≤ mv → mv ≤ 2600 → readingOfSense (.millivolts mv) = .volts 1000)
    ∧ (mv ≤ 2500 → readingOfSense (.millivolts mv) = .volts (mv * 1000 / 2500)) := by
  have hin : mv ≤ 2600 → readingOfSense (.millivolts mv) = .volts (min (mv * 1000 / 2500) 1000) := fun h => by
    rw [readingOfSense, if_neg (by omega), clampNat_eq]
  refine ⟨fun h => ?_, fun h1 h2 => ?_, fun h => ?_⟩
  · rw [readingOfSense, if_pos h]
  · rw [hin h2, Nat.min_eq_right (by omega)]
  · rw [hin (by omega), Nat.min_eq_left (by omega)]

/-- Settles O33, the partner in turn giving the slot and the nibble of the record. -/
theorem exchangesServeThePartnersInTurn : Obligations.ExchangesServeThePartnersInTurn := by
  unfold Obligations.ExchangesServeThePartnersInTurn
  intro s sense hserves hreset hin hrun hdue
  have hmay : s.mayExchange = true := by
    simp [State.mayExchange, Timer.due_of hrun hdue, hserves, hreset, hin]
  have hexec : exec (.exchangeStart sense) s
      = .next ((s.setStp { s.stp with exchange := Timer.started, turn := s.stp.turn.other }).beginExchange s.stp.turn
          (readingOfSense sense)) := by
    show execExchangeStart sense s = _
    rw [execExchangeStart, if_pos hmay]
  cases hturn : s.stp.turn with
  | p0 =>
    rw [hturn] at hexec
    refine ⟨_, ⟨.p0, recordOfSlot (s.stp.seq0 + 1) s.stp.slot0, readingOfSense sense⟩, s.stp.seq0 + 1, s.stp.slot0, hexec,
      ((KeptBut.refl s _).setStp (by decide) _).setStp (by decide) _, rfl, rfl, nofun, rfl, rfl, rfl, rfl, rfl,
      fun _ => ⟨rfl, rfl, rfl, rfl, ?_, ?_⟩, nofun, recordOfSlot_length _ _, xorBytes_append _, recordOfSlot_fields _ _⟩
    · rintro rfl
      rfl
    · rintro mv rfl
      exact readingOfSense_millivolts mv
  | p1 =>
    rw [hturn] at hexec
    exact ⟨_, ⟨.p1, recordOfSlot (s.stp.seq1 + 1) s.stp.slot1, .none⟩, s.stp.seq1 + 1, s.stp.slot1, hexec,
      ((KeptBut.refl s _).setStp (by decide) _).setStp (by decide) _, rfl, rfl, nofun, rfl, rfl, rfl, rfl, rfl,
      nofun, fun _ => ⟨rfl, rfl, rfl, rfl⟩, recordOfSlot_length _ _, xorBytes_append _, recordOfSlot_fields _ _⟩

/-! ### The final exchanges (R165) -/

/-- Settles O36: the phase alone decides what an exchange's end begins. -/
theorem finalExchangesEndInPartnerReset : Obligations.FinalExchangesEndInPartnerReset := by
  unfold Obligations.FinalExchangesEndInPartnerReset
  intro s record role
  refine ⟨fun hop hrole hfinal hin => ?_, fun hfinal => ?_, fun hfinal => ?_⟩
  · obtain ⟨x, hx⟩ := Option.ne_none_iff_exists'.mp hin
    have hserves : s.serves = false := by rw [State.serves, hop]; rfl
    refine ⟨s.beginFinal, ?_, ((KeptBut.refl s _).setStp (by decide) _).setStp (by decide) _, rfl⟩
    show execExchangeCompletion record s = _
    simp only [execExchangeCompletion, hx, hrole, hserves, Bool.false_eq_true, if_false, hop, hfinal, and_self, if_true]
  · refine ⟨(s.setStp { s.stp with final := .partner1 }).beginExchange .p1 .none, ?_,
      ((KeptBut.refl s _).setStp (by decide) _).setStp (by decide) _, rfl⟩
    show execFinalExchangeEnd s = _
    rw [execFinalExchangeEnd, hfinal]
  · refine ⟨(s.setPins { s.pins with partnerReset := true }).setStp { s.stp with final := .ended, inFlight := none }, ?_,
      ((KeptBut.refl s _).setPins (by decide) _).setStp (by decide) _, rfl, rfl⟩
    show execFinalExchangeEnd s = _
    rw [execFinalExchangeEnd, hfinal]

end
end Sys2Proof.Machine
end

/-! # The role blocks' timers (R62, R63, R65 to R67, R96, R97, R101, R105, R116) -/
section
namespace Sys2Proof.Machine

section
variable {c : Instr} {s t u : State}

/-! ### The own capability record by role (R46, R78, R107) -/

theorem State.reformOwn_of_axle (h : s.role = some .axle) : s.reformOwn = s.setBlu { s.blu with
    own := axleRecord s.mpt.copy s.nsq.op s.stp.held0 s.stp.held1 s.wau.q s.blu.slip s.blu.limitL } := by
  simp only [State.reformOwn, h]

theorem State.reformOwn_of_pack (h : s.role = some .pack) :
    s.reformOwn = s.setPlu (s.plu.advertise s.nsq.op (packReading s.stp.held1) (heldPAct s.stp.held0)) := by
  simp only [State.reformOwn, h]

theorem State.reformOwn_of_genset (h : s.role = some .genset) :
    s.reformOwn = s.setGsc (s.gsc.reform s.mpt.copy s.nsq.op s.stp.held0) := by
  simp only [State.reformOwn, h]

theorem State.reformOwn_setBlu (h : s.role = some .axle) (b : BlendUnit) : (s.setBlu b).reformOwn = s.setBlu { b with
    own := axleRecord s.mpt.copy s.nsq.op s.stp.held0 s.stp.held1 s.wau.q b.slip b.limitL } :=
  State.reformOwn_of_axle (s := s.setBlu b) h

/-! ### A wear item replaced (R119 to R122) -/

/-- Whether an item enters DUE as it is replaced (R122). -/
def WearItem.entersDue (old x : WearItem) : Bool := x.state == .due && old.state != .due

theorem State.putItem_near (s : State) (i : Nat) (x : WearItem) :
    (s.putItem i x).status .wearNear = anyNear (setItem s.wau.items i x) := by
  unfold State.putItem
  dsimp only
  generalize hu : ite (x.state = .due ∧ (itemAt s.wau.items i).state ≠ .due) _ _ = u
  have hy : u.status .wearNear = anyNear (setItem s.wau.items i x) := by
    rw [← hu]
    split
    · rw [State.putStatus_status_ne _ _ (by decide), State.putStatus_status_self]
    · rw [State.putStatus_status_self]
  split
  · split
    · rw [State.status_of_stu _ ((State.reformOwn_kept (u.setWau _)) .stu (by decide))]; exact hy
    · exact hy
  · exact hy

theorem State.putItem_due (s : State) (i : Nat) (x : WearItem) : (s.putItem i x).status .wearDue
    = (s.status .wearDue || (itemAt s.wau.items i).entersDue x) := by
  unfold State.putItem
  dsimp only
  generalize hu : ite (x.state = .due ∧ (itemAt s.wau.items i).state ≠ .due) _ _ = u
  have hy : u.status .wearDue = (s.status .wearDue || (itemAt s.wau.items i).entersDue x) := by
    rw [← hu]
    split
    · next h =>
      rw [State.putStatus_status_self]
      simp [WearItem.entersDue, h.1, h.2]
    · next h =>
      rw [State.putStatus_status_ne _ _ (by decide)]
      have : (itemAt s.wau.items i).entersDue x = false := by
        rw [Bool.eq_false_iff]
        intro h'
        simp only [WearItem.entersDue, Bool.and_eq_true, beq_iff_eq, bne_iff_ne] at h'
        exact h h'
      rw [this, Bool.or_false]
      rfl
  split
  · split
    · rw [State.status_of_stu _ ((State.reformOwn_kept (u.setWau _)) .stu (by decide))]; exact hy
    · exact hy
  · exact hy

/-- An item but the first moves the table and the wear warnings alone. -/
theorem State.putItem_of_ne (s : State) {i : Nat} (h : i ≠ 1) (x : WearItem) :
    (s.putItem i x).wau = { s.wau with items := setItem s.wau.items i x } ∧ KeptBut s (s.putItem i x) [.wau, .stu] := by
  have h1 : ∀ w v, KeptBut s ((s.setWau w).putStatus .wearNear v) [.wau, .stu] := fun w v =>
    ((KeptBut.refl s _).setWau (by decide) w).putStatus (by decide) _ _
  have hne : ¬ (i = 1 ∧ x.acc ≠ (itemAt s.wau.items i).acc) := fun hc => h hc.1
  unfold State.putItem
  dsimp only
  rw [if_neg hne]
  split
  · exact ⟨rfl, (h1 _ _).putStatus (by decide) _ _⟩
  · exact ⟨rfl, h1 _ _⟩

theorem State.putItem_withdraws (s : State) (i : Nat) (x : WearItem) : (s.putItem i x).withdraws = s.withdraws :=
  State.withdraws_of_status_eq fun y hy => s.putItem_status i x (by rintro rfl; revert hy; decide)
    (by rintro rfl; revert hy; decide)

theorem itemState_due (c : List Word) (i acc : Nat) : itemState c i acc = .due ↔ dueOf c i ≤ acc := by
  unfold itemState
  split_ifs with h1 h2 <;> simp [h1]

/-- An item below the end of its range that units reach takes them whole, its state following (R119, R120). -/
theorem WearItem.add_eq (x : WearItem) (c : List Word) (i : Nat) {n : Nat} (hn : 0 < n) (h : x.acc + n ≤ accMax) :
    x.add c i n = { x with acc := x.acc + n, state := itemState c i (x.acc + n) } := by
  unfold WearItem.add
  dsimp only
  rw [Nat.min_eq_left h, if_neg (by omega)]

theorem WearItem.entersDue_of {old x : WearItem} (h : x.state = .due) (ho : old.state ≠ .due) : old.entersDue x = true := by
  rw [WearItem.entersDue, h, beq_self_eq_true, Bool.true_and]
  exact bne_iff_ne.mpr ho

/-! ### The ramp timer and the slip hold timer (R62, R63, R65 to R67) -/

theorem BlendUnit.moveM_eq (b : BlendUnit) : b.moveM = { b with limitM := b.moveM.limitM } := by
  unfold BlendUnit.moveM
  split <;> rfl

theorem BlendUnit.moveM_limitM (b : BlendUnit) :
    (b.ramp = .down → b.moveM.limitM = b.limitM - 2) ∧ (b.ramp = .up → b.moveM.limitM = min 1000 (b.limitM + 4))
    ∧ (b.ramp = .none → b.moveM.limitM = b.limitM) := by
  refine ⟨fun h => ?_, fun h => ?_, fun h => ?_⟩ <;> rw [BlendUnit.moveM, h]

/-- A ramp expiry outside RECOVER moves M alone. -/
theorem State.takeRamp_of_steady (h : ∀ k, s.blu.slip ≠ .recover k) :
    s.takeRamp = s.setBlu { s.blu with limitM := s.blu.moveM.limitM, rampTimer := Timer.started } := by
  unfold State.takeRamp
  dsimp only
  rw [BlendUnit.moveM_eq]
  cases hslip : s.blu.slip with
  | grip => simp only [BlendUnit.raiseL]
  | slip k => simp only [BlendUnit.raiseL]
  | recover k => exact absurd hslip (h k)

/-- The affected unslipped capability of a slip kind (R63). -/
def affectedCapability (k : SlipKind) (pdu pru : Nat) : Nat :=
  match k with
  | .braking => pru
  | .traction => pdu

/-- A ramp expiry in RECOVER moves M and L and re-forms the own record with the slip machine as it stands then. -/
theorem State.takeRamp_of_recover (hr : s.role = some .axle) {k : SlipKind} (h : s.blu.slip = .recover k) {slip : SlipState}
    {l : Nat} (hnext : slip = .recover k ∧ l = s.blu.limitL + 1
        ∧ s.blu.limitL + 1 < affectedCapability k (pdU s.mpt.copy s.stp.held0) (prU s.mpt.copy s.stp.held0)
      ∨ slip = .grip ∧ l = 0
        ∧ affectedCapability k (pdU s.mpt.copy s.stp.held0) (prU s.mpt.copy s.stp.held0) ≤ s.blu.limitL + 1) :
    s.takeRamp = s.setBlu { s.blu with
      slip := slip, limitL := l, limitM := s.blu.moveM.limitM, rampTimer := Timer.started
      own := axleRecord s.mpt.copy s.nsq.op s.stp.held0 s.stp.held1 s.wau.q slip l } := by
  have hraise : ∀ pdu pru, s.blu.moveM.raiseL pdu pru
      = if affectedCapability k pdu pru ≤ s.blu.limitL + 1 then { s.blu with slip := .grip, limitL := 0, limitM := s.blu.moveM.limitM }
        else { s.blu with limitL := s.blu.limitL + 1, limitM := s.blu.moveM.limitM } := fun pdu pru => by
    rw [BlendUnit.moveM_eq]
    simp only [BlendUnit.raiseL, h]
    rfl
  unfold State.takeRamp
  dsimp only
  rw [hraise, h]
  dsimp only
  rcases hnext with ⟨rfl, rfl, hlt⟩ | ⟨rfl, rfl, hle⟩
  · rw [if_neg (by omega), State.reformOwn_setBlu hr]
    simp only [h]
  · rw [if_pos hle, State.reformOwn_setBlu hr]

/-! ### The advertised capabilities of the slip states (R48) -/

theorem axlePr_recover (u l : Nat) {op : OpState} (h : op = .active) : axlePr u op (.recover .braking) l = min u l := by
  rw [axlePr, if_pos h]

theorem axlePd_recover (u l : Nat) {op : OpState} (h : op = .active) : axlePd u op (.recover .traction) l = min u l := by
  rw [axlePd, if_pos h]

theorem axle_grip (u l : Nat) {op : OpState} (h : op = .active) : axlePr u op .grip l = u ∧ axlePd u op .grip l = u := by
  unfold axlePr axlePd
  rw [if_pos h]
  exact ⟨rfl, rfl⟩

/-- At the start of RECOVER the affected capability is 0 (R62). -/
theorem axle_recover_zero (u : Nat) (op : OpState) :
    axlePr u op (.recover .braking) 0 = 0 ∧ axlePd u op (.recover .traction) 0 = 0 := by
  rw [axlePr, axlePd]
  by_cases h : op = .active
  · rw [if_pos h]; exact ⟨Nat.min_zero _, Nat.min_zero _⟩
  · rw [if_neg h]; exact ⟨rfl, rfl⟩

/-- Settles O43: each expiry's state is one of the three above, or a minute's with S2 raised. -/
theorem roleTimersMoveTheirLimits : Obligations.RoleTimersMoveTheirLimits := by
  unfold Obligations.RoleTimersMoveTheirLimits
  intro s hserves
  refine ⟨fun hr hrun hdue => ?_, fun hr k hslip hrun hdue => ?_, fun hr hs hrun hdue => ?_⟩
  · have hexec : exec .rampTimerExpiry s = .next s.takeRamp := by
      show execRampTimerExpiry s = _
      rw [execRampTimerExpiry, if_pos (by simp [State.blends, hserves, hr, Timer.due_of hrun hdue])]
    obtain ⟨hdown, hup, hnone⟩ := s.blu.moveM_limitM
    by_cases hslip : ∃ k, s.blu.slip = .recover k
    · obtain ⟨k, hk⟩ := hslip
      by_cases hle : affectedCapability k (pdU s.mpt.copy s.stp.held0) (prU s.mpt.copy s.stp.held0) ≤ s.blu.limitL + 1
      · rw [State.takeRamp_of_recover hr hk (.inr ⟨rfl, rfl, hle⟩)] at hexec
        refine ⟨_, hexec, (KeptBut.refl s _).setBlu (by decide) _, rfl, rfl, hdown, hup, hnone, fun k' hk' => ?_,
          fun h => absurd hk (h k), rfl, rfl, rfl, rfl⟩
        obtain rfl : k = k' := by rw [hk] at hk'; injection hk'
        refine ⟨fun hlt => ?_, fun _ => ⟨rfl, rfl, fun hop => ⟨(axle_grip _ 0 hop).1, (axle_grip _ 0 hop).2⟩⟩⟩
        cases k <;> exact absurd hlt (Nat.not_lt.mpr hle)
      · rw [State.takeRamp_of_recover hr hk (.inl ⟨rfl, rfl, by omega⟩)] at hexec
        refine ⟨_, hexec, (KeptBut.refl s _).setBlu (by decide) _, rfl, rfl, hdown, hup, hnone, fun k' hk' => ?_,
          fun h => absurd hk (h k), rfl, rfl, rfl, rfl⟩
        obtain rfl : k = k' := by rw [hk] at hk'; injection hk'
        refine ⟨fun hlt => ⟨rfl, rfl, ?_, ?_⟩, fun h => ?_⟩
        · rintro rfl hop
          exact (axlePr_recover _ _ hop).trans (Nat.min_eq_right (Nat.le_of_lt hlt))
        · rintro rfl hop
          exact (axlePd_recover _ _ hop).trans (Nat.min_eq_right (Nat.le_of_lt hlt))
        · cases k <;> exact absurd h hle
    · have hsteady := not_exists.mp hslip
      rw [State.takeRamp_of_steady hsteady] at hexec
      exact ⟨_, hexec, (KeptBut.refl s _).setBlu (by decide) _, rfl, rfl, hdown, hup, hnone,
        fun k hk => absurd hk (hsteady k), fun _ => ⟨rfl, rfl, rfl⟩, rfl, rfl, rfl, rfl⟩
  · have hexec : exec .slipHoldTimerExpiry s = .next (s.setBlu { s.blu with
        slip := .recover k, limitL := 0, slipHold := Timer.stopped
        own := axleRecord s.mpt.copy s.nsq.op s.stp.held0 s.stp.held1 s.wau.q (.recover k) 0 }) := by
      show execSlipHoldTimerExpiry s = _
      rw [execSlipHoldTimerExpiry,
        if_pos (by simp [State.blends, hserves, hr, Timer.due_of hrun hdue, hslip, SlipState.slipping]),
        State.reformOwn_setBlu hr]
      simp only [BlendUnit.enterRecover, hslip]
    refine ⟨_, hexec, (KeptBut.refl s _).setBlu (by decide) _, rfl, rfl, rfl, ?_, ?_, rfl, rfl, rfl⟩
    · rintro rfl
      exact (axle_recover_zero _ _).1
    · rintro rfl
      exact (axle_recover_zero _ _).2
  · have hexec : exec .minuteTimerExpiry s = .next s.takeMinute.settle := by
      show execMinuteTimerExpiry s = _
      rw [execMinuteTimerExpiry, if_pos (by simp [hserves, hr, Timer.due_of hrun hdue])]
    let m := s.setWau { s.wau with minute := Timer.started, hot := false }
    have hm : KeptBut s m [.wau, .stu] := (KeptBut.refl s _).setWau (by decide) _
    cases hhot : s.wau.hot with
    | false =>
      have htake : s.takeMinute = m := by
        rw [State.takeMinute, hhot, if_neg (by decide)]
      rw [htake, hs.settle_of_stu (t := m) rfl rfl] at hexec
      refine ⟨_, hexec, ?_, ?_, fun _ => ?_, nofun, fun y _ _ => ?_, ?_, ?_⟩
      · rw [State.compareF_wau]; rfl
      · rw [State.compareF_wau]; rfl
      · rw [State.compareF_wau]; rfl
      · rw [State.compareF_status]; rfl
      · rw [State.compareF_wau]; rfl
      · exact (hm.mono (by decide)).trans (m.compareF_kept.mono (by decide))
    | true =>
      have htake : s.takeMinute = m.addUnits 2 1 := by
        rw [State.takeMinute, hhot, if_pos rfl]
      obtain ⟨hwau, hkept⟩ := m.putItem_of_ne (show 2 ≠ 1 by decide) ((itemAt s.wau.items 2).add s.mpt.copy 2 1)
      have hw : (m.addUnits 2 1).withdraws = s.withdraws := (m.putItem_withdraws _ _).trans (State.withdraws_of_stu rfl)
      have hop : (m.addUnits 2 1).nsq = s.nsq := hkept .nsq (by decide)
      rw [htake, hs.settle_eq (by rw [hop]) hw] at hexec
      refine ⟨_, hexec, ?_, ?_, nofun, fun _ s1 x s3 hitems hacc => ?_, fun y h1 h2 => ?_, ?_, ?_⟩
      · rw [State.compareF_wau]; exact congrArg Wear.minute hwau
      · rw [State.compareF_wau]; exact congrArg Wear.hot hwau
      · have hx : itemAt s.wau.items 2 = x := by rw [hitems]; rfl
        have hadd := WearItem.add_eq x s.mpt.copy 2 (n := 1) (by decide) hacc
        refine ⟨x.add s.mpt.copy 2 1, ?_, by rw [hadd], by rw [hadd]; exact itemState_due _ _ _, fun hd ho => ?_, ?_⟩
        · rw [State.compareF_wau]
          refine (congrArg Wear.items hwau).trans ?_
          show setItem s.wau.items 2 _ = _
          rw [hx, hitems]
          rfl
        · rw [State.compareF_status]
          refine (m.putItem_due _ _).trans ?_
          show (_ || (itemAt s.wau.items 2).entersDue ((itemAt s.wau.items 2).add s.mpt.copy 2 1)) = true
          rw [hx, WearItem.entersDue_of hd ho, Bool.or_true]
        · rw [State.compareF_status, State.compareF_wau]
          have hi : (m.addUnits 2 1).wau.items = setItem s.wau.items 2 ((itemAt s.wau.items 2).add s.mpt.copy 2 1) :=
            congrArg Wear.items hwau
          have hn : (m.addUnits 2 1).status .wearNear = anyNear (m.addUnits 2 1).wau.items := by
            rw [hi]
            exact m.putItem_near 2 _
          rw [hn, anyNear_iff]
      · rw [State.compareF_status]
        exact m.putItem_status _ _ h1 h2
      · have hdw := congrArg Wear.dw hwau
        rw [State.compareF_wau]
        exact hdw
      · exact ((hm.trans hkept).mono (by decide)).trans (State.compareF_kept _ |>.mono (by decide))

end
end Sys2Proof.Machine
end

/-! # The engine's timers and the periodic checks (R96, R97, R101, R105, R169, R179) -/
section
namespace Sys2Proof.Machine

section
variable {c : Instr} {s t u : State}

/-! ### The engine's moves in the GENSET role (R91) -/

theorem State.enterEngine_of_genset (h : s.role = some .genset) (e : EngineState) : s.enterEngine e
    = (s.setGsc ((s.gsc.enter e).reform s.mpt.copy s.nsq.op s.stp.held0)).writeSlot1 (.engine (commandOf e)) :=
  State.reformOwn_of_genset (s := (s.setGsc (s.gsc.enter e)).writeSlot1 (.engine (commandOf e))) h

/-- The scheduler at its entry to OFF (R96, R101, R102). -/
def Genset.enterOff (g : Genset) (dwell : Nat) : Genset :=
  { g.enter .off with
    crank := Timer.stopped, warm := Timer.stopped, cooldown := Timer.stopped, off := Timer.started, dwell := dwell }

theorem State.engineOff_of_genset (h : s.role = some .genset) (n : Nat) : s.engineOff n
    = ((s.setGsc ((s.gsc.enterOff n).reform s.mpt.copy s.nsq.op s.stp.held0)).writeSlot1 (.engine .stop)).testStandby :=
  congrArg State.testStandby (State.enterEngine_of_genset (s := s.setGsc { s.gsc with
    crank := Timer.stopped, warm := Timer.stopped, cooldown := Timer.stopped, off := Timer.started, dwell := n }) h .off)

/-- The blocks that the engine's entry to OFF leaves, below the sequence limit. -/
theorem State.engineOff_frame (hr : s.role = some .genset) (h : s.mpt.ringSeq < seqMax) (n : Nat) :
    KeptBut s (s.engineOff n) [.gsc, .stp, .mpt] ∧ (s.engineOff n).mpt.eeprom = s.mpt.eeprom
    ∧ (s.engineOff n).gsc = (s.gsc.enterOff n).reform s.mpt.copy s.nsq.op s.stp.held0
    ∧ (s.engineOff n).stp = { s.stp with slot1 := some (.engine .stop) } := by
  rw [State.engineOff_of_genset hr]
  let w := (s.setGsc ((s.gsc.enterOff n).reform s.mpt.copy s.nsq.op s.stp.held0)).writeSlot1 (.engine .stop)
  have hw : KeptBut s w [.gsc, .stp, .mpt] := ((KeptBut.refl s _).setGsc (by decide) _).setStp (by decide) _
  have hkept := State.testStandby_kept (s := w) h
  refine ⟨hw.trans (hkept.mono (by decide)), ?_, ?_, ?_⟩
  · exact (Follows.of_testStandby (s := w) h).eeprom
  · exact hkept .gsc (by decide)
  · exact hkept .stp (by decide)

theorem State.schedules_of (hserves : s.serves = true) (hr : s.role = some .genset) : s.schedules = true := by
  rw [State.schedules, hserves, hr]
  rfl

/-- Settles O46: each expiry enters one engine state, and no status but START_FAIL follows. -/
theorem engineTimersMoveTheEngine : Obligations.EngineTimersMoveTheEngine := by
  unfold Obligations.EngineTimersMoveTheEngine
  intro s hs hserves hr hseq
  have hschedules := State.schedules_of hserves hr
  refine ⟨fun he hrun hdue => ?_, fun he hrun hdue => ?_, fun he hrun hdue => ?_⟩
  · have hexec : exec .crankTimerExpiry s = .next s.failAttempt.settle := by
      show execCrankTimerExpiry s = _
      rw [execCrankTimerExpiry, if_pos (by simp [hschedules, he, Timer.due_of hrun hdue])]
    by_cases hlt : s.gsc.failures < 2
    · let w := s.setGsc { s.gsc with failures := s.gsc.failures + 1 }
      have hfail : s.failAttempt = w.engineOff 10 := by
        rw [State.failAttempt, if_neg (by omega)]
      obtain ⟨hkept, heeprom, hgsc, hstp⟩ := State.engineOff_frame (s := w) hr hseq 10
      have hw : KeptBut s w [.gsc, .stp, .mpt] := (KeptBut.refl s _).setGsc (by decide) _
      have hnsq : (w.engineOff 10).nsq = s.nsq := hkept .nsq (by decide)
      have hstu : (w.engineOff 10).stu = s.stu := hkept .stu (by decide)
      rw [hfail, hs.settle_of_stu (by rw [hnsq]) hstu] at hexec
      refine ⟨_, hexec, ?_, ?_, ?_, ?_, ?_, ?_, fun _ => ⟨?_, ?_, ?_, ?_, ?_⟩, fun hle => absurd hlt (by omega), ?_, ?_⟩
      · rw [State.compareF_gsc, hgsc]; rfl
      · rw [State.compareF_gsc, hgsc]; rfl
      · rw [State.compareF_gsc, hgsc]; rfl
      · rw [State.compareF_stp, hstp]
      · rw [State.compareF_gsc, hgsc]; rfl
      · rw [State.compareF_nsq, hnsq]
      · rw [State.compareF_gsc, hgsc]; rfl
      · rw [State.compareF_gsc, hgsc]; rfl
      · rw [State.compareF_gsc, hgsc]; rfl
      · rw [State.compareF_gsc, hgsc]; rfl
      · rw [State.compareF_set, hstu]
      · exact ((hw.trans hkept).mono (by decide)).trans ((State.compareF_kept _).mono (by decide))
      · rw [State.compareF_mpt]; exact heeprom
    · let w := s.setGsc { s.gsc with failures := 3, crank := Timer.stopped }
      let v := (w.setGsc ((w.gsc.enter .faulted).reform s.mpt.copy s.nsq.op s.stp.held0)).writeSlot1 (.engine .stop)
      have hfail : s.failAttempt = v.putStatus .startFail true := by
        rw [State.failAttempt, if_pos (by omega), State.enterEngine_of_genset (s := w) hr]
        rfl
      have hw : (v.putStatus .startFail true).withdraws = s.withdraws :=
        (State.putStatus_withdraws v _ (by decide)).trans (State.withdraws_of_stu rfl)
      rw [hfail, hs.settle_eq (t := v.putStatus .startFail true) rfl hw] at hexec
      refine ⟨_, hexec, ?_, ?_, ?_, ?_, ?_, ?_, fun h => absurd h hlt, fun _ => ⟨?_, ?_, ?_, ?_, fun y hy => ?_⟩, ?_, ?_⟩
      · rw [State.compareF_gsc]; rfl
      · rw [State.compareF_gsc]; rfl
      · rw [State.compareF_gsc]; rfl
      · rw [State.compareF_stp]; rfl
      · rw [State.compareF_gsc]; rfl
      · rw [State.compareF_nsq]; rfl
      · rw [State.compareF_gsc]; rfl
      · rw [State.compareF_gsc]; rfl
      · rw [State.compareF_status]; exact State.putStatus_status_self _ _ _
      · rw [State.compareF_gsc]; rfl
      · rw [State.compareF_status]; exact State.putStatus_status_ne _ _ hy
      · have hv : KeptBut s v [.gsc, .stp, .stu, .sli, .mpt] :=
          (((KeptBut.refl s _).setGsc (by decide) _).setGsc (by decide) _).setStp (by decide) _
        exact (hv.putStatus (by decide) _ _).trans ((State.compareF_kept _).mono (by decide))
      · rw [State.compareF_mpt]; rfl
  · let w := s.setGsc { s.gsc with warm := Timer.stopped, cooldown := Timer.stopped }
    have hexec : exec .warmTimerExpiry s = .next s.engineRunning := by
      show execWarmTimerExpiry s = _
      rw [execWarmTimerExpiry, if_pos (by simp [hschedules, he, Timer.due_of hrun hdue])]
    have hrunning : s.engineRunning = (w.setGsc ((w.gsc.enter .running).reform s.mpt.copy s.nsq.op s.stp.held0)).writeSlot1
        (.engine .run) := State.enterEngine_of_genset (s := w) hr .running
    rw [hrunning] at hexec
    exact ⟨_, hexec, rfl, rfl, rfl, rfl, rfl, rfl, fun hop => ⟨if_pos hop, if_pos hop⟩,
      (((KeptBut.refl s _).setGsc (by decide) _).setGsc (by decide) _).setStp (by decide) _⟩
  · have hexec : exec .cooldownTimerExpiry s = .next (s.engineOff 20).settle := by
      show execCooldownTimerExpiry s = _
      rw [execCooldownTimerExpiry, if_pos (by simp [hschedules, he, Timer.due_of hrun hdue])]
    obtain ⟨hkept, heeprom, hgsc, hstp⟩ := State.engineOff_frame hr hseq 20
    have hnsq : (s.engineOff 20).nsq = s.nsq := hkept .nsq (by decide)
    have hstu : (s.engineOff 20).stu = s.stu := hkept .stu (by decide)
    rw [hs.settle_of_stu (by rw [hnsq]) hstu] at hexec
    refine ⟨_, hexec, ?_⟩
    rw [State.compareF_gsc, State.compareF_stp, State.compareF_nsq, State.compareF_set, State.compareF_mpt, hgsc, hstp,
      hnsq, hstu]
    exact ⟨rfl, rfl, rfl, rfl, rfl, rfl, rfl, rfl, rfl, heeprom⟩

/-! ### The two checks (R169, R179) -/

theorem checkHolds_eq_false {c : List Word} : checkHolds c = false ↔ c.foldl (· ^^^ ·) 0 ≠ 0xA55A#16 :=
  beq_eq_false_iff_ne

/-- The Memory Port after a storage upset: a copy that fails its check already keeps its words (log entry 21). -/
theorem State.upsetCopy_mpt (s : State) (u : Option (BitVec 6 × Word)) :
    (s.upsetCopy u).mpt = { s.mpt with copy := (s.upsetCopy u).mpt.copy }
    ∧ (u = none → (s.upsetCopy u).mpt.copy = s.mpt.copy)
    ∧ (checkHolds s.mpt.copy = false → (s.upsetCopy u).mpt.copy = s.mpt.copy) := by
  rcases s.upsetCopy_cases u with h | ⟨n, bits, hu, hcheck, h⟩ <;> rw [h]
  · exact ⟨rfl, fun _ => rfl, fun _ => rfl⟩
  · exact ⟨rfl, (fun hn => by rw [hn] at hu; cases hu), fun hf => by rw [hf] at hcheck; cases hcheck⟩

/-- The recheck of an upset copy, before CFG_CORRUPT. -/
def State.rechecked (s : State) (u : Option (BitVec 6 × Word)) : State :=
  (s.upsetCopy u).setMpt { (s.upsetCopy u).mpt with
    recheck := Timer.started, recheckBad := !checkHolds (s.upsetCopy u).mpt.copy }

theorem State.rechecked_kept (s : State) (u : Option (BitVec 6 × Word)) : KeptBut s (s.rechecked u) [.mpt] :=
  (s.upsetCopy_kept u).setMpt (by decide) _

/-- A recheck that finds the copy good changes no status and no operating state. -/
theorem State.recheckCopy_good (hs : Settled s) (u : Option (BitVec 6 × Word))
    (hgood : checkHolds (s.upsetCopy u).mpt.copy = true) :
    (s.upsetCopy u).recheckCopy.settle = (s.rechecked u).compareF := by
  have hcopy : (s.upsetCopy u).recheckCopy = s.rechecked u := by
    simp only [State.recheckCopy, State.rechecked, hgood, Bool.not_true, Bool.false_eq_true, if_false]
  have hnsq : (s.rechecked u).nsq = s.nsq := s.rechecked_kept u .nsq (by decide)
  rw [hcopy, hs.settle_of_stu (by rw [hnsq]) (s.rechecked_kept u .stu (by decide))]

theorem State.recheckCopy_bad (u : Option (BitVec 6 × Word)) (hbad : checkHolds (s.upsetCopy u).mpt.copy = false) :
    (s.upsetCopy u).recheckCopy = (s.rechecked u).putStatus .cfgCorrupt true := by
  simp only [State.recheckCopy, State.rechecked, hbad, Bool.not_false, if_true]

/-- Settles O47: each check records its result and latches its status; WITHDRAWN follows CFG_CORRUPT. -/
theorem checksLatchAndRecord : Obligations.ChecksLatchAndRecord := by
  unfold Obligations.ChecksLatchAndRecord
  intro s p upset hs
  refine ⟨fun hon hrun hdue hseq => ?_, fun hserves hrun hdue => ?_⟩
  · have hexec : exec (.recheckTimerExpiry upset) s = .next (s.upsetCopy upset).recheckCopy.settle := by
      have hon' : (s.serves || s.nsq.op == .standby) = true := by
        rcases hon with h | h <;> simp [h]
      show execRecheckTimerExpiry upset s = _
      rw [execRecheckTimerExpiry, if_pos (by rw [hon', Timer.due_of hrun hdue]; rfl)]
    obtain ⟨hmpt, hnone, hcorrupt⟩ := s.upsetCopy_mpt upset
    have hkept := s.rechecked_kept upset
    have hptb : (s.rechecked upset).ptb = s.ptb := hkept .ptb (by decide)
    have hshe : (s.rechecked upset).she = s.she := hkept .she (by decide)
    have hwau : (s.rechecked upset).wau = s.wau := hkept .wau (by decide)
    have hnsq : (s.rechecked upset).nsq = s.nsq := hkept .nsq (by decide)
    have hstu : (s.rechecked upset).stu = s.stu := hkept .stu (by decide)
    have heeprom : (s.upsetCopy upset).mpt.eeprom = s.mpt.eeprom := by rw [hmpt]
    have hcopy : s.mpt.copy.foldl (· ^^^ ·) 0 ≠ 0xA55A#16 → (s.upsetCopy upset).mpt.copy = s.mpt.copy := fun h =>
      hcorrupt (checkHolds_eq_false.mpr h)
    cases hgood : checkHolds (s.upsetCopy upset).mpt.copy with
    | true =>
      have hbad : (s.rechecked upset).mpt.recheckBad = false := by
        show (!checkHolds _) = false
        rw [hgood]; rfl
      have hnot : ¬ (s.upsetCopy upset).mpt.copy.foldl (· ^^^ ·) 0 ≠ 0xA55A#16 := fun h => by
        rw [checkHolds_eq_false.mpr h] at hgood; cases hgood
      rw [State.recheckCopy_good hs upset hgood] at hexec
      refine ⟨_, hexec, ?_⟩
      simp only [State.compareF_mpt, State.compareF_nsq, State.compareF_ptb, State.compareF_she, State.compareF_wau,
        State.compareF_status, hbad, hptb, hshe, hwau, hnsq, State.status_of_stu _ hstu]
      exact ⟨rfl, hnone, fun h => absurd (hcopy h ▸ h) hnot, fun _ _ => trivial, ⟨nofun, fun h => absurd h hnot⟩, nofun,
        fun _ => ⟨trivial, trivial⟩, heeprom, trivial, trivial, trivial⟩
    | false =>
      rw [State.recheckCopy_bad upset hgood] at hexec
      let w := (s.rechecked upset).putStatus .cfgCorrupt true
      have hseq' : w.mpt.ringSeq < seqMax := by
        show (s.upsetCopy upset).mpt.ringSeq < seqMax
        rw [hmpt]; exact hseq
      have hf : Follows w w.settle := .of_settle fun _ => hseq'
      have hwnsq : w.nsq = s.nsq := hnsq
      have hstatus : w.settle.status .cfgCorrupt = true := by
        rw [hf.status]; exact State.putStatus_status_self _ _ _
      have hm : w.settle.mpt.recheck = Timer.started ∧ w.settle.mpt.copy = (s.upsetCopy upset).mpt.copy
          ∧ w.settle.mpt.recheckBad = true ∧ w.settle.mpt.eeprom = (s.upsetCopy upset).mpt.eeprom := by
        rw [hf.mpt]
        refine ⟨rfl, rfl, ?_, rfl⟩
        show (!checkHolds _) = true
        rw [hgood]; rfl
      obtain ⟨hrecheck, hc, hb, he⟩ := hm
      refine ⟨_, hexec, hrecheck, fun h => hc.trans (hnone h), fun h => ⟨hc.trans (hcopy h), hb⟩, fun y hy => ?_, ?_,
        fun _ => ⟨hstatus, fun hop => ?_⟩, fun h => ?_, he.trans heeprom, hf.ptb.trans hptb, hf.she.trans hshe,
        hf.wau.trans hwau⟩
      · rw [hf.status]
        exact (State.putStatus_status_ne _ _ hy).trans (State.status_of_stu y hstu)
      · rw [hb, hc]
        exact ⟨fun _ => checkHolds_eq_false.mp hgood, fun _ => rfl⟩
      · have := (w.settle_settled).1 hop
        rw [State.withdraws_of_status (x := .cfgCorrupt) (by decide) hstatus] at this
        cases this
      · rw [hb] at h; cases h
  · have hexec : exec (.strapCheckExpiry p) s = .next (s.pinStraps p).checkStraps.settle := by
      show execStrapCheckExpiry p s = _
      rw [execStrapCheckExpiry, if_pos (by simp [hserves, Timer.due_of hrun hdue])]
    let w := (s.pinStraps p).setNsq { s.nsq with
      strapCheck := Timer.started, strapDiffers := decide (p ≠ s.nsq.sample) }
    have hw : KeptBut s w [.nsq, .pins, .stu, .sli] := ((KeptBut.refl s _).setPins (by decide) _).setNsq (by decide) _
    by_cases hp : p = s.nsq.sample
    · have hcheck : (s.pinStraps p).checkStraps = w := by
        show (if decide (p ≠ s.nsq.sample) = true then w.putStatus .strap true else w) = w
        rw [if_neg (by simpa using hp)]
      rw [hcheck, hs.settle_of_stu (t := w) rfl rfl] at hexec
      refine ⟨_, hexec, ?_⟩
      simp only [State.compareF_nsq, State.compareF_status]
      exact ⟨rfl, rfl, decide_eq_true_iff, fun h => absurd hp h, fun _ => rfl, fun _ _ => rfl, rfl,
        hw.trans (w.compareF_kept.mono (by decide))⟩
    · have hcheck : (s.pinStraps p).checkStraps = w.putStatus .strap true := by
        show (if decide (p ≠ s.nsq.sample) = true then w.putStatus .strap true else w) = w.putStatus .strap true
        rw [if_pos (by simpa using hp)]
      have hwd : (w.putStatus .strap true).withdraws = s.withdraws :=
        (State.putStatus_withdraws w _ (by decide)).trans (State.withdraws_of_stu rfl)
      rw [hcheck, hs.settle_eq (t := w.putStatus .strap true) rfl hwd] at hexec
      refine ⟨_, hexec, ?_⟩
      simp only [State.compareF_nsq, State.compareF_status]
      exact ⟨rfl, rfl, decide_eq_true_iff, fun _ => State.putStatus_status_self _ _ _, fun h => absurd h hp,
        fun y hy => State.putStatus_status_ne _ _ hy, rfl,
        (hw.putStatus (by decide) _ _).trans ((State.compareF_kept _).mono (by decide))⟩

end
end Sys2Proof.Machine
end

/-! # The ends of flushes (R125, R127, R167, R171, R172, R184) -/
section
namespace Sys2Proof.Machine

section
variable {c : Instr} {s t u : State}

/-! ### An event that changes no status (R136, R138) -/

/-- Where an event leaves the status unit, the carried set, the operating state and the running copy, its end asks for no
STATE frame. -/
theorem Settled.settle_quiet (h : Settled s) (hop : t.nsq.op = s.nsq.op) (hstu : t.stu = s.stu)
    (hcar : t.sli.state.carried = s.sli.state.carried) (hcopy : t.mpt.copy = s.mpt.copy) :
    t.settle = t.compareF ∧ t.compareF.sli = t.sli ∧ KeptBut t t.compareF [.stu] := by
  have hserves : t.serves = s.serves := by rw [State.serves, State.serves, hop]
  have hsli : t.compareF.sli = t.sli := State.compareF_sli_of_formed fun hs => by
    rw [hstu, State.fBit_of_eq hop (by rw [hstu]) hcar hcopy]
    exact h.2.2 (hserves ▸ hs)
  refine ⟨h.settle_of_stu hop hstu, hsli, fun b hb => ?_⟩
  by_cases hsl : b = .sli
  · rw [hsl]
    exact hsli
  · exact t.compareF_kept b (by simp only [List.mem_cons, List.not_mem_nil, or_false] at hb ⊢; tauto)

/-! ### The pending flush started (R167) -/

/-- What starting the pending flush leaves. -/
structure PendingStarted (s t : State) : Prop where
  kept : KeptBut s t [.mpt]
  mpt : t.mpt = { s.mpt with op := t.mpt.op, poll := t.mpt.poll, torn := t.mpt.torn, pendingFlush := none }
  idle : s.mpt.pendingFlush = none → t = s
  started : ∀ ps, s.mpt.pendingFlush = some ps → t.mpt.poll = ⟨true, 0⟩ ∧ t.mpt.op = .flush
    ⟨snapshotOf s.role s.wau.items, 1, (s.mpt.ringSlot + 1) % 8, s.mpt.ringSeq + 1, 1, ps⟩

theorem State.startPending_started (hop : s.mpt.op = .none) (h : s.mpt.pendingFlush ≠ none → s.mpt.ringSeq < seqMax) :
    PendingStarted s s.startPending := by
  cases hp : s.mpt.pendingFlush with
  | none =>
    have hidle : s.startPending = s := by simp only [State.startPending, hop, if_true, hp]
    rw [hidle]
    exact ⟨.refl _ _, by rw [← hp], fun _ => rfl, fun ps hps => by rw [hp] at hps; cases hps⟩
  | some ps =>
    have hseq : (s.setMpt { s.mpt with pendingFlush := none }).mpt.ringSeq < seqMax := h (by rw [hp]; nofun)
    have hstart : s.startPending = (s.setMpt { s.mpt with pendingFlush := none }).launchFlush ps := by
      simp only [State.startPending, hop, if_true, hp]
    rw [hstart, State.launchFlush_eq hseq]
    refine ⟨((KeptBut.refl s _).setMpt (by decide) _).setMpt (by decide) _, rfl,
      (fun hn => by rw [hp] at hn; cases hn), fun ps' hps => ?_⟩
    rw [hp] at hps
    cases hps
    exact ⟨rfl, rfl⟩

/-! ### A page stored or left torn (R172) -/

/-- A stored page is read back whole. -/
theorem State.writePage_page {role : Role} (hr : s.role = some role) (job : FlushJob) (h : s.mpt.eeprom.wf = true) {i : Nat}
    (hi : i < 32) : Memory.read (s.writePage job).mpt.eeprom (pageAddress job.slot job.page + i)
      = (slotBytes role job.seq job.snapshot).getD (if job.page = 1 then i else 32 + i) 0 := by
  have hbytes : s.jobBytes job = slotBytes role job.seq job.snapshot := by rw [State.jobBytes, hr]; rfl
  have hlen := slotBytes_length role job.seq job.snapshot
  show Memory.read (Memory.writeAll _ _ (pageOf (s.jobBytes job) job.page)) _ = _
  rw [hbytes, Memory.read_writeAll _ _ _ h, pageOf_length hlen, if_pos (by omega), Nat.add_sub_cancel_left, pageOf]
  split
  · rw [List.getD_eq_getElem?_getD, List.getD_eq_getElem?_getD, List.getElem?_take, if_pos hi]
  · rw [List.getD_eq_getElem?_getD, List.getD_eq_getElem?_getD, List.getElem?_drop]

/-- The second page stored: the ring position at the slot written and no operation in flight (R172). -/
def State.slotStored (s : State) (job : FlushJob) : State :=
  (s.writePage job).setMpt { (s.writePage job).mpt with
    torn := s.mpt.torn &&& ~~~(1#8 <<< job.slot), ringSlot := job.slot, ringSeq := job.seq, op := .none
    poll := Timer.stopped }

theorem State.storePage_of_second {job : FlushJob} (h : job.page ≠ 1) :
    s.storePage job = ((s.slotStored job).reportFlush true job.parties).startPending := by
  unfold State.storePage
  dsimp only
  rw [if_neg h]
  rfl

/-- A flush failed: its page left torn, MEM_FAULT latched and no operation in flight (R172). -/
def State.flushFailed (s : State) (job : FlushJob) : State :=
  ((s.tearPage job).setMpt { (s.tearPage job).mpt with op := .none, poll := Timer.stopped }).putStatus .memFault true

theorem State.failPage_of_last {job : FlushJob} (h : job.attempt ≠ 1 ∨ job.attempt = 1 ∧ seqMax < s.mpt.ringSeq + 2) :
    s.failPage job = ((s.flushFailed job).reportFlush false job.parties).startPending := by
  unfold State.failPage
  dsimp only
  rcases h with h | ⟨h, hseq⟩
  · rw [if_neg h]
    rfl
  · have hnone : attemptJob (s.tearPage job).mpt job.snapshot job.parties 2 = none := if_pos hseq
    rw [if_pos h, hnone]
    rfl

/-! ### The parties told (R125, R184) -/

/-- Nobody waits, or a WEAR_RESET alone: only its reply is formed. -/
theorem State.reportFlush_of_quiet (s : State) (ok : Bool) {parties : List Party} {place item : Nat}
    (h : parties = [] ∨ parties = [.wearReset place item]) :
    KeptBut s (s.reportFlush ok parties) [.sli] ∧ (parties = [] → s.reportFlush ok parties = s)
    ∧ (parties = [.wearReset place item] → s.reportFlush ok parties
        = s.reply place (if ok then .done else .memFail) [BitVec.ofNat 16 item])
    ∧ (s.reportFlush ok parties).sli.state = s.sli.state := by
  rcases h with rfl | rfl
  · exact ⟨.refl _ _, fun _ => rfl, nofun, rfl⟩
  · exact ⟨s.reply_kept _ _ _, nofun, fun _ => rfl, rfl⟩

theorem exec_pageStored {job : FlushJob} (p : Straps) (h : s.mpt.op = .flush job) :
    exec (.pageStored p) s = .next ((s.pinStraps p).storePage job).settle := by
  show execPageStored p s = _
  simp only [execPageStored, h]

theorem exec_pageTimeout {job : FlushJob} (p : Straps) (h : s.mpt.op = .flush job) (hrun : s.mpt.poll.running = true)
    (hdue : 20 ≤ s.mpt.poll.elapsed) : exec (.pageTimeout p) s = .next ((s.pinStraps p).failPage job).settle := by
  show execPageTimeout p s = _
  simp only [execPageTimeout, h, Timer.due_of hrun hdue, if_true]

/-! ### A REBOOT taken at the end of its flush (R175, R176, R184) -/

/-- After a reset by supply or REBOOT no F value is formed and no STATE frame asked for (R141). -/
theorem State.hardReset_settle (s : State) (k : ResetKind) :
    (s.hardReset k).startPending = s.hardReset k
    ∧ (s.hardReset k).settle = s.hardReset k := by
  have hsupply := s.hardReset_supply k
  have hop : (s.hardReset k).nsq.op = .boot ∨ (s.hardReset k).nsq.op = .mute := (s.hardReset_fallen k).1
  have hforms : (s.hardReset k).formsF = false := by
    unfold State.formsF
    rcases hop with h | h <;> rw [h]
    rw [hsupply.stu]
    rfl
  have hserves : (s.hardReset k).serves = false := (s.hardReset_fallen k).not_serves
  refine ⟨?_, ?_⟩
  · unfold State.startPending
    split
    · rw [hsupply.mpt.1]
    · rfl
  · rw [State.settle_eq_compareF]
    · unfold State.compareF
      dsimp only
      rw [hforms, hserves, Bool.and_false, if_neg (by decide)]
      rfl
    · rcases hop with h | h <;> rw [h] <;> nofun
    · rcases hop with h | h <;> rw [h] <;> nofun

/-- A REBOOT that waits alone is taken at the end of its flush, after a success or a failure. -/
theorem flushEnds_reboots {job : FlushJob} {p : Straps} (hop : s.mpt.op = .flush job) (hparties : job.parties = [.reboot])
    (hc : c = .pageStored p ∧ job.page = 2
      ∨ c = .pageTimeout p ∧ job.attempt = 2 ∧ s.mpt.poll.running = true ∧ 20 ≤ s.mpt.poll.elapsed) :
    ∃ u : State, u.pins.straps = p ∧ exec c s = .next (u.hardReset .reboot) := by
  have hend : ∀ (u : State) (ok : Bool), (u.reportFlush ok job.parties).startPending.settle = u.hardReset .reboot :=
    fun u ok => by
      obtain ⟨hpending, hsettle⟩ := u.hardReset_settle .reboot
      rw [hparties]
      exact (congrArg State.settle hpending).trans hsettle
  rcases hc with ⟨rfl, hpage⟩ | ⟨rfl, hattempt, hrun, hdue⟩
  · refine ⟨(s.pinStraps p).slotStored job, rfl, ?_⟩
    rw [exec_pageStored p hop, State.storePage_of_second (by omega), hend]
  · refine ⟨(s.pinStraps p).flushFailed job, rfl, ?_⟩
    rw [exec_pageTimeout p hop hrun hdue, State.failPage_of_last (.inl (by omega)), hend]

/-- A flush's periodic request (R171), which leaves every block but the Memory Port's. -/
theorem flushTimer_requests (hs : Settled s) (hop : s.nsq.op = .active ∨ s.nsq.op = .withdrawn)
    (hrun : s.mpt.flush.running = true) (hdue : 300000 ≤ s.mpt.flush.elapsed) (hseq : s.mpt.ringSeq < seqMax) :
    ∃ t, exec .flushTimerExpiry s = .next t ∧ t.mpt = ((s.setMpt { s.mpt with flush := Timer.started }).requestFlush []).mpt
      ∧ KeptBut s t [.mpt, .stu] := by
  let w := s.setMpt { s.mpt with flush := Timer.started }
  have hon : (s.nsq.op == .active || s.nsq.op == .withdrawn) = true := by
    rcases hop with h | h <;> rw [h] <;> rfl
  have hexec : exec .flushTimerExpiry s = .next (w.requestFlush []).settle := by
    show execFlushTimerExpiry s = _
    rw [execFlushTimerExpiry, if_pos (by rw [hon, Timer.due_of hrun hdue]; rfl)]
  have hf := Follows.of_requestFlush (s := w) hseq []
  have hk : KeptBut w (w.requestFlush []) [.mpt] := State.requestFlush_kept (s := w) hseq []
  have hnsq : (w.requestFlush []).nsq = s.nsq := hk .nsq (by decide)
  have hsli : (w.requestFlush []).sli = s.sli := hk .sli (by decide)
  obtain ⟨hsettle, -, hkept⟩ := hs.settle_quiet (t := w.requestFlush []) (by rw [hnsq]) (hk .stu (by decide)) (by rw [hsli])
    hf.copy
  rw [hsettle] at hexec
  exact ⟨_, hexec, State.compareF_mpt _, (((KeptBut.refl s _).setMpt (by decide) _).trans (hk.mono (by decide))).trans
    (hkept.mono (by decide))⟩

/-- Settles O48: a page stored goes on to the next page, or the flush ends and its parties are told. -/
theorem flushesWriteTheNextSlot : Obligations.FlushesWriteTheNextSlot := by
  unfold Obligations.FlushesWriteTheNextSlot
  intro s p hs
  refine ⟨fun hop hrun hdue hseq => ?_, fun job role hop hr hwf hpage => ?_,
    fun job role hop hr hwf hpage place item hparties hpend => ?_, fun job c hop hparties hc => ?_⟩
  · obtain ⟨t, hexec, hmpt, hkept⟩ := flushTimer_requests hs hop hrun hdue hseq
    refine ⟨t, hexec, ?_⟩
    rw [hmpt]
    let w := s.setMpt { s.mpt with flush := Timer.started }
    have hw : w.mpt.ringSeq < seqMax := hseq
    by_cases hnone : s.mpt.op = .none
    · have hreq : (w.requestFlush []).mpt = w.mpt.beginAttempt
          ⟨snapshotOf s.role s.wau.items, 1, (s.mpt.ringSlot + 1) % 8, s.mpt.ringSeq + 1, 1, []⟩ := by
        rw [State.requestFlush_idle (s := w) hnone, State.launchFlush_eq hw]
        rfl
      rw [show (s.setMpt { s.mpt with flush := Timer.started }).requestFlush [] = w.requestFlush [] from rfl, hreq]
      exact ⟨rfl, fun _ => ⟨rfl, rfl⟩, fun h => absurd hnone h, rfl, rfl, hkept⟩
    · rw [State.requestFlush_busy (s := s.setMpt { s.mpt with flush := Timer.started }) hnone]
      exact ⟨rfl, fun h => absurd h hnone, fun _ => ⟨rfl, congrArg some (List.append_nil _)⟩, rfl, rfl, hkept⟩
  · let x := s.pinStraps p
    let w := (x.writePage job).setMpt { (x.writePage job).mpt with op := .flush { job with page := 2 }, poll := Timer.started }
    have hstore : x.storePage job = w := by
      unfold State.storePage
      dsimp only
      rw [if_pos hpage]
    have hw : KeptBut s w [.mpt, .pins, .stu] :=
      (((KeptBut.refl s _).setPins (by decide) _).setMpt (by decide) _).setMpt (by decide) _
    have hexec := exec_pageStored p hop
    obtain ⟨hsettle, -, hkept⟩ := hs.settle_quiet (t := w) rfl rfl rfl rfl
    rw [show (s.pinStraps p).storePage job = w from hstore, hsettle] at hexec
    refine ⟨_, hexec, ?_⟩
    rw [State.compareF_mpt]
    refine ⟨rfl, rfl, rfl, rfl, fun i hi => ?_, fun a ha => ?_, hw.trans (hkept.mono (by decide))⟩
    · have h := State.writePage_page (s := x) hr job hwf hi
      rw [pageAddress, if_pos hpage, if_pos hpage] at h
      exact h
    · refine State.writePage_read (s := x) job hwf ?_
      rw [pageAddress, if_pos hpage]
      exact ha
  · let x := s.pinStraps p
    have hpage1 : job.page ≠ 1 := by omega
    let v := (x.slotStored job).reportFlush true job.parties
    have hx : KeptBut s (x.slotStored job) [.mpt, .pins, .stu, .sli] :=
      (((KeptBut.refl s _).setPins (by decide) _).setMpt (by decide) _).setMpt (by decide) _
    obtain ⟨hreport, hquiet, hreply, hstate⟩ := (x.slotStored job).reportFlush_of_quiet true hparties
    have hvm : v.mpt = (x.slotStored job).mpt := hreport .mpt (by decide)
    have hv : KeptBut s v [.mpt, .pins, .stu, .sli] := hx.trans (hreport.mono (by decide))
    have hvrole : v.role = s.role := by
      rw [State.role, State.role, show v.nsq = s.nsq from hv .nsq (by decide)]
    have hvwau : v.wau = s.wau := hv .wau (by decide)
    obtain ⟨hpk, hpm, hpidle, hpstart⟩ := State.startPending_started (s := v) (by rw [hvm]; rfl) (by rw [hvm]; exact hpend)
    have hexec := exec_pageStored p hop
    have hend : KeptBut s v.startPending [.mpt, .pins, .stu, .sli] := hv.trans (hpk.mono (by decide))
    have hnsq : v.startPending.nsq = s.nsq := hend .nsq (by decide)
    have hstu : v.startPending.stu = s.stu := (hpk .stu (by decide)).trans (hreport .stu (by decide))
    have hsli : v.startPending.sli = v.sli := hpk .sli (by decide)
    have hsfinal : v.sli.state = s.sli.state := hstate
    obtain ⟨hsettle, hquietsli, hkept⟩ := hs.settle_quiet (t := v.startPending) (by rw [hnsq]) hstu
      (by rw [hsli, hsfinal]) (by rw [hpm, hvm]; rfl)
    rw [State.storePage_of_second hpage1, hsettle] at hexec
    refine ⟨_, hexec, ?_⟩
    rw [State.compareF_mpt, hquietsli, State.compareF_set, hstu, hsli]
    have heeprom : v.startPending.mpt.eeprom = (x.writePage job).mpt.eeprom := by rw [hpm, hvm]; rfl
    have haddr : pageAddress job.slot job.page = slotAddress job.slot + 32 := by rw [pageAddress, if_neg hpage1]
    refine ⟨by rw [hpm], fun hn => ?_, fun ps hps => ?_, fun hnil => ?_, fun hw => ?_, by rw [hpm, hvm]; rfl,
      by rw [hpm, hvm]; rfl, fun i h1 h2 => ?_, fun a ha => ?_, rfl, hend.trans (hkept.mono (by decide))⟩
    · rw [hpidle (by rw [hvm]; exact hn), hvm]
      rfl
    · obtain ⟨h1, h2⟩ := hpstart ps (by rw [hvm]; exact hps)
      rw [hvrole, hvwau, hvm] at h2
      exact ⟨h1, h2⟩
    · show ((x.slotStored job).reportFlush true job.parties).sli = _
      rw [hquiet hnil]
      rfl
    · show ((x.slotStored job).reportFlush true job.parties).sli = _
      rw [hreply hw]
      rfl
    · have h := State.writePage_page (s := x) hr job hwf (i := i - 32) (by omega)
      rw [haddr, if_neg hpage1, Nat.add_sub_cancel' h1] at h
      rw [heeprom, ← h]
      exact congrArg _ (by omega)
    · rw [heeprom]
      refine State.writePage_read (s := x) job hwf ?_
      rw [haddr]
      omega
  · obtain ⟨u, hu, hexec⟩ := flushEnds_reboots hop hparties hc
    obtain ⟨sample, cause, ⟨-, -, -, -, -, pendingReset, -⟩, stu, records, stopped, condition, ⟨pendingFlush, -, -⟩, -, -⟩ :=
      u.hardReset_supply .reboot
    obtain ⟨ready, traction⟩ := u.hardReset_lines_down .reboot
    refine ⟨_, hexec, sample.trans hu, cause, pendingReset, fun hvalid => ?_, fun hinvalid => ?_, ready, traction,
      by rw [stu]; rfl, by rw [stu]; rfl, condition, records, stopped, pendingFlush⟩
    · rcases u.hardReset_cases .reboot with ⟨role, -, h⟩ | ⟨hnone, -⟩
      · rw [h]; exact ⟨rfl, rfl, rfl⟩
      · rw [hu] at hnone; exact absurd hnone hvalid
    · rcases u.hardReset_cases .reboot with ⟨role, hsome, -⟩ | ⟨-, h⟩
      · rw [hu, hinvalid] at hsome; cases hsome
      · rw [h]; exact ⟨rfl, rfl, rfl⟩

end
end Sys2Proof.Machine
end

/-! # Failed pages, the ends of CONFIG_READ and CONFIG_WRITE (R125, R172, R173) -/
section
namespace Sys2Proof.Machine

section
variable {c : Instr} {s t u : State}

/-- A prompt request leaves the reply places. -/
theorem State.compareF_replies (s : State) : s.compareF.sli.replies = s.sli.replies := s.compareF_prompt.replies

/-- Settles O49: the second attempt takes the slot after the next; a flush that fails latches MEM_FAULT alone. -/
theorem failedPagesAreRetriedOnce : Obligations.FailedPagesAreRetriedOnce := by
  unfold Obligations.FailedPagesAreRetriedOnce
  intro s p job hs hop hrun hdue hwf
  have hexec := exec_pageTimeout p hop hrun hdue
  let x := s.pinStraps p
  refine ⟨fun hattempt hseq => ?_, fun n item hlast hparties hpend => ?_⟩
  · let next : FlushJob := { job with
      attempt := 2, slot := (s.mpt.ringSlot + 2) % 8, seq := s.mpt.ringSeq + 2, page := 1 }
    let w := (x.tearPage job).setMpt ((x.tearPage job).mpt.beginAttempt next)
    have hnext : attemptJob (x.tearPage job).mpt job.snapshot job.parties 2 = some next :=
      if_neg (Nat.not_lt.mpr hseq)
    have hfail : x.failPage job = w := by
      unfold State.failPage
      dsimp only
      rw [if_pos hattempt, hnext]
    have hw : KeptBut s w [.mpt, .pins, .stu, .free] :=
      ((((KeptBut.refl s _).setPins (by decide) _).setMpt (by decide) _).setFree (by decide) _).setMpt (by decide) _
    obtain ⟨hsettle, -, hkept⟩ := hs.settle_quiet (t := w) rfl rfl rfl rfl
    rw [show (s.pinStraps p).failPage job = w from hfail, hsettle] at hexec
    refine ⟨_, hexec, ?_⟩
    rw [State.compareF_mpt, State.compareF_set]
    exact ⟨rfl, rfl, rfl, rfl, rfl, hw.trans (hkept.mono (by decide)), fun a ha => State.tearPage_read (s := x) job hwf ha⟩
  · have hlast' : job.attempt ≠ 1 ∨ job.attempt = 1 ∧ seqMax < x.mpt.ringSeq + 2 := by
      rcases hlast with h | h
      · exact .inl (by omega)
      · exact .inr h
    let f := x.flushFailed job
    let v := f.reportFlush false job.parties
    have hf : KeptBut s f [.mpt, .pins, .stu, .sli, .free] :=
      ((((KeptBut.refl s _).setPins (by decide) _).setMpt (by decide) _).setFree (by decide) _).setMpt (by decide) _
        |>.putStatus (by decide) _ _
    obtain ⟨hreport, hquiet, hreply, -⟩ := f.reportFlush_of_quiet false hparties
    have hvm : v.mpt = f.mpt := hreport .mpt (by decide)
    have hv : KeptBut s v [.mpt, .pins, .stu, .sli, .free] := hf.trans (hreport.mono (by decide))
    have hvrole : v.role = s.role := by
      rw [State.role, State.role, show v.nsq = s.nsq from hv .nsq (by decide)]
    have hvwau : v.wau = s.wau := hv .wau (by decide)
    obtain ⟨hpk, hpm, hpidle, hpstart⟩ := State.startPending_started (s := v) (by rw [hvm]; rfl) (by rw [hvm]; exact hpend)
    have hend : KeptBut s v.startPending [.mpt, .pins, .stu, .sli, .free] := hv.trans (hpk.mono (by decide))
    have hnsq : v.startPending.nsq = s.nsq := hend .nsq (by decide)
    have hstu : v.startPending.stu = f.stu := (hpk .stu (by decide)).trans (hreport .stu (by decide))
    have hsli : v.startPending.sli = v.sli := hpk .sli (by decide)
    have hstatus : ∀ y, v.startPending.status y = f.status y := fun y => State.status_of_stu y hstu
    have hwd : v.startPending.withdraws = s.withdraws :=
      (State.withdraws_of_stu hstu).trans ((State.putStatus_withdraws _ _ (by decide)).trans (State.withdraws_of_stu rfl))
    rw [State.failPage_of_last hlast', hs.settle_eq (t := v.startPending) (by rw [hnsq]) hwd] at hexec
    refine ⟨_, hexec, ?_⟩
    simp only [State.compareF_mpt, State.compareF_status, State.compareF_replies, hstatus, hsli]
    have heeprom : v.startPending.mpt.eeprom = (x.tearPage job).mpt.eeprom := by rw [hpm, hvm]; rfl
    refine ⟨State.putStatus_status_self _ _ _, by rw [hpm], fun hn => ?_, fun ps hps => ?_, by rw [hpm, hvm]; rfl,
      by rw [hpm, hvm]; rfl, fun y hy => (State.putStatus_status_ne _ _ hy).trans rfl,
      hend.trans (v.startPending.compareF_kept.mono (by decide)), fun hnil => ?_, fun hw => ?_, fun a ha => ?_⟩
    · rw [hpidle (by rw [hvm]; exact hn), hvm]
      rfl
    · obtain ⟨h1, h2⟩ := hpstart ps (by rw [hvm]; exact hps)
      rw [hvrole, hvwau, hvm] at h2
      exact ⟨h1, h2⟩
    · show (f.reportFlush false job.parties).sli.replies = _
      rw [hquiet hnil]
      rfl
    · show (f.reportFlush false job.parties).sli.replies = _
      rw [hreply hw]
      rfl
    · rw [heeprom]
      exact State.tearPage_read (s := x) job hwf ha

/-! ### The ends of CONFIG_READ and CONFIG_WRITE (R173) -/

/-- A reply formed in a place that a RESTART may have emptied (R174). -/
theorem State.replyTo_frame (s : State) (place : Option Nat) (result : ReplyResult) (data : List Word) :
    KeptBut s (s.replyTo place result data) [.sli] ∧ (s.replyTo place result data).sli.state = s.sli.state
    ∧ (s.replyTo place result data).sli.replies = s.sli.replies.map (fun r =>
        if place = some r.place then
          { r with condition := .queued, result := result, data := if result = .done then data else [] }
        else r) := by
  cases place with
  | none =>
    refine ⟨.refl _ _, rfl, ?_⟩
    simp [State.replyTo]
  | some n =>
    refine ⟨s.reply_kept _ _ _, rfl, ?_⟩
    show formReply s.sli.replies n result data = _
    refine List.map_congr_left fun r _ => ?_
    by_cases h : r.place = n
    · rw [if_pos h, if_pos (congrArg some h.symm)]
    · rw [if_neg h, if_neg fun hn => h (Option.some.inj hn).symm]

/-- What the end of a service request's operation leaves, its reply formed in `v` (R167, R173). -/
theorem Settled.endOperation_settle {v : State} (hs : Settled s) (hv : KeptBut s v [.mpt, .pins, .sli, .free])
    (hstate : v.sli.state = s.sli.state) (hm : v.mpt = { s.mpt with eeprom := v.mpt.eeprom })
    (hpend : s.mpt.pendingFlush ≠ none → s.mpt.ringSeq < seqMax) :
    ∃ t, v.endOperation.settle = t ∧ KeptBut v t [.mpt, .stu] ∧ t.stu.set = s.stu.set
      ∧ PendingStarted (v.setMpt { v.mpt with op := .none, poll := Timer.stopped }) v.endOperation
      ∧ t.mpt = v.endOperation.mpt := by
  have hstart := State.startPending_started (s := v.setMpt { v.mpt with op := .none, poll := Timer.stopped }) rfl
    (by rw [State.setMpt_mpt, hm]; exact hpend)
  have hend : KeptBut v v.endOperation [.mpt] := ((KeptBut.refl v _).setMpt (by decide) _).trans hstart.kept
  have hnsq : v.endOperation.nsq = s.nsq := (hend .nsq (by decide)).trans (hv .nsq (by decide))
  have hstu : v.endOperation.stu = s.stu := (hend .stu (by decide)).trans (hv .stu (by decide))
  have hsli : v.endOperation.sli = v.sli := hend .sli (by decide)
  have hvcopy : v.mpt.copy = s.mpt.copy := by rw [hm]
  have hcopy : v.endOperation.mpt.copy = s.mpt.copy := (congrArg MemoryPort.copy hstart.mpt).trans hvcopy
  obtain ⟨hsettle, -, hkept⟩ := hs.settle_quiet (t := v.endOperation) (by rw [hnsq]) hstu (by rw [hsli, hstate]) hcopy
  exact ⟨_, hsettle, (hend.mono (by decide)).trans (hkept.mono (by decide)), by rw [State.compareF_set, hstu], hstart,
    State.compareF_mpt _⟩

theorem exec_configReadComplete {place : Option Nat} {n : Nat} (ack : Bool) (p : Straps) (h : s.mpt.op = .configRead place n) :
    exec (.configReadComplete ack p) s = .next (((s.pinStraps p).replyTo place (if ack then .done else .memFail)
      [BitVec.ofNat 16 n, eepromWord s.mpt.eeprom n]).endOperation).settle := by
  show execConfigReadComplete ack p s = _
  simp only [execConfigReadComplete, h]

theorem exec_configWriteComplete {place : Option Nat} {n : Nat} {m v : Word} (outcome : WriteOutcome) (p : Straps)
    (h : s.mpt.op = .configWrite place n m v) : exec (.configWriteComplete outcome p) s
      = .next (if s.canEndWrite outcome then
          ((((s.pinStraps p).writeConfig n m v outcome).replyTo place (if outcome = .stored then .done else .memFail)
            [BitVec.ofNat 16 n, maskedWord (eepromWord s.mpt.eeprom n) m v]).endOperation).settle
        else s) := by
  show execConfigWriteComplete outcome p s = _
  simp only [execConfigWriteComplete, h]

/-! ### The words of the EEPROM image (R173) -/

theorem eepromWord_write {m : Memory} (n : Nat) (w : Word) (h : m.wf = true) :
    eepromWord (writeEepromWord m n w) n = w := by
  have hlen := bytesOfWord_length w
  rw [eepromWord, writeEepromWord, Memory.read_writeAll _ _ _ h, Memory.read_writeAll _ _ _ h, hlen, if_pos (by omega),
    if_pos (by omega), Nat.sub_self, Nat.add_sub_cancel_left]
  exact bytesOfWord_append w

theorem eepromWord_write_ne {m : Memory} {k n : Nat} (w : Word) (h : m.wf = true) (hne : n ≠ k) :
    eepromWord (writeEepromWord m k w) n = eepromWord m n := by
  rw [eepromWord, eepromWord, writeEepromWord_read k w h (by omega), writeEepromWord_read k w h (by omega)]

theorem State.writeConfig_mpt (s : State) (n : Nat) (m v : Word) (o : WriteOutcome) :
    (s.writeConfig n m v o).mpt = { s.mpt with eeprom := (s.writeConfig n m v o).mpt.eeprom } := by
  unfold State.writeConfig
  cases o <;> rfl

/-- The words that each outcome of a CONFIG_WRITE leaves. -/
theorem State.writeConfig_words {n : Nat} (hn : n ≤ 62) (m v : Word) (h : s.mpt.eeprom.wf = true) (o : WriteOutcome) :
    (o = .stored →
      eepromWord (s.writeConfig n m v o).mpt.eeprom n = maskedWord (eepromWord s.mpt.eeprom n) m v
      ∧ eepromWord (s.writeConfig n m v o).mpt.eeprom 63 = eepromWord s.mpt.eeprom 63 ^^^ eepromWord s.mpt.eeprom n
          ^^^ eepromWord (s.writeConfig n m v o).mpt.eeprom n)
    ∧ (o = .readFailed → (s.writeConfig n m v o).mpt.eeprom = s.mpt.eeprom)
    ∧ (o = .wordFailed → eepromWord (s.writeConfig n m v o).mpt.eeprom 63 = eepromWord s.mpt.eeprom 63)
    ∧ (o = .checkFailed →
      eepromWord (s.writeConfig n m v o).mpt.eeprom n = maskedWord (eepromWord s.mpt.eeprom n) m v
      ∧ eepromWord (s.writeConfig n m v o).mpt.eeprom 63 = eepromWord s.mpt.eeprom 63) := by
  refine ⟨?_, ?_, ?_, ?_⟩
  · rintro rfl
    have hword : eepromWord (s.writeConfig n m v .stored).mpt.eeprom n = maskedWord (eepromWord s.mpt.eeprom n) m v :=
      (eepromWord_write_ne _ (writeEepromWord_wf n _ h) (by omega)).trans (eepromWord_write n _ h)
    refine ⟨hword, ?_⟩
    rw [hword]
    exact eepromWord_write 63 _ (writeEepromWord_wf n _ h)
  · rintro rfl
    rfl
  · rintro rfl
    exact congrArg₂ (· ++ ·) (State.tearWord_read n h (by omega)) (State.tearWord_read n h (by omega))
  · rintro rfl
    exact ⟨eepromWord_write n _ h, eepromWord_write_ne _ h (by omega)⟩

/-- Settles O27: the reply is formed before the pending flush starts, and the operation's end asks for no STATE frame. -/
theorem eepromRequestsEndWithTheirWords : Obligations.EepromRequestsEndWithTheirWords := by
  unfold Obligations.EepromRequestsEndWithTheirWords
  intro s p place n hs hpend
  refine ⟨fun ack hop => ?_, fun m v outcome hop hout hnot => ?_, fun m v outcome hop hn hwf hdue => ?_⟩
  · obtain ⟨hkept, hstate, hreplies⟩ := (s.pinStraps p).replyTo_frame place (if ack then .done else .memFail)
      [BitVec.ofNat 16 n, eepromWord s.mpt.eeprom n]
    have hexec := exec_configReadComplete ack p hop
    generalize (s.pinStraps p).replyTo place _ _ = v at hkept hstate hreplies hexec
    have hv : KeptBut s v [.mpt, .pins, .sli, .free] := ((KeptBut.refl s _).setPins (by decide) _).trans (hkept.mono (by decide))
    have hvm : v.mpt = s.mpt := hkept .mpt (by decide)
    have hvwau : v.wau = s.wau := hv .wau (by decide)
    have hvrole : v.role = s.role := by rw [State.role, State.role, show v.nsq = s.nsq from hv .nsq (by decide)]
    obtain ⟨t, ht, htk, hset, hstart, hmpt⟩ := hs.endOperation_settle hv hstate (by rw [hvm]) hpend
    rw [ht] at hexec
    have hsli : t.sli = v.sli := htk .sli (by decide)
    refine ⟨t, hexec, fun hnone => ?_, fun ps hps => ?_, ?_, hset, by rw [hsli, hstate]; rfl, ?_⟩
    · rw [hmpt, hstart.idle (by rw [State.setMpt_mpt, hvm]; exact hnone), State.setMpt_mpt, hvm]
      exact ⟨rfl, rfl⟩
    · obtain ⟨h1, h2⟩ := hstart.started ps (by rw [State.setMpt_mpt, hvm]; exact hps)
      rw [hmpt]
      refine hstart.mpt.trans ?_
      rw [h1, h2, State.setMpt_mpt, State.setMpt_wau, State.setMpt_role, hvm, hvwau, hvrole]
    · have hpins : KeptBut s v [.pins, .stu, .sli, .mpt] :=
        ((KeptBut.refl s _).setPins (by decide) _).trans (hkept.mono (by decide))
      exact hpins.trans (htk.mono (by decide))
    · rw [hsli, hreplies]
      cases ack <;> rfl
  · have hnotdue : s.canEndWrite outcome = false := by
      rw [Bool.eq_false_iff, Ne, State.canEndWrite_iff]
      intro h
      obtain ⟨hrun, hdue⟩ := h hout
      rcases hnot with h | h
      · rw [h] at hrun; cases hrun
      · omega
    rw [exec_configWriteComplete outcome p hop, hnotdue]
    rfl
  · have hexec := exec_configWriteComplete outcome p hop
    rw [if_pos ((s.canEndWrite_iff outcome).mpr hdue)] at hexec
    let x := (s.pinStraps p).writeConfig n m v outcome
    have hx : KeptBut s x [.mpt, .pins, .sli, .free] :=
      ((KeptBut.refl s _).setPins (by decide) _).trans ((State.writeConfig_kept _ n m v outcome).mono (by decide))
    have hxm : x.mpt = { s.mpt with eeprom := x.mpt.eeprom } := (s.pinStraps p).writeConfig_mpt n m v outcome
    obtain ⟨hstored, hread, hword, hcheck⟩ := State.writeConfig_words (s := s.pinStraps p) hn m v hwf outcome
    obtain ⟨hkept, hstate, hreplies⟩ := x.replyTo_frame place (if outcome = .stored then .done else .memFail)
      [BitVec.ofNat 16 n, maskedWord (eepromWord s.mpt.eeprom n) m v]
    have hxsli : x.sli = s.sli := (State.writeConfig_kept _ n m v outcome) .sli (by decide)
    generalize hw : x.replyTo place _ _ = w at hkept hstate hreplies
    rw [show ((s.pinStraps p).writeConfig n m v outcome).replyTo place (if outcome = .stored then .done else .memFail)
      [BitVec.ofNat 16 n, maskedWord (eepromWord s.mpt.eeprom n) m v] = w from hw] at hexec
    have hwk : KeptBut s w [.mpt, .pins, .sli, .free] := hx.trans (hkept.mono (by decide))
    have hwm : w.mpt = x.mpt := hkept .mpt (by decide)
    have hwwau : w.wau = s.wau := hwk .wau (by decide)
    have hwrole : w.role = s.role := by rw [State.role, State.role, show w.nsq = s.nsq from hwk .nsq (by decide)]
    obtain ⟨t, ht, htk, hset, hstart, hmpt⟩ := hs.endOperation_settle hwk (by rw [hstate, hxsli])
      (by rw [hwm]; exact hxm) hpend
    rw [ht] at hexec
    have hsli : t.sli = w.sli := htk .sli (by decide)
    have hpk : KeptBut s w [.pins, .stu, .sli, .mpt, .free] := by
      have h1 : KeptBut s x [.pins, .stu, .sli, .mpt, .free] :=
        ((KeptBut.refl s _).setPins (by decide) _).trans ((State.writeConfig_kept _ n m v outcome).mono (by decide))
      exact h1.trans (hkept.mono (by decide))
    have htm : t.mpt.copy = s.mpt.copy ∧ t.mpt.ringSlot = s.mpt.ringSlot ∧ t.mpt.ringSeq = s.mpt.ringSeq
        ∧ t.mpt.pendingFlush = none ∧ t.mpt.eeprom = x.mpt.eeprom := by
      rw [hmpt, hstart.mpt, State.setMpt_mpt, hwm, hxm]
      exact ⟨rfl, rfl, rfl, rfl, rfl⟩
    obtain ⟨hcopy, hslot, hseq, hpending, heeprom⟩ := htm
    have hwpend : w.mpt.pendingFlush = s.mpt.pendingFlush := by rw [hwm, hxm]
    refine ⟨t, hexec, hcopy, hslot, hseq, hpending, fun hnone => ?_, fun ps hps => ?_, hpk.trans (htk.mono (by decide)), hset,
      by rw [hsli, hstate, hxsli], ?_, ?_⟩
    · rw [hmpt, hstart.idle (hwpend.trans hnone), State.setMpt_mpt]
      exact ⟨rfl, rfl⟩
    · obtain ⟨h1, h2⟩ := hstart.started ps (hwpend.trans hps)
      rw [hmpt]
      refine ⟨h1, h2.trans ?_⟩
      rw [State.setMpt_mpt, State.setMpt_wau, State.setMpt_role, hwm, hxm, hwwau, hwrole]
    · rw [hsli, hreplies, hxsli]
      cases outcome <;> rfl
    · rw [heeprom]
      refine ⟨hstored, hread, hword, hcheck, fun a h1 h2 h3 h4 => ?_⟩
      exact State.writeConfig_read (s := s.pinStraps p) n m v outcome hwf (by omega) (by omega)

end
end Sys2Proof.Machine
end

/-! # SYNC exit and the way into STANDBY (R136, R178, R180, R181) -/
section
namespace Sys2Proof.Machine

section
variable {c : Instr} {s t u : State}

/-! ### The shutdown hold at a DEMAND arrival (R180) -/

theorem State.watchShutdown_nsq (s : State) : s.watchShutdown.nsq
    = if s.given.shutdown && s.given.parked then
        if s.nsq.hold.running || s.nsq.holdMet then s.nsq else { s.nsq with hold := Timer.started }
      else { s.nsq with hold := Timer.stopped, holdMet := false } := by
  unfold State.watchShutdown
  split
  · split <;> rfl
  · rfl

/-- The hold follows the two bits of the arrival itself, DEMAND_LOST being clear by then. -/
theorem State.demandTaken_nsq (s : State) (words : List Word) : (s.demandTaken words).nsq
    = if (demandOfPayload words).shutdown && (demandOfPayload words).parked then
        if s.nsq.hold.running || s.nsq.holdMet then s.nsq else { s.nsq with hold := Timer.started }
      else { s.nsq with hold := Timer.stopped, holdMet := false } := by
  have hptb : (s.storeDemand words).computeShares.rampArrives.ptb = (s.storeDemand words).ptb := by simp
  have hlost : (s.storeDemand words).computeShares.rampArrives.demandLost = false := by simp
  have hgiven : (s.storeDemand words).computeShares.rampArrives.given = demandOfPayload words := by
    rw [State.given_of_present (by rw [hptb]; rfl) hlost, hptb]
    rfl
  have hnsq : (s.storeDemand words).computeShares.rampArrives.nsq = s.nsq :=
    (State.rampArrives_kept _ .nsq (by decide)).trans ((State.computeShares_kept _ .nsq (by decide)).trans rfl)
  rw [State.demandTaken, State.watchShutdown_nsq, hgiven, hnsq]

/-- An arrival starts or ends the hold alone. -/
theorem State.demandTaken_hold (s : State) (words : List Word) : (s.demandTaken words).nsq
    = { s.nsq with hold := (s.demandTaken words).nsq.hold, holdMet := (s.demandTaken words).nsq.holdMet } := by
  rw [State.demandTaken_nsq]
  split_ifs <;> rfl

theorem State.demandTaken_withdraws (s : State) (words : List Word) : (s.demandTaken words).withdraws = s.withdraws := by
  have hstu : ∀ x : State, x.rampArrives.watchShutdown.withdraws = x.withdraws := fun x =>
    State.withdraws_of_stu ((State.watchShutdown_kept _ .stu (by decide)).trans (State.rampArrives_kept _ .stu (by decide)))
  have hstore : (s.storeDemand words).withdraws = s.withdraws :=
    (State.putStatus_withdraws _ _ (by decide)).trans (State.withdraws_of_stu rfl)
  rw [State.demandTaken, hstu]
  rcases State.computeShares_cases (s.storeDemand words) with h | ⟨r, h⟩ <;> rw [h]
  · exact hstore
  · exact ((State.putStatus_withdraws _ _ (by decide)).trans (State.withdraws_of_stu rfl)).trans hstore

theorem State.demandEndsSync_of_not (h : ¬ (s.nsq.op = .sync ∧ s.nsq.sync = .expired)) : s.demandEndsSync = s := by
  rw [State.demandEndsSync, if_neg h]

/-! ### The flush timer at SYNC exit (R171) -/

theorem State.requestFlush_flush (h : s.mpt.ringSeq < seqMax) (ps : List Party) :
    (s.requestFlush ps).mpt.flush = s.mpt.flush := by
  by_cases ho : s.mpt.op = .none
  · rw [State.requestFlush_idle ho, State.launchFlush_eq h]
    rfl
  · rw [State.requestFlush_busy ho]
    rfl

theorem State.testStandby_flush (h : s.mpt.ringSeq < seqMax) : s.testStandby.mpt.flush = s.mpt.flush := by
  rcases s.testStandby_cases with e | e <;> rw [e]
  exact State.requestFlush_flush h _

theorem State.engineWithdrawn_flush (h : s.mpt.ringSeq < seqMax) : s.engineWithdrawn.mpt.flush = s.mpt.flush := by
  unfold State.engineWithdrawn
  split
  · exact congrArg MemoryPort.flush (State.engineCooldown_kept s .mpt (by decide))
  · exact congrArg MemoryPort.flush (State.engineCooldown_kept s .mpt (by decide))
  · unfold State.engineOff
    dsimp only
    rw [State.testStandby_flush (by rw [State.enterEngine_mpt]; exact h), State.enterEngine_mpt]
    rfl
  all_goals rfl

/-- Entry to ACTIVE or WITHDRAWN leaves the flush timer and asks for a STATE frame (R137, R138). -/
theorem State.enterServing_prompts (h : s.mpt.ringSeq < seqMax) (op : OpState) :
    (s.enterServing op).mpt.flush = s.mpt.flush ∧ (s.enterServing op).sli.state = s.sli.state.promptRequest := by
  have hm : (s.takeOp op).requestPrompt.mpt = s.mpt := (s.takeOp_kept op) .mpt (by decide)
  have hs : (s.takeOp op).requestPrompt.sli.state = s.sli.state.promptRequest := by
    show (s.takeOp op).sli.state.promptRequest = _
    rw [show (s.takeOp op).sli = s.sli from s.takeOp_kept op .sli (by decide)]
  rw [State.enterServing_eq]
  split
  · have hseq : (s.takeOp op).requestPrompt.mpt.ringSeq < seqMax := by rw [hm]; exact h
    have hsli := State.engineWithdrawn_kept hseq .sli (by decide)
    rw [State.engineWithdrawn_flush hseq, hm]
    exact ⟨rfl, (congrArg LineUnit.state hsli).trans hs⟩
  · exact ⟨congrArg MemoryPort.flush hm, hs⟩

theorem StatePlace.promptRequest_condition (p : StatePlace) : p.promptRequest.condition ≠ .empty := by
  unfold StatePlace.promptRequest
  split
  · nofun
  · next h => rw [h]; nofun
  · next h => rw [h]; nofun

/-- What SYNC exit leaves at the end of its event (R136, R137, R171, R178). -/
theorem State.leaveSync_settle (h : s.mpt.ringSeq < seqMax) :
    Follows s s.leaveSync.settle ∧ s.leaveSync.settle.nsq.op = (if s.withdraws then .withdrawn else .active)
    ∧ s.leaveSync.settle.pins.ready = true ∧ s.leaveSync.settle.pins.traction = !s.withdraws
    ∧ s.leaveSync.settle.mpt.flush = Timer.started ∧ s.leaveSync.settle.sli.state.condition ≠ .empty := by
  let op : OpState := if s.withdraws then .withdrawn else .active
  let v := (s.setMpt { s.mpt with flush := Timer.started }).enterServing op
  have hfollows := Follows.of_leaveSync h
  have hv : v.mpt.ringSeq < seqMax := by
    have hserve := Follows.of_enterServing (s := s.setMpt { s.mpt with flush := Timer.started }) (fun _ => h) op
    rw [show v.mpt.ringSeq = s.mpt.ringSeq from hserve.ringSeq]
    exact h
  have hstandby : KeptBut v s.leaveSync [.mpt] := State.testStandby_kept hv
  obtain ⟨hop, hready, htraction⟩ := State.enterServing_lines (s := s.setMpt { s.mpt with flush := Timer.started })
    (fun _ => h) op
  obtain ⟨hflush, hprompt⟩ := State.enterServing_prompts (s := s.setMpt { s.mpt with flush := Timer.started }) h op
  have hnsq : s.leaveSync.nsq.op = op := (congrArg Sequencer.op (hstandby .nsq (by decide))).trans hop
  have hpins : s.leaveSync.pins = v.pins := hstandby .pins (by decide)
  have hsli : s.leaveSync.sli = v.sli := hstandby .sli (by decide)
  have hsettle : s.leaveSync.settle = s.leaveSync.compareF := by
    refine State.settle_eq_compareF ?_ ?_ <;> rw [hnsq, hfollows.withdraws] <;> cases hw : s.withdraws <;> simp [op, hw]
  rw [hsettle]
  refine ⟨hfollows.trans (.of_compareF _), ?_, ?_, ?_, ?_, ?_⟩
  · rw [State.compareF_nsq, hnsq]
  · rw [State.compareF_pins, hpins]; exact hready
  · rw [State.compareF_pins, hpins]
    refine htraction.trans ?_
    cases hw : s.withdraws <;> simp [op, hw]
  · rw [State.compareF_mpt]
    exact (State.testStandby_flush hv).trans hflush
  · have hstate : s.leaveSync.sli.state.condition ≠ .empty := by
      rw [hsli, show v.sli.state = _ from hprompt]
      exact StatePlace.promptRequest_condition _
    rcases s.leaveSync.compareF_prompt with e | e <;> rw [e]
    · exact hstate
    · exact StatePlace.promptRequest_condition _

/-- Settles O50: SYNC exit is the same at the expiry and at the arrival after it. -/
theorem syncIsLeftOnADemand : Obligations.SyncIsLeftOnADemand := by
  unfold Obligations.SyncIsLeftOnADemand
  intro s w1 w2 w3 w4 hop hseq
  have hserves : s.serves = true := by rw [State.serves, hop]; rfl
  let words := [w1, w2, w3, w4]
  let g := s.goodFrameEnds 0
  have hgseq : (g.demandTaken words).mpt.ringSeq < seqMax := by simpa [g] using hseq
  have hgop : (g.demandTaken words).nsq.op = .sync := by
    rw [State.demandTaken_hold, State.goodFrameEnds_nsq]
    exact hop
  have hgsync : (g.demandTaken words).nsq.sync = s.nsq.sync := by
    rw [State.demandTaken_hold, State.goodFrameEnds_nsq]
  have hgsample : (g.demandTaken words).nsq.sample = s.nsq.sample := by
    rw [State.demandTaken_hold, State.goodFrameEnds_nsq]
  have hgm : (g.demandTaken words).mpt = s.mpt := by rw [State.demandTaken_mpt, State.goodFrameEnds_mpt]
  have hgp : (g.demandTaken words).ptb = { s.ptb with demand := demandOfPayload words, demandTimer := Timer.started } := by
    rw [State.demandTaken_ptb, State.goodFrameEnds_ptb]
  refine ⟨fun e he hdue hp => ?_, fun e he hr => ?_, fun c hc => ?_⟩
  · let w := s.setNsq { s.nsq with sync := .expired }
    have hexec : exec .syncTimerExpiry s = .next w.settle := by
      show execSyncTimerExpiry s = _
      rw [execSyncTimerExpiry, if_pos ⟨hop, by rw [he]; exact decide_eq_true hdue⟩]
      dsimp only
      rw [if_neg (by rw [State.setNsq_ptb, hp]; decide)]
    rw [State.settle_of_sync (s := w) hop] at hexec
    exact ⟨_, hexec, State.compareF_nsq w, ((KeptBut.refl s _).setNsq (by decide) _).trans (w.compareF_kept.mono (by decide)),
      State.compareF_set w⟩
  · have hexec : exec (.demandArrival 0 words) s = .next (g.takeDemand words).settle :=
      exec_demandArrival_of_serves hr hserves rfl
    have hstay : g.takeDemand words = g.demandTaken words := by
      rw [State.takeDemand_eq, State.demandEndsSync_of_not]
      rw [hgsync, he]
      exact fun h => by cases h.2
    have hkept := g.demandTaken_kept words
    have hstp : (g.demandTaken words).stp = s.stp := (hkept .stp (by decide)).trans (s.goodFrameEnds_stp 0)
    have hpins : (g.demandTaken words).pins = s.pins := (hkept .pins (by decide)).trans (s.goodFrameEnds_pins 0)
    rw [hstay, State.settle_of_sync hgop] at hexec
    refine ⟨_, hexec, ?_⟩
    rw [State.compareF_nsq, State.compareF_ptb, State.compareF_pins, State.compareF_mpt, State.compareF_stp, hgp, hgsync, hgop]
    exact ⟨rfl, he, rfl, hpins, hgm, hstp⟩
  · obtain ⟨u, hexec, huop, hsync, hwd, hm, hsample, hentries⟩ : ∃ u : State, exec c s = .next u.leaveSync.settle
        ∧ u.nsq.op = .sync ∧ u.nsq.sync = .expired ∧ u.withdraws = s.withdraws ∧ u.mpt = s.mpt
        ∧ u.nsq.sample = s.nsq.sample ∧ u.ptb.entries = s.ptb.entries := by
      rcases hc with ⟨rfl, hp, e, he, hdue⟩ | ⟨rfl, hr, hown, he⟩
      · refine ⟨s.setNsq { s.nsq with sync := .expired }, ?_, hop, rfl, rfl, rfl, rfl, rfl⟩
        show execSyncTimerExpiry s = _
        rw [execSyncTimerExpiry, if_pos ⟨hop, by rw [he]; exact decide_eq_true hdue⟩]
        dsimp only
        rw [if_pos (by rw [State.setNsq_ptb]; exact hp)]
      · refine ⟨g.demandTaken words, ?_, hgop, hgsync.trans he, ?_, hgm, hgsample, by rw [hgp]⟩
        · have hleave : g.takeDemand words = (g.demandTaken words).leaveSync := by
            rw [State.takeDemand_eq, State.demandEndsSync, if_pos ⟨hgop, hgsync.trans he⟩]
          rw [← hleave]
          exact exec_demandArrival_of_serves hr hserves rfl
        · rw [State.demandTaken_withdraws]
          have hg : g.withdraws = s.frameEnds.withdraws := congrArg State.withdraws (State.goodFrameEnds_of_other hown.symm)
          exact hg
    obtain ⟨hf, hop', hready, htraction, hflush, hprompt⟩ := State.leaveSync_settle (s := u) (by rw [hm]; exact hseq)
    rw [hwd] at hop' htraction
    refine ⟨_, hexec, hop', hready, htraction, hflush, ?_, hprompt, hf.withdraws.trans hwd, hf.eeprom.trans (by rw [hm]), ?_,
      by rw [hf.ptb, hentries], hf.copy.trans (by rw [hm])⟩
    · rw [hf.nsq]; exact hsync
    · rw [hf.nsq]; exact hsample

/-! ### STANDBY entry (R68, R84, R104, R165, R181) -/

theorem State.lowered_stp (s : State) : s.lowered.stp = { s.stp with
    slot0 := s.lowered.stp.slot0, slot1 := s.lowered.stp.slot1 } := by
  have h : ∀ x : State, x.reformOwn.stp = x.stp := fun x => x.reformOwn_kept .stp (by decide)
  unfold State.lowered State.roleStandby State.writeSlot0 State.writeSlot1
  split <;> simp [h]

theorem State.roleStandby_of_axle (h : s.role = some .axle) :
    s.roleStandby.stp.slot0 = some (.torque 0) ∧ s.roleStandby.stp.slot1 = some (.pressure 0)
    ∧ s.roleStandby.blu.dE = 0 ∧ s.roleStandby.blu.rE = 0 ∧ s.roleStandby.blu.fE = 0
    ∧ s.roleStandby.blu.rampTimer.running = false ∧ s.roleStandby.blu.slipHold.running = false := by
  unfold State.roleStandby
  rw [h]
  dsimp only
  rw [State.reformOwn_setBlu h]
  exact ⟨rfl, rfl, rfl, rfl, rfl, rfl, rfl⟩

theorem State.roleStandby_of_pack (h : s.role = some .pack) (hop : s.nsq.op ≠ .active) :
    s.roleStandby.stp.slot0 = some (.converter (uRef s.mpt.copy) 0 0) ∧ s.roleStandby.plu.own.po = 0
    ∧ s.roleStandby.plu.own.pa = 0 := by
  unfold State.roleStandby
  rw [h]
  dsimp only
  rw [State.reformOwn_of_pack (s := s.setPlu { s.plu with iDis := 0, iChg := 0 }) h]
  exact ⟨rfl, if_neg (fun h => hop h.1), if_neg (fun h => hop h.1)⟩

theorem State.roleStandby_of_genset (h : s.role = some .genset) :
    s.roleStandby.stp.slot1 = some (.engine .stop) ∧ s.roleStandby.stp.slot0 = some (.generator 0)
    ∧ s.roleStandby.gsc.tick.running = false ∧ s.roleStandby.gsc.off.running = false := by
  unfold State.roleStandby
  rw [h]
  dsimp only
  rw [State.reformOwn_of_genset (s := s.setGsc { s.gsc with
    command := .stop, tick := s.gsc.tick.halt, off := s.gsc.off.halt, crank := s.gsc.crank.halt, warm := s.gsc.warm.halt
    run := s.gsc.run.halt, cooldown := s.gsc.cooldown.halt }) h]
  exact ⟨rfl, rfl, rfl, rfl⟩

/-- The Stage Port's part of STANDBY entry (R165). -/
def State.portStandby (s : State) : State :=
  let t := s.setStp { s.stp with exchange := s.stp.exchange.halt, settle := .stopped }
  match t.stp.inFlight with
  | some _ => t.setStp { t.stp with final := .awaiting }
  | none => t.beginFinal

theorem State.portStandby_stp (s : State) :
    s.portStandby.stp.slot0 = s.stp.slot0 ∧ s.portStandby.stp.slot1 = s.stp.slot1
    ∧ s.portStandby.stp.exchange.running = false ∧ s.portStandby.stp.settle = .stopped
    ∧ (s.stp.inFlight = none → s.portStandby.stp.final = .partner0
        ∧ ∃ x, s.portStandby.stp.inFlight = some x ∧ x.partner = .p0)
    ∧ (s.stp.inFlight ≠ none → s.portStandby.stp.final = .awaiting ∧ s.portStandby.stp.inFlight = s.stp.inFlight) := by
  unfold State.portStandby
  dsimp only
  split
  · next x hx =>
    have hin : s.stp.inFlight = some x := hx
    exact ⟨rfl, rfl, rfl, rfl, fun h => (by rw [hin] at h; cases h), fun _ => ⟨rfl, rfl⟩⟩
  · next hx =>
    exact ⟨rfl, rfl, rfl, rfl, fun _ => ⟨rfl, _, rfl, rfl⟩, fun h => absurd hx h⟩

theorem State.enterStandby_port (s : State) : ∃ y : State, y.stp = s.lowered.stp ∧ s.enterStandby.stp = y.portStandby.stp :=
  ⟨(((s.lowered.setPtb { s.lowered.ptb with
        entries := s.lowered.ptb.entries.map fun e => { e with ageTimer := e.ageTimer.halt }
        demandTimer := s.lowered.ptb.demandTimer.halt }).setSli { s.lowered.sli with period := s.lowered.sli.period.halt }).setMpt
        { s.lowered.mpt with flush := s.lowered.mpt.flush.halt }).setWau
        { s.lowered.wau with minute := s.lowered.wau.minute.halt }, rfl, rfl⟩

/-- The Stage Port at STANDBY entry: an exchange in flight is waited for, else the first final one begins (R165). -/
theorem State.enterStandby_stp (s : State) :
    s.enterStandby.stp.slot0 = s.lowered.stp.slot0 ∧ s.enterStandby.stp.slot1 = s.lowered.stp.slot1
    ∧ s.enterStandby.stp.exchange.running = false ∧ s.enterStandby.stp.settle = .stopped
    ∧ (s.stp.inFlight = none → s.enterStandby.stp.final = .partner0
        ∧ ∃ x, s.enterStandby.stp.inFlight = some x ∧ x.partner = .p0)
    ∧ (s.stp.inFlight ≠ none → s.enterStandby.stp.final = .awaiting ∧ s.enterStandby.stp.inFlight = s.stp.inFlight) := by
  have hin : s.lowered.stp.inFlight = s.stp.inFlight := by rw [State.lowered_stp]
  obtain ⟨y, hy, hport⟩ := s.enterStandby_port
  rw [hport, ← hin, ← hy]
  exact y.portStandby_stp

/-! ### The flush that STANDBY entry waits on (R180) -/

/-- The flush's end, the STANDBY conditions tested and no other flush pending. -/
theorem flushEnds_standby {job : FlushJob} {p : Straps} (hop : s.mpt.op = .flush job) (hparties : job.parties = [.standby])
    (hpend : s.mpt.pendingFlush = none)
    (hc : c = .pageStored p ∧ job.page = 2
      ∨ c = .pageTimeout p ∧ job.attempt = 2 ∧ s.mpt.poll.running = true ∧ 20 ≤ s.mpt.poll.elapsed) :
    ∃ u : State, exec c s = .next (if u.standbyReady then u.enterStandby else u).settle
      ∧ KeptBut s u [.mpt, .pins, .stu, .free] ∧ u.mpt.copy = s.mpt.copy ∧ u.withdraws = s.withdraws
      ∧ (c = .pageStored p → KeptBut s u [.mpt, .pins])
      ∧ (c = .pageTimeout p → u.status .memFault = true) := by
  have hnone : ∀ v : State, v.mpt.pendingFlush = none → v.startPending = v := fun v h => by
    unfold State.startPending
    split
    · rw [h]
    · rfl
  have hend : ∀ (u : State) (ok : Bool), u.mpt.pendingFlush = none → (u.reportFlush ok job.parties).startPending
      = if u.standbyReady then u.enterStandby else u := fun u ok hu => by
    rw [hparties]
    show (if u.standbyReady then u.enterStandby else u).startPending = _
    refine hnone _ ?_
    split
    · rw [State.enterStandby_mpt]; exact hu
    · exact hu
  rcases hc with ⟨rfl, hpage⟩ | ⟨rfl, hattempt, hrun, hdue⟩
  · have hk : KeptBut s ((s.pinStraps p).slotStored job) [.mpt, .pins] :=
      (((KeptBut.refl s _).setPins (by decide) _).setMpt (by decide) _).setMpt (by decide) _
    refine ⟨(s.pinStraps p).slotStored job, ?_, hk.mono (by decide), rfl, rfl, fun _ => hk, nofun⟩
    rw [exec_pageStored p hop, State.storePage_of_second (by omega), hend ((s.pinStraps p).slotStored job) true hpend]
  · refine ⟨(s.pinStraps p).flushFailed job, ?_, ?_, rfl, ?_, nofun, fun _ => State.putStatus_status_self _ _ _⟩
    · rw [exec_pageTimeout p hop hrun hdue, State.failPage_of_last (.inl (by omega)),
        hend ((s.pinStraps p).flushFailed job) false hpend]
    · exact ((((KeptBut.refl s _).setPins (by decide) _).setMpt (by decide) _).setFree (by decide) _).setMpt (by decide) _
        |>.putStatus (by decide) _ _
    · exact (State.putStatus_withdraws _ _ (by decide)).trans (State.withdraws_of_stu rfl)

/-- The conditions of STANDBY entry in a state that serves. -/
theorem State.standbyReady_iff (s : State) : s.standbyReady = true ↔ s.nsq.holdMet = true
    ∧ (s.nsq.op = .active ∨ s.nsq.op = .withdrawn) ∧ s.nsq.pendingReset = .none
    ∧ (s.role = some .genset → s.gsc.engine = .off) := by
  simp only [State.standbyReady, Bool.and_eq_true, Bool.or_eq_true, beq_iff_eq, bne_iff_ne, and_assoc, ne_eq,
    ← imp_iff_not_or]

theorem State.op_of_serves (h : s.serves = true) : s.nsq.op = .sync ∨ s.nsq.op = .active ∨ s.nsq.op = .withdrawn := by
  rw [State.serves] at h
  cases hop : s.nsq.op <;> simp_all [OpState.serves]

/-- The expiry of the shutdown hold: STANDBY's flush is asked for where its conditions hold and none runs for it. -/
theorem State.testStandby_spec (s : State) :
    (s.standbyReady = true ∧ s.waitsStandby = false → s.testStandby = s.requestFlush [.standby])
    ∧ (¬ (s.standbyReady = true ∧ s.waitsStandby = false) → s.testStandby = s) := by
  unfold State.testStandby
  refine ⟨fun ⟨h1, h2⟩ => ?_, fun hn => ?_⟩
  · rw [h1, h2]; rfl
  · rw [if_neg]
    simpa using hn

/-- Settles O51: the hold follows the arrivals, its expiry asks for the flush, the flush's end tests the conditions again. -/
theorem shutdownLeadsToStandby : Obligations.ShutdownLeadsToStandby := by
  unfold Obligations.ShutdownLeadsToStandby
  intro s p w1 w2 w3 w4 hs hseq
  refine ⟨fun hserves hr hown hnsync => ?_, fun hserves hrun hdue => ?_,
    fun job c hop hparties hpend hc hreset hon hengine => ?_⟩
  · let words := [w1, w2, w3, w4]
    let g := s.goodFrameEnds 0
    have hgw : g.withdraws = s.frameEnds.withdraws := congrArg State.withdraws (State.goodFrameEnds_of_other hown.symm)
    have hop : (g.demandTaken words).nsq.op = s.nsq.op := by rw [State.demandTaken_hold, State.goodFrameEnds_nsq]
    have hexec : exec (.demandArrival 0 words) s = .next (g.takeDemand words).settle :=
      exec_demandArrival_of_serves hr hserves rfl
    rw [State.takeDemand_eq, State.demandEndsSync_of_not (by rw [hop]; exact fun h => hnsync h.1),
      hs.settle_eq hop ((g.demandTaken_withdraws words).trans hgw)] at hexec
    refine ⟨_, hexec, ?_⟩
    have hshut : (demandOfPayload words).shutdown = w4.getLsbD 2 := rfl
    have hpark : (demandOfPayload words).parked = w4.getLsbD 0 := rfl
    rw [State.compareF_nsq, State.demandTaken_nsq, State.goodFrameEnds_nsq, hshut, hpark]
    refine ⟨fun h0 h2 h3 h4 => ?_, fun h0 h2 h3 => ?_, fun h => ?_⟩
    · rw [h0, h2, h3, h4]; rfl
    · have hheld : (s.nsq.hold.running || s.nsq.holdMet) = true := by rcases h3 with h3 | h3 <;> simp [h3]
      rw [h0, h2, hheld]
      rfl
    · have hlack : (w4.getLsbD 2 && w4.getLsbD 0) = false := by
        rcases h with h | h
        · rw [h, Bool.and_false]
        · rw [h, Bool.false_and]
      rw [hlack]
      rfl
  · let w := s.setNsq { s.nsq with hold := s.nsq.hold.halt, holdMet := true }
    have hwseq : w.mpt.ringSeq < seqMax := hseq
    have hexec : exec .shutdownHoldExpiry s = .next w.testStandby.settle := by
      show execShutdownHoldExpiry s = _
      rw [execShutdownHoldExpiry, if_pos (by rw [hserves, Timer.due_of hrun hdue]; rfl)]
    have hk : KeptBut w w.testStandby [.mpt] := State.testStandby_kept hwseq
    have hf := Follows.of_testStandby hwseq
    have hnsq : w.testStandby.nsq = w.nsq := hk .nsq (by decide)
    have hsli : w.testStandby.sli = s.sli := hk .sli (by decide)
    have hstu : w.testStandby.stu = s.stu := hk .stu (by decide)
    obtain ⟨hsettle, -, hkept⟩ := hs.settle_quiet (t := w.testStandby) (by rw [hnsq]; rfl) hstu (by rw [hsli]) hf.copy
    rw [hsettle] at hexec
    have hready : (s.nsq.op ≠ .sync ∧ s.nsq.pendingReset = .none ∧ (s.role = some .genset → s.gsc.engine = .off)
        ∧ s.waitsStandby = false) ↔ w.standbyReady = true ∧ w.waitsStandby = false := by
      have hop := State.op_of_serves hserves
      have hiff : s.nsq.op ≠ .sync ↔ s.nsq.op = .active ∨ s.nsq.op = .withdrawn := by
        rcases hop with h | h | h <;> rw [h] <;> simp
      rw [State.standbyReady_iff, hiff]
      exact ⟨fun ⟨h1, h2, h3, h4⟩ => ⟨⟨rfl, h1, h2, h3⟩, h4⟩, fun ⟨⟨_, h1, h2, h3⟩, h4⟩ => ⟨h1, h2, h3, h4⟩⟩
    obtain ⟨hasks, hrests⟩ := w.testStandby_spec
    obtain ⟨hidle, hbusy⟩ := State.requestFlush_mpt hwseq [.standby]
    refine ⟨_, hexec, by rw [State.compareF_nsq, hnsq]; rfl, ⟨fun hr hn => ?_, fun hr hn => ?_, fun hr => ?_⟩, ?_,
      by rw [State.compareF_set, hstu], by rw [State.compareF_mpt, hf.eeprom]; rfl⟩
    · rw [State.compareF_mpt, hasks (hready.mp hr)]
      obtain ⟨job, h1, h2, -⟩ := hidle hn
      exact ⟨job, h1, h2⟩
    · rw [State.compareF_mpt, hasks (hready.mp hr)]
      obtain ⟨h1, h2⟩ := hbusy hn
      exact ⟨h1, _, h2, by simp⟩
    · rw [State.compareF_mpt, hrests (fun h => hr (hready.mpr h))]
      rfl
    · exact (((KeptBut.refl s _).setNsq (by decide) _).trans (hk.mono (by decide))).trans (hkept.mono (by decide))
  · obtain ⟨u, hexec, hu, hcopy, hwd, hstored, hfault⟩ := flushEnds_standby hop hparties hpend hc
    have hnsq : u.nsq = s.nsq := hu .nsq (by decide)
    have hrole : u.role = s.role := by rw [State.role, State.role, hnsq]
    have hgsc : u.gsc = s.gsc := hu .gsc (by decide)
    have hiff : u.standbyReady = true ↔ s.nsq.holdMet = true := by
      rw [State.standbyReady_iff, hnsq, hrole, hgsc]
      exact ⟨fun h => h.1, fun h => ⟨h, hon, hreset, hengine⟩⟩
    have hstuStored : c = .pageStored p → u.stu = s.stu := fun h => hstored h .stu (by decide)
    cases hmet : s.nsq.holdMet with
    | false =>
      rw [if_neg (by rw [hiff, hmet]; decide), hs.settle_eq (t := u) (by rw [hnsq]) hwd] at hexec
      refine ⟨_, hexec, fun h => by rw [State.compareF_set, hstuStored h], fun h => by rw [State.compareF_status, hfault h],
        fun _ => ⟨by rw [State.compareF_nsq, hnsq], (hu.mono (by decide)).trans (u.compareF_kept.mono (by decide)), fun h => ?_⟩,
        nofun⟩
      have hsli : u.sli = s.sli := hu .sli (by decide)
      obtain ⟨-, -, hkept⟩ := hs.settle_quiet (t := u) (by rw [hnsq]) (hstuStored h) (by rw [hsli]) hcopy
      exact ((hstored h).mono (by decide)).trans (hkept.mono (by decide))
    | true =>
      have hen := u.enterStandby_nsq
      have hsettle : u.enterStandby.settle = u.enterStandby.compareF := by
        refine State.settle_eq_compareF ?_ ?_ <;> rw [hen] <;> nofun
      rw [if_pos (hiff.mpr hmet), hsettle] at hexec
      have hptb : u.ptb = s.ptb := hu .ptb (by decide)
      have hwau : u.wau = s.wau := hu .wau (by decide)
      have hstp : u.stp = s.stp := hu .stp (by decide)
      obtain ⟨hblu, hplu, hgsc'⟩ := u.enterStandby_own
      obtain ⟨hslot0, hslot1, hex, hset, hidle, hbusy⟩ := u.enterStandby_stp
      rw [hstp] at hidle hbusy
      refine ⟨_, hexec, fun h => by rw [State.compareF_set, State.enterStandby_stu, hstuStored h], fun h => ?_, nofun,
        fun _ => ?_⟩
      · rw [State.compareF_status, State.status_of_stu _ u.enterStandby_stu, hfault h]
      · simp only [State.compareF_nsq, State.compareF_pins, State.compareF_ptb, State.compareF_mpt, State.compareF_wau,
          State.compareF_stp, State.compareF_blu, State.compareF_plu, State.compareF_gsc, hblu, hplu, hgsc', hslot0, hslot1]
        rw [hen, State.enterStandby_pins, State.enterStandby_ptb, State.enterStandby_mpt, State.enterStandby_wau, hptb, hwau]
        refine ⟨rfl, rfl, rfl, rfl, rfl, rfl, rfl, rfl, ?_, ?_, rfl, ?_, rfl, rfl, rfl, hex, hset, hidle, hbusy,
          fun hr => ?_, fun hr => ?_, fun hr => ?_⟩
        · intro e he
          obtain ⟨e', -, rfl⟩ := List.mem_map.mp he
          rfl
        · rw [List.map_map]
          rfl
        · have hperiod : u.enterStandby.sli.period.running = false := by rw [State.enterStandby_sli]; rfl
          rcases u.enterStandby.compareF_prompt with e | e <;> rw [e] <;> exact hperiod
        · exact State.roleStandby_of_axle (hrole.trans hr)
        · rw [← hcopy]
          exact State.roleStandby_of_pack (hrole.trans hr) nofun
        · exact State.roleStandby_of_genset (hrole.trans hr)

end
end Sys2Proof.Machine
end

/-! # What the role blocks and the event's end leave of the Stage Port's records (R159 to R164) -/
section
namespace Sys2Proof.Machine

section
variable {c : Instr} {s t u : State}

/-! ### The records and their statuses -/

/-- What a completion's record changes in the Stage Port. -/
def StagePort.records (p : StagePort) :
    Option Partner0 × Option Partner1 × Nat × Nat × Option Int × Nat × OwnReading :=
  (p.held0, p.held1, p.fail0, p.fail1, p.heldSpeed, p.rejections, p.own)

/-- The statuses of the Stage Port's checks. -/
def portStatuses : List Status := [.stageLost, .partnerFault, .plausU, .plausSpeed, .speedFault]

/-- The records, the counts, the own reading and the statuses of the checks are as before. -/
structure SamePort (s t : State) : Prop where
  records : t.stp.records = s.stp.records
  status : ∀ y ∈ portStatuses, t.status y = s.status y

theorem SamePort.refl (s : State) : SamePort s s := ⟨rfl, fun _ _ => rfl⟩

theorem SamePort.trans (h : SamePort s t) (k : SamePort t u) : SamePort s u :=
  ⟨k.records.trans h.records, fun y hy => (k.status y hy).trans (h.status y hy)⟩

theorem SamePort.of_kept {bs : List Block} (h : KeptBut s t bs) (hstp : Block.stp ∉ bs) (hstu : Block.stu ∉ bs) : SamePort s t :=
  ⟨congrArg StagePort.records (h .stp hstp), fun y _ => State.status_of_stu y (h .stu hstu)⟩

theorem SamePort.of_statuses {bs : List Block} (h : KeptBut s t bs) (hstp : Block.stp ∉ bs)
    (hstatus : ∀ y ∈ portStatuses, t.status y = s.status y) : SamePort s t :=
  ⟨congrArg StagePort.records (h .stp hstp), hstatus⟩

theorem SamePort.of_records {bs : List Block} (h : KeptBut s t bs) (hstu : Block.stu ∉ bs)
    (hrecords : t.stp.records = s.stp.records) : SamePort s t :=
  ⟨hrecords, fun y _ => State.status_of_stu y (h .stu hstu)⟩

theorem SamePort.putStatus {x : Status} (hx : x ∉ portStatuses) (b : Bool) : SamePort s (s.putStatus x b) :=
  ⟨rfl, fun _ hy => State.putStatus_status_ne _ _ fun h => hx (h ▸ hy)⟩

theorem SamePort.ite {p : Prop} [Decidable p] (h : SamePort s t) (k : SamePort s u) : SamePort s (if p then t else u) := by
  split
  · exact h
  · exact k

theorem SamePort.reformOwn (s : State) : SamePort s s.reformOwn := .of_kept s.reformOwn_kept (by decide) (by decide)
theorem SamePort.writeSlot0 (s : State) (p : Setpoint) : SamePort s (s.writeSlot0 p) := ⟨rfl, fun _ _ => rfl⟩
theorem SamePort.writeSlot1 (s : State) (p : Setpoint) : SamePort s (s.writeSlot1 p) := ⟨rfl, fun _ _ => rfl⟩
theorem SamePort.setBlu (s : State) (b : BlendUnit) : SamePort s (s.setBlu b) := ⟨rfl, fun _ _ => rfl⟩
theorem SamePort.setPlu (s : State) (b : PackUnit) : SamePort s (s.setPlu b) := ⟨rfl, fun _ _ => rfl⟩
theorem SamePort.setGsc (s : State) (b : Genset) : SamePort s (s.setGsc b) := ⟨rfl, fun _ _ => rfl⟩
theorem SamePort.setWau (s : State) (b : Wear) : SamePort s (s.setWau b) := ⟨rfl, fun _ _ => rfl⟩
theorem SamePort.setNsq (s : State) (b : Sequencer) : SamePort s (s.setNsq b) := ⟨rfl, fun _ _ => rfl⟩
theorem SamePort.setPins (s : State) (b : PinLevels) : SamePort s (s.setPins b) := ⟨rfl, fun _ _ => rfl⟩
theorem SamePort.setMpt (s : State) (b : MemoryPort) : SamePort s (s.setMpt b) := ⟨rfl, fun _ _ => rfl⟩
theorem SamePort.requestPrompt (s : State) : SamePort s s.requestPrompt := ⟨rfl, fun _ _ => rfl⟩

theorem SamePort.compareF (s : State) : SamePort s s.compareF :=
  .of_statuses s.compareF_kept (by decide) fun y _ => s.compareF_status y

theorem SamePort.putItem (s : State) (i : Nat) (x : WearItem) : SamePort s (s.putItem i x) :=
  .of_statuses (s.putItem_kept i x) (by decide) fun y hy =>
    s.putItem_status i x (by rintro rfl; revert hy; decide) (by rintro rfl; revert hy; decide)

theorem SamePort.addUnits (s : State) (i n : Nat) : SamePort s (s.addUnits i n) := .putItem s i _
theorem SamePort.gather (s : State) (i unit inc : Nat) : SamePort s (s.gather i unit inc) := .putItem s i _

/-! ### Flushes and STANDBY entry -/

theorem SamePort.portStandby (s : State) : SamePort s s.portStandby := by
  unfold State.portStandby
  dsimp only
  split <;> exact ⟨rfl, fun _ _ => rfl⟩

theorem SamePort.enterStandby (s : State) : SamePort s s.enterStandby := by
  refine .of_records s.enterStandby_kept (by decide) ?_
  obtain ⟨y, hy, hport⟩ := s.enterStandby_port
  rw [hport, (SamePort.portStandby y).records, hy, State.lowered_stp]
  rfl

/-- A flush that STANDBY entry waits on may fail at once at the sequence limit, with MEM_FAULT and STANDBY entry itself. -/
theorem SamePort.testStandby (s : State) : SamePort s s.testStandby := by
  have hfail : ∀ x : State, SamePort x (x.concludeFlush false [.standby]) := fun x =>
    ((SamePort.setMpt x _).trans (.putStatus (by decide) true)).trans (.ite (.enterStandby _) (.refl _))
  rcases s.testStandby_cases with e | e <;> rw [e]
  · by_cases ho : s.mpt.op = .none
    · rw [State.requestFlush_idle ho]
      by_cases hseq : s.mpt.ringSeq < seqMax
      · rw [State.launchFlush_eq hseq]
        exact .setMpt _ _
      · rw [State.launchFlush_full (by omega)]
        exact hfail s
    · rw [State.requestFlush_busy ho]
      exact .setMpt _ _
  · exact .refl _

/-! ### The engine and the operating state -/

theorem SamePort.enterEngine (s : State) (e : EngineState) : SamePort s (s.enterEngine e) :=
  ((SamePort.setGsc s _).trans (.writeSlot1 _ _)).trans (.reformOwn _)

theorem SamePort.engineOff (s : State) (n : Nat) : SamePort s (s.engineOff n) :=
  ((SamePort.setGsc s _).trans (.enterEngine _ _)).trans (.testStandby _)

theorem SamePort.engineCooldown (s : State) : SamePort s s.engineCooldown := (SamePort.setGsc s _).trans (.enterEngine _ _)
theorem SamePort.engineRunning (s : State) : SamePort s s.engineRunning := (SamePort.setGsc s _).trans (.enterEngine _ _)
theorem SamePort.engineWarming (s : State) : SamePort s s.engineWarming := (SamePort.setGsc s _).trans (.enterEngine _ _)

theorem SamePort.engineWithdrawn (s : State) : SamePort s s.engineWithdrawn := by
  unfold State.engineWithdrawn
  split
  · exact .engineCooldown s
  · exact .engineCooldown s
  · exact .engineOff s 20
  all_goals exact .refl s

theorem SamePort.enterServing (s : State) (op : OpState) : SamePort s (s.enterServing op) := by
  have h : SamePort s (s.takeOp op).requestPrompt :=
    (((SamePort.setNsq s _).trans (.setPins _ _)).trans (.reformOwn _)).trans (.requestPrompt _)
  rw [State.enterServing_eq]
  exact h.trans (.ite (.engineWithdrawn _) (.refl _))

theorem SamePort.settle (s : State) : SamePort s s.settle := by
  have hop : SamePort s s.decideOp := by
    rcases s.decideOp_cases with e | ⟨-, -, e⟩ | ⟨-, -, e⟩ <;> rw [e]
    · exact .refl _
    · exact .enterServing _ _
    · exact .enterServing _ _
  exact hop.trans (.compareF _)

/-! ### The role blocks at a completion -/

theorem SamePort.formShares (s : State) : SamePort s s.formShares := (SamePort.setBlu s _).trans (.putStatus (by decide) _)

theorem SamePort.axleCompletes0 (s : State) : SamePort s s.axleCompletes0 := by
  have hregen : ∀ x : State, SamePort x x.gatherRegen := fun x => by
    unfold State.gatherRegen
    split
    · exact .gather x _ _ _
    · exact .refl x
  have hdroop : SamePort s s.formDroop := (SamePort.setBlu s _).trans (.putStatus (by decide) _)
  exact ((((hdroop.trans (.reformOwn _)).trans (.putStatus (by decide) _)).trans (.formShares _)).trans
    ((SamePort.setBlu _ _).trans (.writeSlot0 _ _))).trans (hregen _)

theorem SamePort.evaluateSlip (s : State) : SamePort s s.evaluateSlip := by
  unfold State.evaluateSlip
  split
  · exact .ite ((SamePort.setBlu s _).trans ((SamePort.addUnits _ 3 1).trans (.requestPrompt _))) (.setBlu s _)
  · exact .refl s

theorem SamePort.gatherPads (s : State) : SamePort s s.gatherPads := by
  unfold State.gatherPads
  split
  · have h : ∀ n w, SamePort s ((s.gather 1 1000000 n).setWau w) := fun n w =>
      (SamePort.gather s 1 1000000 n).trans (.setWau _ w)
    exact .ite ((h _ _).trans (.addUnits _ 4 1)) (h _ _)
  · exact .refl s

theorem SamePort.axleCompletes1 (s : State) : SamePort s s.axleCompletes1 :=
  ((((SamePort.evaluateSlip s).trans (.reformOwn _)).trans (.formShares _)).trans
    ((SamePort.setBlu _ _).trans (.writeSlot1 _ _))).trans (.gatherPads _)

theorem SamePort.packCompletes0 (s : State) : SamePort s s.packCompletes0 :=
  (((SamePort.reformOwn s).trans (.putStatus (by decide) _)).trans (.setPlu _ _)).trans (.writeSlot0 _ _)

theorem SamePort.gatherPack (s : State) : SamePort s s.gatherPack := by
  unfold State.gatherPack
  split
  · have h : ∀ n w, SamePort s ((s.gather 1 36000000 n).setWau w) := fun n w =>
      (SamePort.gather s 1 36000000 n).trans (.setWau _ w)
    exact .ite ((h _ _).trans (.addUnits _ 3 1)) (h _ _)
  · exact .refl s

theorem SamePort.packCompletes1 (s : State) : SamePort s s.packCompletes1 :=
  (((SamePort.gatherPack s).trans (.setPlu _ _)).trans (.reformOwn _)).trans (.putStatus (by decide) _)

theorem SamePort.gensetCompletes0 (s : State) : SamePort s s.gensetCompletes0 :=
  ((SamePort.reformOwn s).trans (.putStatus (by decide) _)).trans (.writeSlot0 _ _)

theorem SamePort.adopt (s : State) (coolant : Int) : SamePort s (s.adopt coolant) := by
  have h : ∀ x : State, SamePort x (if coolant < 50 then (x.setGsc { x.gsc with warm := Timer.started }).enterEngine .warming
      else x.enterEngine .running) := fun x => .ite ((SamePort.setGsc x _).trans (.enterEngine _ _)) (.enterEngine _ _)
  have hstart := (SamePort.setGsc s { s.gsc with off := s.gsc.off.halt, runMet := true }).trans (h _)
  exact hstart.trans (.ite (.engineCooldown _) (.refl _))

theorem SamePort.engineStalls (s : State) : SamePort s s.engineStalls :=
  ((SamePort.setGsc s _).trans (.putStatus (by decide) _)).trans (.engineOff _ _)

theorem SamePort.testEngine (s : State) (report : EngineReport) (coolant : Int) : SamePort s (s.testEngine report coolant) := by
  unfold State.testEngine
  split
  · exact .ite (.engineWarming s) (.refl s)
  · exact .ite (.ite (.engineRunning s) (.refl s)) (.engineStalls s)
  · exact .ite (.refl s) (.engineStalls s)
  · exact .ite (.refl s) (.engineOff s 20)
  all_goals exact .refl s

theorem SamePort.gensetCompletes1 (s : State) (good : Bool) : SamePort s (s.gensetCompletes1 good) := by
  have hshut : SamePort s (if s.given.shutdown then s.engineWithdrawn else s) := .ite (.engineWithdrawn s) (.refl s)
  unfold State.gensetCompletes1
  dsimp only
  split
  · refine (hshut.trans (.ite ?_ (.testEngine _ _ _))).trans (.writeSlot1 _ _)
    exact (SamePort.setGsc _ _).trans (.ite (.adopt _ _) (.refl _))
  · exact hshut

theorem SamePort.roleCompletes0 (s : State) (role : Role) : SamePort s (s.roleCompletes0 role) := by
  cases role
  · exact .axleCompletes0 s
  · exact .packCompletes0 s
  · exact .gensetCompletes0 s

theorem SamePort.roleCompletes1 (s : State) (role : Role) (good : Bool) : SamePort s (s.roleCompletes1 role good) := by
  cases role
  · exact .axleCompletes1 s
  · exact .packCompletes1 s
  · exact .gensetCompletes1 s good

end
end Sys2Proof.Machine
end

/-! # Records judged (R159 to R164) -/
section
namespace Sys2Proof.Machine

section
variable {c : Instr} {s t u : State}

theorem SamePort.held0 (h : SamePort s t) : t.stp.held0 = s.stp.held0 := congrArg (·.1) h.records
theorem SamePort.held1 (h : SamePort s t) : t.stp.held1 = s.stp.held1 := congrArg (·.2.1) h.records
theorem SamePort.fail0 (h : SamePort s t) : t.stp.fail0 = s.stp.fail0 := congrArg (·.2.2.1) h.records
theorem SamePort.fail1 (h : SamePort s t) : t.stp.fail1 = s.stp.fail1 := congrArg (·.2.2.2.1) h.records
theorem SamePort.heldSpeed (h : SamePort s t) : t.stp.heldSpeed = s.stp.heldSpeed := congrArg (·.2.2.2.2.1) h.records
theorem SamePort.rejections (h : SamePort s t) : t.stp.rejections = s.stp.rejections := congrArg (·.2.2.2.2.2.1) h.records
theorem SamePort.own (h : SamePort s t) : t.stp.own = s.stp.own := congrArg (·.2.2.2.2.2.2) h.records

/-! ### An exchange completed (R157) -/

theorem exec_completion0 {role : Role} {out : List Byte} {sample : OwnReading} (record : List Byte) (hserves : s.serves = true)
    (hr : s.role = some role) (hin : s.stp.inFlight = some ⟨.p0, out, sample⟩) :
    exec (.exchangeCompletion record) s = .next (((s.setStp { s.stp with inFlight := none }).judge0 role sample
      record).roleCompletes0 role).settle := by
  show execExchangeCompletion record s = _
  simp only [execExchangeCompletion, hin, hr, hserves, if_true]
  rfl

theorem exec_completion1 {role : Role} {out : List Byte} {sample : OwnReading} (record : List Byte) (hserves : s.serves = true)
    (hr : s.role = some role) (hin : s.stp.inFlight = some ⟨.p1, out, sample⟩) :
    exec (.exchangeCompletion record) s = .next (((s.setStp { s.stp with inFlight := none }).judge1 role
      record).roleCompletes1 role (!recordFails (s.stp.held1.map Partner1.nibble) record)).settle := by
  show execExchangeCompletion record s = _
  simp only [execExchangeCompletion, hin, hr, hserves, if_true]
  rfl

/-- What a completion leaves of a judged record's outcome. -/
theorem SamePort.completion0 (s : State) (role : Role) : SamePort s (s.roleCompletes0 role).settle :=
  (SamePort.roleCompletes0 s role).trans (.settle _)

theorem SamePort.completion1 (s : State) (role : Role) (good : Bool) : SamePort s (s.roleCompletes1 role good).settle :=
  (SamePort.roleCompletes1 s role good).trans (.settle _)

/-! ### A failed record (R159, R161) -/

theorem recordFails_iff {held : Option (BitVec 4)} {record : List Byte} : recordFails held record = true
    ↔ xorBytes record ≠ 0 ∨ (byteAt record 0).getLsbD 0 = false ∨ held = some (nibbleOf record) := by
  simp only [recordFails, Bool.or_eq_true, bne_iff_ne, Bool.not_eq_true', beq_iff_eq, or_assoc, ne_eq]

/-- Whether a failed record is the fifth in a row. -/
def fifthFailure (settling : Bool) (n : Nat) : Bool := n == 4 && !settling

theorem countFailed_five (settling : Bool) (n : Nat) :
    (n = 4 ∧ countFailed settling n = 5) ↔ fifthFailure settling n = true := by
  cases settling <;> simp [countFailed, fifthFailure] <;> omega

theorem State.recordFailed_p0 (s : State) :
    (s.recordFailed .p0).stp = { s.stp with fail0 := countFailed s.stp.settle.isRunning s.stp.fail0 }
    ∧ (s.recordFailed .p0).status .stageLost
      = (s.status .stageLost || fifthFailure s.stp.settle.isRunning s.stp.fail0)
    ∧ ∀ y, y ≠ .stageLost → (s.recordFailed .p0).status y = s.status y := by
  unfold State.recordFailed
  dsimp only
  split
  · next h =>
    rw [(countFailed_five _ _).mp h, Bool.or_true]
    exact ⟨rfl, State.putStatus_status_self _ _ _, fun y hy => State.putStatus_status_ne _ _ hy⟩
  · next h =>
    rw [Bool.eq_false_iff.mpr fun h' => h ((countFailed_five _ _).mpr h'), Bool.or_false]
    exact ⟨rfl, rfl, fun y _ => rfl⟩

theorem State.recordFailed_p1 (s : State) :
    (s.recordFailed .p1).stp = { s.stp with fail1 := countFailed s.stp.settle.isRunning s.stp.fail1 }
    ∧ (s.recordFailed .p1).status .stageLost
      = (s.status .stageLost || fifthFailure s.stp.settle.isRunning s.stp.fail1)
    ∧ ∀ y, y ≠ .stageLost → (s.recordFailed .p1).status y = s.status y := by
  unfold State.recordFailed
  dsimp only
  split
  · next h =>
    rw [(countFailed_five _ _).mp h, Bool.or_true]
    exact ⟨rfl, State.putStatus_status_self _ _ _, fun y hy => State.putStatus_status_ne _ _ hy⟩
  · next h =>
    rw [Bool.eq_false_iff.mpr fun h' => h ((countFailed_five _ _).mpr h'), Bool.or_false]
    exact ⟨rfl, rfl, fun y _ => rfl⟩

/-- The failure count and STAGE_LOST of a failed record, by the settle timer (R161). -/
theorem failure_counts {settle : OneShot} {n n' : Nat} {lost lost' : Bool} (hn : n' = countFailed settle.isRunning n)
    (hl : lost' = (lost || fifthFailure settle.isRunning n)) :
    (∀ e, settle = .running e → n' = n ∧ lost' = lost)
    ∧ ((∀ e, settle ≠ .running e) → n' = min (n + 1) 255 ∧ (n = 4 → lost' = true) ∧ (n ≠ 4 → lost' = lost)) := by
  subst hn hl
  refine ⟨fun e he => ?_, fun hnot => ?_⟩
  · subst he
    exact ⟨rfl, by simp [fifthFailure, OneShot.isRunning]⟩
  · have hstop : settle.isRunning = false := by
      cases settle with
      | running e => exact absurd rfl (hnot e)
      | stopped => rfl
      | expired => rfl
    rw [hstop]
    refine ⟨rfl, ?_, fun hn => ?_⟩
    · rintro rfl
      simp [fifthFailure]
    · simp [fifthFailure, hn]

/-- A failed partner 0 record: what it leaves of the Stage Port and its statuses. -/
theorem State.judge0_of_fails {role : Role} {sample : OwnReading} {record : List Byte} (hr : FaultLaw s)
    (hfails : recordFails (s.stp.held0.map Partner0.nibble) record = true) :
    (s.judge0 role sample record).stp
      = { s.stp with own := sample, fail0 := countFailed s.stp.settle.isRunning s.stp.fail0 }
    ∧ (s.judge0 role sample record).status .stageLost
      = (s.status .stageLost || fifthFailure s.stp.settle.isRunning s.stp.fail0)
    ∧ ∀ y, y ≠ .stageLost → (s.judge0 role sample record).status y = s.status y := by
  let x := s.setStp { s.stp with own := sample }
  obtain ⟨hstp, hlost, hstatus⟩ := x.recordFailed_p0
  have hrole : (x.recordFailed .p0).role = s.role := by
    rw [State.role, State.role, (x.recordFailed_kept .p0) .nsq (by decide)]
    rfl
  have hjudge : s.judge0 role sample record = (x.recordFailed .p0).putStatus .partnerFault
      (partnerFaultHolds s.role s.stp.held0 s.stp.held1) := by
    unfold State.judge0
    dsimp only
    rw [State.setStp_stp, if_pos hfails]
    show (x.recordFailed .p0).putStatus .partnerFault _ = _
    rw [hrole, hstp]
    rfl
  rw [hjudge]
  refine ⟨hstp, ?_, fun y hy => ?_⟩
  · rw [State.putStatus_status_ne _ _ (by decide)]
    exact hlost
  · by_cases hp : y = .partnerFault
    · subst hp
      rw [State.putStatus_status_self]
      exact hr.symm
    · rw [State.putStatus_status_ne _ _ hp]
      exact hstatus y hy

theorem State.judge1_of_fails {role : Role} {record : List Byte} (hr : FaultLaw s)
    (hfails : recordFails (s.stp.held1.map Partner1.nibble) record = true) :
    (s.judge1 role record).stp = { s.stp with fail1 := countFailed s.stp.settle.isRunning s.stp.fail1 }
    ∧ (s.judge1 role record).status .stageLost
      = (s.status .stageLost || fifthFailure s.stp.settle.isRunning s.stp.fail1)
    ∧ ∀ y, y ≠ .stageLost → (s.judge1 role record).status y = s.status y := by
  obtain ⟨hstp, hlost, hstatus⟩ := s.recordFailed_p1
  have hrole : (s.recordFailed .p1).role = s.role := by
    rw [State.role, State.role, (s.recordFailed_kept .p1) .nsq (by decide)]
  have hjudge : s.judge1 role record = (s.recordFailed .p1).putStatus .partnerFault
      (partnerFaultHolds s.role s.stp.held0 s.stp.held1) := by
    unfold State.judge1
    dsimp only
    rw [if_pos hfails, hrole, hstp]
  rw [hjudge]
  refine ⟨hstp, ?_, fun y hy => ?_⟩
  · rw [State.putStatus_status_ne _ _ (by decide)]
    exact hlost
  · by_cases hp : y = .partnerFault
    · subst hp
      rw [State.putStatus_status_self]
      exact hr.symm
    · rw [State.putStatus_status_ne _ _ hp]
      exact hstatus y hy

/-- Settles O34: the role blocks and the event's end leave what the judging made of the record. -/
theorem failedRecordsAreDiscarded : Obligations.FailedRecordsAreDiscarded := by
  unfold Obligations.FailedRecordsAreDiscarded
  intro s p out record sample role hfault hserves hr hin hfails
  let x := s.setStp { s.stp with inFlight := none }
  have hx : FaultLaw x := hfault
  cases p with
  | p0 =>
    have hexec := exec_completion0 record hserves hr hin
    obtain ⟨hstp, hlost, hstatus⟩ := State.judge0_of_fails (s := x) (role := role) (sample := sample) (record := record) hx
      (recordFails_iff.mpr (by
        rcases hfails with h | h | ⟨-, h, hh, hn⟩ | ⟨hp, -⟩
        · exact .inl h
        · exact .inr (.inl h)
        · exact .inr (.inr (by rw [show x.stp.held0 = some h from hh, nibbleOf, ← hn]; rfl))
        · cases hp))
    have hsame := SamePort.completion0 (x.judge0 role sample record) role
    obtain ⟨hrunning, hstopped⟩ := failure_counts (settle := s.stp.settle)
      (show _ = countFailed s.stp.settle.isRunning s.stp.fail0 from hsame.fail0.trans (by rw [hstp]; rfl))
      (show _ = (s.status .stageLost || fifthFailure s.stp.settle.isRunning s.stp.fail0) from
        (hsame.status .stageLost (by decide)).trans hlost)
    refine ⟨_, hexec, hsame.held0.trans (by rw [hstp]; rfl), hsame.held1.trans (by rw [hstp]; rfl), hsame.heldSpeed.trans (by rw [hstp]; rfl),
      hsame.rejections.trans (by rw [hstp]; rfl), fun y hy => ?_, fun _ => ⟨hsame.fail1.trans (by rw [hstp]; rfl),
      hsame.own.trans (by rw [hstp]), hrunning, hstopped⟩, nofun⟩
    exact (hsame.status y (List.mem_cons_of_mem _ hy)).trans (hstatus y (by rintro rfl; revert hy; decide))
  | p1 =>
    have hexec := exec_completion1 record hserves hr hin
    obtain ⟨hstp, hlost, hstatus⟩ := State.judge1_of_fails (s := x) (role := role) (record := record) hx
      (recordFails_iff.mpr (by
        rcases hfails with h | h | ⟨hp, -⟩ | ⟨-, h, hh, hn⟩
        · exact .inl h
        · exact .inr (.inl h)
        · cases hp
        · exact .inr (.inr (by rw [show x.stp.held1 = some h from hh, nibbleOf, ← hn]; rfl))))
    have hsame := SamePort.completion1 (x.judge1 role record) role (!recordFails (s.stp.held1.map Partner1.nibble) record)
    obtain ⟨hrunning, hstopped⟩ := failure_counts (settle := s.stp.settle)
      (show _ = countFailed s.stp.settle.isRunning s.stp.fail1 from hsame.fail1.trans (by rw [hstp]; rfl))
      (show _ = (s.status .stageLost || fifthFailure s.stp.settle.isRunning s.stp.fail1) from
        (hsame.status .stageLost (by decide)).trans hlost)
    refine ⟨_, hexec, hsame.held0.trans (by rw [hstp]; rfl), hsame.held1.trans (by rw [hstp]; rfl), hsame.heldSpeed.trans (by rw [hstp]; rfl),
      hsame.rejections.trans (by rw [hstp]; rfl), fun y hy => ?_, nofun, fun _ => ⟨hsame.fail0.trans (by rw [hstp]; rfl),
      hsame.own.trans (by rw [hstp]; rfl), hrunning, hstopped⟩⟩
    exact (hsame.status y (List.mem_cons_of_mem _ hy)).trans (hstatus y (by rintro rfl; revert hy; decide))

end
end Sys2Proof.Machine
end

/-! # Good records (R160, R162 to R164) -/
section
namespace Sys2Proof.Machine

section
variable {c : Instr} {s t u : State}

/-! ### The speed test by role (R164) -/

/-- The speed that a role holds of a record: the PACK role makes no test. -/
def heldTest (role : Role) (held : Option Int) (rejections : Nat) (n : Int) : SpeedTest :=
  if role = .pack then ⟨n, rejections, false, false⟩ else speedTest held rejections n

theorem State.holdPartner0_stp (s : State) (role : Role) (r : Partner0) : (s.holdPartner0 role r).stp = { s.stp with
    held0 := some { r with n := (heldTest role s.stp.heldSpeed s.stp.rejections r.n).n }
    fail0 := 0
    heldSpeed := if role = .pack then s.stp.heldSpeed else some (heldTest role s.stp.heldSpeed s.stp.rejections r.n).n
    rejections := (heldTest role s.stp.heldSpeed s.stp.rejections r.n).rejections } := by
  cases role with
  | pack => rfl
  | axle => unfold State.holdPartner0; dsimp only; split <;> split <;> rfl
  | genset => unfold State.holdPartner0; dsimp only; split <;> split <;> rfl

/-- Two statuses put where their tests hold. -/
theorem putStatus_twice (s : State) (a b : Bool) :
    let t := if a then s.putStatus .plausSpeed true else s
    let u := if b then t.putStatus .speedFault true else t
    u.status .plausSpeed = (s.status .plausSpeed || a) ∧ u.status .speedFault = (s.status .speedFault || b)
      ∧ ∀ y, y ≠ .plausSpeed → y ≠ .speedFault → u.status y = s.status y := by
  intro t u
  have ht : t.status .plausSpeed = (s.status .plausSpeed || a) ∧ ∀ y, y ≠ .plausSpeed → t.status y = s.status y := by
    cases a with
    | false => exact ⟨(Bool.or_false _).symm, fun _ _ => rfl⟩
    | true => exact ⟨(State.putStatus_status_self _ _ _).trans (Bool.or_true _).symm, fun y hy => State.putStatus_status_ne _ _ hy⟩
  cases b with
  | false => exact ⟨ht.1, (ht.2 _ (by decide)).trans (Bool.or_false _).symm, fun y h _ => ht.2 y h⟩
  | true =>
    exact ⟨(State.putStatus_status_ne _ _ (by decide)).trans ht.1,
      (State.putStatus_status_self _ _ _).trans (Bool.or_true _).symm,
      fun y h1 h2 => (State.putStatus_status_ne _ _ h2).trans (ht.2 y h1)⟩

theorem State.holdPartner0_status (s : State) (role : Role) (r : Partner0) :
    (s.holdPartner0 role r).status .plausSpeed
      = (s.status .plausSpeed || (heldTest role s.stp.heldSpeed s.stp.rejections r.n).plausSpeed)
    ∧ (s.holdPartner0 role r).status .speedFault
      = (s.status .speedFault || (heldTest role s.stp.heldSpeed s.stp.rejections r.n).speedFault)
    ∧ ∀ y, y ≠ .plausSpeed → y ≠ .speedFault → (s.holdPartner0 role r).status y = s.status y := by
  cases role with
  | pack => exact ⟨(Bool.or_false _).symm, (Bool.or_false _).symm, fun _ _ _ => rfl⟩
  | axle => exact putStatus_twice (s.setStp _) _ _
  | genset => exact putStatus_twice (s.setStp _) _ _

/-! ### A good partner 0 record (R160 to R163) -/

/-- The record held of a good one. -/
def heldRecord (s : State) (role : Role) (record : List Byte) : Partner0 :=
  { partner0OfRecord record with
    n := (heldTest role s.stp.heldSpeed s.stp.rejections (partner0OfRecord record).n).n }

theorem recordFails_eq_false {held : Option (BitVec 4)} {record : List Byte} (hx : xorBytes record = 0)
    (hready : (byteAt record 0).getLsbD 0 = true) (hn : held ≠ some (nibbleOf record)) : recordFails held record = false := by
  rw [Bool.eq_false_iff, Ne, recordFails_iff]
  rintro (h | h | h)
  · exact h hx
  · rw [hready] at h; cases h
  · exact hn h

theorem State.judge0_of_good {role : Role} {sample : OwnReading} {record : List Byte}
    (hgood : recordFails (s.stp.held0.map Partner0.nibble) record = false) :
    (s.judge0 role sample record).stp = { s.stp with
      own := sample, held0 := some (heldRecord s role record), fail0 := 0
      heldSpeed := if role = .pack then s.stp.heldSpeed else some (heldRecord s role record).n
      rejections := (heldTest role s.stp.heldSpeed s.stp.rejections (partner0OfRecord record).n).rejections }
    ∧ (s.judge0 role sample record).status .partnerFault
      = partnerFaultHolds s.role (some (heldRecord s role record)) s.stp.held1
    ∧ (s.judge0 role sample record).status .plausU
      = (s.status .plausU || plausUFails sample (partner0OfRecord record).uLink)
    ∧ (s.judge0 role sample record).status .plausSpeed
      = (s.status .plausSpeed || (heldTest role s.stp.heldSpeed s.stp.rejections (partner0OfRecord record).n).plausSpeed)
    ∧ (s.judge0 role sample record).status .speedFault
      = (s.status .speedFault || (heldTest role s.stp.heldSpeed s.stp.rejections (partner0OfRecord record).n).speedFault) := by
  let x := s.setStp { s.stp with own := sample }
  let h := x.holdPartner0 role (partner0OfRecord record)
  let v := if plausUFails sample (partner0OfRecord record).uLink then h.putStatus .plausU true else h
  have hstp : h.stp = _ := x.holdPartner0_stp role (partner0OfRecord record)
  obtain ⟨hspeed, hfault, hother⟩ := x.holdPartner0_status role (partner0OfRecord record)
  have hvstp : v.stp = h.stp := by
    show (ite _ _ _ : State).stp = _
    split <;> rfl
  have hvu : v.status .plausU = (h.status .plausU || plausUFails sample (partner0OfRecord record).uLink) := by
    show (ite _ _ _ : State).status _ = _
    split
    · next hu => rw [hu, State.putStatus_status_self, Bool.or_true]
    · next hu => rw [Bool.eq_false_iff.mpr hu, Bool.or_false]
  have hvo : ∀ y, y ≠ .plausU → v.status y = h.status y := fun y hy => by
    show (ite _ _ _ : State).status _ = _
    split
    · exact State.putStatus_status_ne _ _ hy
    · rfl
  have hvrole : v.role = s.role := by
    have hn : v.nsq = s.nsq := by
      show (ite _ _ _ : State).nsq = _
      split <;> exact (x.holdPartner0_kept role _) .nsq (by decide)
    rw [State.role, State.role, hn]
  have hjudge : s.judge0 role sample record = v.putStatus .partnerFault (partnerFaultHolds v.role v.stp.held0 v.stp.held1) := by
    unfold State.judge0
    dsimp only
    rw [State.setStp_stp, if_neg (by rw [hgood]; decide)]
  rw [hjudge]
  refine ⟨hvstp.trans hstp, ?_, ?_, ?_, ?_⟩
  · rw [State.putStatus_status_self, hvrole, hvstp, hstp]
    rfl
  · rw [State.putStatus_status_ne _ _ (by decide), hvu]
    exact congrArg (· || _) (hother .plausU (by decide) (by decide))
  · rw [State.putStatus_status_ne _ _ (by decide), hvo _ (by decide)]
    exact hspeed
  · rw [State.putStatus_status_ne _ _ (by decide), hvo _ (by decide)]
    exact hfault

/-! ### A good partner 1 record (R160, R162) -/

theorem partnerFaultHolds_iff {role : Option Role} {h0 : Option Partner0} {h1 : Option Partner1} :
    partnerFaultHolds role h0 h1 = true ↔ (∃ h, h0 = some h ∧ h.fault = true)
      ∨ role = some .pack ∧ ∃ nib u soc tp ic id ip, h1 = some ⟨nib, .monitor u soc tp ic id ip true⟩ := by
  unfold partnerFaultHolds
  rw [Bool.or_eq_true]
  refine or_congr ?_ ?_
  · cases h0 <;> simp
  · split
    · next nib u soc tp ic id ip fault =>
      refine ⟨fun h => ⟨rfl, nib, u, soc, tp, ic, id, ip, by rw [h]⟩, ?_⟩
      rintro ⟨-, _, _, _, _, _, _, _, h⟩
      cases h
      rfl
    · next hnot =>
      refine ⟨nofun, ?_⟩
      rintro ⟨rfl, nib, u, soc, tp, ic, id, ip, rfl⟩
      exact absurd rfl (hnot _ _ _ _ _ _ _ _ rfl)

theorem partnerFaultHolds_of_ne_pack {role : Role} (h : role ≠ .pack) (h0 : Partner0) (h1 : Option Partner1) :
    partnerFaultHolds (some role) (some h0) h1 = h0.fault := by
  cases role with
  | pack => exact absurd rfl h
  | axle => exact Bool.or_false _
  | genset => exact Bool.or_false _

theorem State.judge1_of_good {role : Role} {record : List Byte}
    (hgood : recordFails (s.stp.held1.map Partner1.nibble) record = false) :
    s.judge1 role record = (s.setStp { s.stp with held1 := some (partner1OfRecord role record), fail1 := 0 }).putStatus
      .partnerFault (partnerFaultHolds s.role s.stp.held0 (some (partner1OfRecord role record))) := by
  unfold State.judge1
  dsimp only
  rw [if_neg (by rw [hgood]; decide)]
  rfl

theorem byte_bne (b : Byte) : (b != 0) = decide (b ≠ 0) :=
  Bool.eq_iff_iff.mpr (bne_iff_ne.trans decide_eq_true_iff.symm)

theorem temperature_eq (b : Byte) : temperature b = max (-40) (min b.toInt 150) := clampInt_eq (by decide) _

theorem engineReport_cases (b : Byte) : (b = 1 → engineReportOfCode b.toNat = .cranking)
    ∧ (b = 2 → engineReportOfCode b.toNat = .running) ∧ (b ≠ 1 → b ≠ 2 → engineReportOfCode b.toNat = .stopped) := by
  refine ⟨by rintro rfl; rfl, by rintro rfl; rfl, fun h1 h2 => ?_⟩
  unfold engineReportOfCode
  split
  · next h => exact absurd (BitVec.eq_of_toNat_eq h) h1
  · next h => exact absurd (BitVec.eq_of_toNat_eq h) h2
  · rfl

theorem partner0OfRecord_eq (record : List Byte) : partner0OfRecord record = {
    nibble := (byteAt record 0).extractLsb' 4 4
    uLink := min (pairAt record 1).toNat 1000
    n := max (-12000) (min (pairAt record 5).toInt 12000)
    pAct := max (-1000) (min (pairAt record 7).toInt 1000)
    ts := max (-40) (min (byteAt record 9).toInt 150)
    fault := byteAt record 10 != 0 } := by
  rw [partner0OfRecord, clampNat_eq, clampInt_eq (by decide), clampInt_eq (by decide), temperature_eq]
  rfl

/-! ### The speed and voltage tests (R163, R164) -/

theorem speedTest_close {held : Option Int} {k : Nat} {n : Int} (h : held = none ∨ ∃ v, held = some v ∧ (n - v).natAbs ≤ 150) :
    speedTest held k n = ⟨n, 0, false, false⟩ := by
  rcases h with rfl | ⟨v, rfl, hv⟩
  · rfl
  · exact if_pos hv

theorem speedTest_far {k : Nat} {n v : Int} (hv : 150 < (n - v).natAbs) :
    speedTest (some v) k n = if k < 4 then ⟨v, k + 1, true, false⟩ else ⟨n, 0, true, true⟩ :=
  if_neg (by omega)

theorem plausUFails_far {sample : OwnReading} {u uLink : Nat} (hs : sample = .volts u)
    (h : u + 25 < uLink ∨ uLink + 25 < u) : plausUFails sample uLink = true := by
  subst hs
  exact decide_eq_true (by omega)

theorem plausUFails_close {sample : OwnReading} {uLink : Nat}
    (h : ∀ u, sample = .volts u → u ≤ uLink + 25 ∧ uLink ≤ u + 25) : plausUFails sample uLink = false := by
  cases sample with
  | none => rfl
  | outOfRange => rfl
  | volts u =>
    have hu := h u rfl
    exact decide_eq_false (by omega)

/-- Settles O35: the role blocks and the event's end leave what the judging made of the record. -/
theorem goodPartner0RecordsAreHeld : Obligations.GoodPartner0RecordsAreHeld := by
  unfold Obligations.GoodPartner0RecordsAreHeld
  intro s out record sample role hserves hr hxor hready
  let x := s.setStp { s.stp with inFlight := none }
  refine ⟨fun hin hnib => ?_, fun hin hnib => ?_⟩
  · obtain ⟨hstp, hfault, hplausU, hspeed, hsfault⟩ := State.judge0_of_good (s := x) (role := role) (sample := sample)
      (record := record) (recordFails_eq_false hxor hready fun h => by
        obtain ⟨p, hp, hn⟩ := Option.map_eq_some_iff.mp h
        exact hnib p hp hn)
    let y := x.judge0 role sample record
    have hsame := SamePort.completion0 y role
    intro received
    have hrec : heldRecord x role record = { partner0OfRecord record with
        n := (heldTest role s.stp.heldSpeed s.stp.rejections received).n } := by
      rw [heldRecord, partner0OfRecord_eq]
      rfl
    have hn : (partner0OfRecord record).n = received := by rw [partner0OfRecord_eq]
    rw [hrec] at hstp hfault
    rw [hn] at hstp hspeed hsfault
    rw [partner0OfRecord_eq] at hstp hfault hplausU
    have hst : ∀ z ∈ portStatuses, (y.roleCompletes0 role).settle.status z = y.status z := hsame.status
    refine ⟨_, _, exec_completion0 record hserves hr hin, hsame.held0.trans (by rw [hstp]), hsame.held1.trans (by rw [hstp]; rfl),
      hsame.fail0.trans (by rw [hstp]), hsame.fail1.trans (by rw [hstp]; rfl), hsame.own.trans (by rw [hstp]), rfl, rfl, rfl, rfl, ?_,
      fun hrole => ?_, fun hrole => ?_, fun u hu hfar => ?_, fun hclose => ?_, fun hrole => ?_, fun hrole => ?_⟩
    · exact bne_iff_ne
    · rw [hst _ (by decide), hfault, show x.role = some role from hr]
      exact partnerFaultHolds_of_ne_pack hrole _ _
    · rw [hst _ (by decide), hfault, partnerFaultHolds_iff]
      refine or_congr ⟨?_, fun h => ⟨_, rfl, h⟩⟩ ⟨And.right, fun h => ⟨hr.trans (congrArg some hrole), h⟩⟩
      rintro ⟨_, hh, hf⟩
      rw [← Option.some.inj hh] at hf
      exact hf
    · rw [hst _ (by decide), hplausU, plausUFails_far hu hfar, Bool.or_true]
    · rw [hst _ (by decide), hplausU, plausUFails_close hclose, Bool.or_false]
      rfl
    · subst hrole
      exact ⟨rfl, (hst _ (by decide)).trans (hspeed.trans (Bool.or_false _)), (hst _ (by decide)).trans (hsfault.trans (Bool.or_false _))⟩
    · have htest : heldTest role s.stp.heldSpeed s.stp.rejections received = speedTest s.stp.heldSpeed s.stp.rejections received :=
        if_neg hrole
      have hheld : (y.roleCompletes0 role).settle.stp.heldSpeed
          = some (heldTest role s.stp.heldSpeed s.stp.rejections received).n :=
        hsame.heldSpeed.trans (by rw [hstp]; exact if_neg hrole)
      have hrej : (y.roleCompletes0 role).settle.stp.rejections
          = (heldTest role s.stp.heldSpeed s.stp.rejections received).rejections := hsame.rejections.trans (by rw [hstp]; rfl)
      have hspeed' : (y.roleCompletes0 role).settle.status .plausSpeed
          = (s.status .plausSpeed || (heldTest role s.stp.heldSpeed s.stp.rejections received).plausSpeed) :=
        (hst _ (by decide)).trans hspeed
      have hsfault' : (y.roleCompletes0 role).settle.status .speedFault
          = (s.status .speedFault || (heldTest role s.stp.heldSpeed s.stp.rejections received).speedFault) :=
        (hst _ (by decide)).trans hsfault
      rw [htest] at hrej hspeed' hsfault'
      refine ⟨hheld, fun hclose => ?_, fun v hv hfar hk => ?_, fun v hv hfar hk => ?_⟩
      · rw [speedTest_close hclose] at hrej hspeed' hsfault'
        rw [htest, speedTest_close hclose]
        exact ⟨rfl, hrej, hspeed'.trans (Bool.or_false _), hsfault'.trans (Bool.or_false _)⟩
      · rw [hv, speedTest_far hfar, if_pos hk] at hrej hspeed' hsfault'
        rw [htest, hv, speedTest_far hfar, if_pos hk]
        exact ⟨rfl, hrej, hspeed'.trans (Bool.or_true _), hsfault'.trans (Bool.or_false _)⟩
      · rw [hv, speedTest_far hfar, if_neg (by omega)] at hrej hspeed' hsfault'
        rw [htest, hv, speedTest_far hfar, if_neg (by omega)]
        exact ⟨rfl, hrej, hspeed'.trans (Bool.or_true _), hsfault'.trans (Bool.or_true _)⟩
  · intro word amps degrees
    have hjudge := State.judge1_of_good (s := x) (role := role) (record := record) (recordFails_eq_false hxor hready fun h => by
      obtain ⟨p, hp, hn⟩ := Option.map_eq_some_iff.mp h
      exact hnib p hp hn)
    let y := x.judge1 role record
    have hstp : y.stp = { x.stp with held1 := some (partner1OfRecord role record), fail1 := 0 } := congrArg State.stp hjudge
    have hsame := SamePort.completion1 y role (!recordFails (s.stp.held1.map Partner1.nibble) record)
    refine ⟨_, _, exec_completion1 record hserves hr hin, hsame.held1.trans (by rw [hstp]), hsame.held0.trans (by rw [hstp]; rfl),
      hsame.fail1.trans (by rw [hstp]), hsame.fail0.trans (by rw [hstp]; rfl), hsame.own.trans (by rw [hstp]; rfl),
      hsame.heldSpeed.trans (by rw [hstp]; rfl), hsame.rejections.trans (by rw [hstp]; rfl), rfl, ?_, ?_, ?_, ?_, fun z hz => ?_⟩
    · rintro rfl
      show Partner1Data.modulator _ _ _ _ = _
      rw [clampNat_eq, clampNat_eq, clampNat_eq, byte_bne]
    · rintro rfl
      show Partner1Data.monitor _ _ _ _ _ _ _ = _
      rw [clampNat_eq, clampNat_eq, temperature_eq, clampInt_eq (by decide), clampInt_eq (by decide), clampInt_eq (by decide),
        byte_bne]
    · rintro rfl
      obtain ⟨h1, h2, h3⟩ := engineReport_cases (byteAt record 1)
      show (_ → Partner1Data.controller (engineReportOfCode (byteAt record 1).toNat) (temperature (byteAt record 5)) = _) ∧ (_ → Partner1Data.controller (engineReportOfCode (byteAt record 1).toNat) (temperature (byteAt record 5)) = _)
        ∧ (_ → _ → Partner1Data.controller (engineReportOfCode (byteAt record 1).toNat) (temperature (byteAt record 5)) = _)
      rw [temperature_eq]
      exact ⟨fun h => by rw [h1 h], fun h => by rw [h2 h], fun h h' => by rw [h3 h h']⟩
    · rw [hsame.status _ (by decide), show y.status .partnerFault = _ from congrArg (State.status · .partnerFault) hjudge,
        State.putStatus_status_self, partnerFaultHolds_iff, or_comm]
      refine or_congr ⟨?_, ?_⟩ Iff.rfl
      · rintro ⟨hrole, _, _, _, _, _, _, _, h⟩
        obtain rfl : role = .pack := Option.some.inj (hr.symm.trans hrole)
        exact ⟨rfl, bne_iff_ne.mp (Partner1Data.monitor.inj (congrArg Partner1.data (Option.some.inj h))).2.2.2.2.2.2⟩
      · rintro ⟨rfl, h⟩
        have hdata : (partner1OfRecord .pack record).data = .monitor _ _ _ _ _ _ (byteAt record 13 != 0) := rfl
        rw [bne_iff_ne.mpr h] at hdata
        exact ⟨hr, _, _, _, _, _, _, _, congrArg (fun d => some (Partner1.mk (nibbleOf record) d)) hdata⟩
    · have hz' : z ∈ portStatuses ∧ z ≠ .partnerFault := by
        revert hz
        cases z <;> decide
      rw [hsame.status z hz'.1, show y.status z = _ from congrArg (State.status · z) hjudge,
        State.putStatus_status_ne _ _ hz'.2]
      rfl

end
end Sys2Proof.Machine
end

/-! # The AXLE role's capabilities at a completion (R46 to R48) -/
section
namespace Sys2Proof.Machine

section
variable {c : Instr} {s t u : State}

/-! ### What a judging leaves alone (R159 to R164) -/

/-- The Stage Port and its statuses are the judging's; the slots are the role blocks'. -/
structure Judged (s t : State) : Prop where
  kept : KeptBut s t [.stp, .stu]
  slot0 : t.stp.slot0 = s.stp.slot0
  slot1 : t.stp.slot1 = s.stp.slot1
  status : ∀ y, y ∉ portStatuses → t.status y = s.status y

theorem Judged.trans (h : Judged s t) (k : Judged t u) : Judged s u :=
  ⟨h.kept.trans k.kept, k.slot0.trans h.slot0, k.slot1.trans h.slot1, fun y hy => (k.status y hy).trans (h.status y hy)⟩

theorem Judged.setStp (s : State) (b : StagePort) (h0 : b.slot0 = s.stp.slot0) (h1 : b.slot1 = s.stp.slot1) :
    Judged s (s.setStp b) :=
  ⟨(s.setStp_kept b).mono (by decide), h0, h1, fun _ _ => rfl⟩

theorem Judged.putStatus (s : State) {x : Status} (hx : x ∈ portStatuses) (v : Bool) : Judged s (s.putStatus x v) :=
  ⟨(KeptBut.refl s _).putStatus (by decide) _ _, rfl, rfl, fun y hy =>
    State.putStatus_status_ne _ _ (by rintro rfl; exact hy hx)⟩

theorem Judged.recordFailed (s : State) (p : Partner) : Judged s (s.recordFailed p) := by
  cases p with
  | p0 =>
    obtain ⟨hstp, -, hstatus⟩ := s.recordFailed_p0
    exact ⟨s.recordFailed_kept .p0, by rw [hstp], by rw [hstp], fun y hy =>
      hstatus y (by rintro rfl; exact hy (by decide))⟩
  | p1 =>
    obtain ⟨hstp, -, hstatus⟩ := s.recordFailed_p1
    exact ⟨s.recordFailed_kept .p1, by rw [hstp], by rw [hstp], fun y hy =>
      hstatus y (by rintro rfl; exact hy (by decide))⟩

theorem Judged.holdPartner0 (s : State) (role : Role) (r : Partner0) : Judged s (s.holdPartner0 role r) := by
  have hstp := s.holdPartner0_stp role r
  exact ⟨s.holdPartner0_kept role r, by rw [hstp], by rw [hstp], fun y hy => (s.holdPartner0_status role r).2.2 y
    (by rintro rfl; exact hy (by decide)) (by rintro rfl; exact hy (by decide))⟩

theorem Judged.judge0 (s : State) (role : Role) (sample : OwnReading) (record : List Byte) :
    Judged s (s.judge0 role sample record) := by
  have hown : Judged s (s.setStp { s.stp with own := sample }) := .setStp s _ rfl rfl
  unfold State.judge0
  dsimp only
  split
  · exact (hown.trans (.recordFailed _ _)).trans (.putStatus _ (by decide) _)
  · split
    · exact ((hown.trans (.holdPartner0 _ _ _)).trans (.putStatus _ (by decide) _)).trans (.putStatus _ (by decide) _)
    · exact (hown.trans (.holdPartner0 _ _ _)).trans (.putStatus _ (by decide) _)

theorem State.judge0_own (s : State) (role : Role) (sample : OwnReading) (record : List Byte) :
    (s.judge0 role sample record).stp.own = sample := by
  unfold State.judge0
  dsimp only
  rw [State.putStatus_stp]
  split
  · rw [(State.recordFailed_p0 _).1]
    rfl
  · split
    · rw [State.putStatus_stp, State.holdPartner0_stp]
      rfl
    · rw [State.holdPartner0_stp]
      rfl

theorem Judged.judge1 (s : State) (role : Role) (record : List Byte) : Judged s (s.judge1 role record) := by
  unfold State.judge1
  dsimp only
  split
  · exact (Judged.recordFailed _ _).trans (.putStatus _ (by decide) _)
  · exact (Judged.setStp s { s.stp with held1 := some (partner1OfRecord role record), fail1 := 0 } rfl rfl).trans
      (.putStatus _ (x := .partnerFault) (by decide) _)

theorem Judged.role (h : Judged s t) : t.role = s.role := by
  rw [State.role, State.role, h.kept .nsq (by decide)]
theorem Judged.demandLost (h : Judged s t) : t.demandLost = s.demandLost := h.status .demandLost (by decide)
theorem Judged.given (h : Judged s t) : t.given = s.given := by
  rw [State.given, State.given, h.demandLost, h.kept .ptb (by decide)]

/-! ### The own record agrees with its inputs (R46) -/

/-- The own capability record is the one that its inputs form. -/
def OwnFormed (s : State) : Prop :=
  s.blu.own = axleRecord s.mpt.copy s.nsq.op s.stp.held0 s.stp.held1 s.wau.q s.blu.slip s.blu.limitL

theorem OwnFormed.congr (h : OwnFormed s) (hown : t.blu.own = s.blu.own) (hslip : t.blu.slip = s.blu.slip)
    (hl : t.blu.limitL = s.blu.limitL) (hcopy : t.mpt.copy = s.mpt.copy) (hop : t.nsq.op = s.nsq.op)
    (h0 : t.stp.held0 = s.stp.held0) (h1 : t.stp.held1 = s.stp.held1) (hq : t.wau.q = s.wau.q) : OwnFormed t := by
  rw [OwnFormed, hown, hslip, hl, hcopy, hop, h0, h1, hq]
  exact h

theorem OwnFormed.of_reformOwn (hr : s.role = some .axle) : OwnFormed s.reformOwn := by
  rw [State.reformOwn_of_axle hr]
  rfl

theorem OwnFormed.of_stu (h : OwnFormed s) (b : StatusUnit) : OwnFormed (s.setStu b) := h

theorem State.reformOwn_axle_kept (hr : s.role = some .axle) : KeptBut s s.reformOwn [.blu] := by
  rw [State.reformOwn_of_axle hr]
  exact s.setBlu_kept _

/-! ### A wear item replaced in the AXLE role (R123) -/

/-- What the replacement makes of the block. -/
theorem State.putItem_wau (s : State) (i : Nat) (x : WearItem) : (s.putItem i x).wau =
    if i = 1 ∧ x.acc ≠ (itemAt s.wau.items i).acc
    then { s.wau with items := setItem s.wau.items i x }.derive s.role s.mpt.copy
    else { s.wau with items := setItem s.wau.items i x } := by
  unfold State.putItem
  dsimp only
  generalize hu : ite (x.state = .due ∧ (itemAt s.wau.items i).state ≠ .due) _ _ = u
  have hwau : u.wau = { s.wau with items := setItem s.wau.items i x } := by rw [← hu]; split <;> rfl
  split
  · split
    · rw [State.reformOwn_wau, State.setWau_wau]
    · rw [State.setWau_wau]
  · exact hwau

theorem State.putItem_of_axle (hr : s.role = some .axle) (i : Nat) (x : WearItem) :
    KeptBut s (s.putItem i x) [.wau, .stu, .blu] ∧ (OwnFormed s → OwnFormed (s.putItem i x)) := by
  unfold State.putItem
  dsimp only
  generalize hu : ite (x.state = .due ∧ (itemAt s.wau.items i).state ≠ .due) _ _ = u
  have hkept : KeptBut s u [.wau, .stu, .blu] := by
    have h1 : KeptBut s ((s.setWau { s.wau with items := setItem s.wau.items i x }).putStatus .wearNear
        (anyNear (setItem s.wau.items i x))) [.wau, .stu, .blu] :=
      ((KeptBut.refl s _).setWau (by decide) _).putStatus (by decide) _ _
    rw [← hu]
    split
    · exact h1.putStatus (by decide) _ _
    · exact h1
  have hblu : u.blu = s.blu := by rw [← hu]; split <;> rfl
  have hq : u.wau.q = s.wau.q := by rw [← hu]; split <;> rfl
  have hrole : u.role = some .axle := by rw [← hr, State.role, State.role, hkept .nsq (by decide)]
  have hown : OwnFormed s → ∀ w : Wear, w.q = s.wau.q → OwnFormed (u.setWau w) := fun h w hw =>
    h.congr (congrArg BlendUnit.own hblu) (congrArg BlendUnit.slip hblu) (congrArg BlendUnit.limitL hblu)
      (congrArg MemoryPort.copy (hkept .mpt (by decide))) (congrArg Sequencer.op (hkept .nsq (by decide)))
      (congrArg StagePort.held0 (hkept .stp (by decide))) (congrArg StagePort.held1 (hkept .stp (by decide))) hw
  have hre : ∀ w, KeptBut (u.setWau w) (u.setWau w).reformOwn [.wau, .stu, .blu] := fun w =>
    (State.reformOwn_axle_kept (s := u.setWau w) hrole).mono (by decide)
  split
  · split
    · exact ⟨(hkept.setWau (by decide) _).trans (hre _), fun _ => .of_reformOwn hrole⟩
    · next hnot =>
      exact ⟨hkept.setWau (by decide) _, fun h => hown h _ (by
        by_contra hne
        exact hnot ⟨hr, hne⟩)⟩
  · exact ⟨hkept, fun h => hown h u.wau hq⟩

/-! ### Withdrawal and its end -/

theorem OwnFormed.of_enterServing (hr : s.role = some .axle) (op : OpState) : OwnFormed (s.enterServing op) := by
  have hrole : (s.takeOp op).requestPrompt.role = some .axle := by
    rw [← hr, State.role, State.role, State.requestPrompt_nsq, State.takeOp_nsq]
  rw [State.enterServing_eq, if_neg (by rw [hrole]; rintro ⟨-, h⟩; cases h)]
  exact OwnFormed.of_reformOwn (s := (s.setNsq _).setPins _) hr

theorem OwnFormed.of_settle (hr : s.role = some .axle) (h : OwnFormed s) : OwnFormed s.settle := by
  have hdec : OwnFormed s.decideOp := by
    rcases s.decideOp_cases with e | ⟨-, -, e⟩ | ⟨-, -, e⟩ <;> rw [e]
    · exact h
    · exact .of_enterServing hr _
    · exact .of_enterServing hr _
  exact hdec.congr (by simp [State.settle]) (by simp [State.settle]) (by simp [State.settle]) (by simp [State.settle])
    (by simp [State.settle]) (by simp [State.settle]) (by simp [State.settle]) (by simp [State.settle])

/-! ### The blocks of an AXLE completion (R51 to R58) -/

theorem State.formShares_frame (s : State) : KeptBut s s.formShares [.blu, .stu]
    ∧ s.formShares.blu = s.blu.form s.she (pLim s.mpt.copy s.stp.held0) s.demandLost :=
  ⟨((s.setBlu_kept _).mono (by decide)).putStatus (by decide) _ _, rfl⟩

/-- What a formation of the effective shares leaves of the statuses. -/
theorem State.formShares_status (s : State) : s.formShares.status .shortBrake = (s.she.shortBrake || s.formShares.blu.clampBinds)
    ∧ ∀ y, y ≠ .shortBrake → s.formShares.status y = s.status y :=
  ⟨State.putStatus_status_self _ _ _, fun _ hy => State.putStatus_status_ne _ _ hy⟩

theorem OwnFormed.formShares (h : OwnFormed s) : OwnFormed s.formShares := h
theorem OwnFormed.formTorque (h : OwnFormed s) : OwnFormed s.formTorque := h
theorem OwnFormed.formPressure (h : OwnFormed s) : OwnFormed s.formPressure := h

theorem KeptBut.role_eq {bs : List Block} (h : KeptBut s t bs) (hn : Block.nsq ∉ bs) : t.role = s.role := by
  rw [State.role, State.role, h .nsq hn]

theorem State.gatherRegen_kept (s : State) : KeptBut s s.gatherRegen [.wau, .stu] := by
  unfold State.gatherRegen
  split
  · exact (State.putItem_of_ne s (by decide) _).2
  · exact .refl s _

theorem OwnFormed.gatherRegen (hr : s.role = some .axle) (h : OwnFormed s) : OwnFormed s.gatherRegen := by
  unfold State.gatherRegen
  split
  · exact (State.putItem_of_axle hr _ _).2 h
  · exact h

/-- The pad energy and a hard application gathered leave all but the wear account, its statuses and the own record. -/
theorem State.gatherPads_of_axle (hr : s.role = some .axle) :
    KeptBut s s.gatherPads [.wau, .stu, .blu] ∧ (OwnFormed s → OwnFormed s.gatherPads) := by
  unfold State.gatherPads
  split
  · next pFb _ _ _ _ =>
    let x := (itemAt s.wau.items 1).gather s.mpt.copy 1 1000000 (padIncrement pFb (brakeGain s.mpt.copy) s.given.v)
    obtain ⟨hkept, hown⟩ := State.putItem_of_axle hr 1 x
    have harm : ∀ w, KeptBut s ((s.putItem 1 x).setWau w) [.wau, .stu, .blu] := fun w => hkept.setWau (by decide) w
    dsimp only
    split
    · obtain ⟨hkept4, hown4⟩ := State.putItem_of_axle (s := (s.putItem 1 x).setWau { (s.putItem 1 x).wau with
        armA4 := (hardApplication (s.putItem 1 x).wau.armA4 pFb).2 }) (((harm _).role_eq (by decide)).trans hr) 4
        ((itemAt (s.putItem 1 x).wau.items 4).add (s.putItem 1 x).mpt.copy 4 1)
      exact ⟨(harm _).trans hkept4, fun h => hown4 (hown h)⟩
    · exact ⟨harm _, hown⟩
  · exact ⟨.refl s _, id⟩

theorem State.formTorque_frame (s : State) : KeptBut s s.formTorque [.blu, .stp]
    ∧ s.formTorque.blu = { s.blu with torque := torqueSetpoint s.blu.dE s.blu.rE (nEff s.stp.held0) (tMax s.mpt.copy) }
    ∧ s.formTorque.stp = { s.stp with slot0 := some (.torque s.formTorque.blu.torque) }
    ∧ ∀ y, s.formTorque.status y = s.status y :=
  ⟨((KeptBut.refl _ _).setBlu (by decide) _).setStp (by decide) _, rfl, rfl, fun _ => rfl⟩

/-! ### An AXLE completion with partner 0 -/

/-- The block with the droop factors and the own record of a completion (R46 to R49). -/
def State.droopBlend (s : State) : BlendUnit :=
  { s.blu with
    gd := driveDroop s.mpt.copy (linkVoltage s.stp.own s.stp.held0)
    gr := regenDroop s.mpt.copy (linkVoltage s.stp.own s.stp.held0)
    own := axleRecord s.mpt.copy s.nsq.op s.stp.held0 s.stp.held1 s.wau.q s.blu.slip s.blu.limitL }

/-- The block with the effective shares of a completion with partner 0 (R51 to R54). -/
def State.sharedBlend0 (s : State) : BlendUnit :=
  s.droopBlend.form s.she (pLim s.mpt.copy s.stp.held0) s.demandLost

/-- A completion with partner 0 before the regenerated energy is gathered. -/
def State.axleFormed0 (s : State) : State :=
  ((s.formDroop.reformOwn).putStatus .stageHot (stageHotHolds s.stp.held0)).formShares.formTorque

theorem State.axleCompletes0_eq (s : State) : s.axleCompletes0 = s.axleFormed0.gatherRegen := rfl

/-- What a completion with partner 0 leaves before the regenerated energy is gathered. -/
theorem State.axleFormed0_frame (hr : s.role = some .axle) : KeptBut s s.axleFormed0 [.blu, .stu, .stp]
    ∧ s.axleFormed0.blu = { s.sharedBlend0 with
        torque := torqueSetpoint s.sharedBlend0.dE s.sharedBlend0.rE (nEff s.stp.held0) (tMax s.mpt.copy) }
    ∧ s.axleFormed0.stp = { s.stp with slot0 := some (.torque s.axleFormed0.blu.torque) }
    ∧ s.axleFormed0.status .derate = (decide (s.droopBlend.gd < 100) || decide (s.droopBlend.gr < 100))
    ∧ s.axleFormed0.status .stageHot = stageHotHolds s.stp.held0
    ∧ s.axleFormed0.status .shortBrake = (s.she.shortBrake || s.sharedBlend0.clampBinds)
    ∧ ∀ y, y ≠ .derate → y ≠ .stageHot → y ≠ .shortBrake → s.axleFormed0.status y = s.status y := by
  let x := s.formDroop.setBlu s.droopBlend
  let y := x.putStatus .stageHot (stageHotHolds s.stp.held0)
  have hre : s.formDroop.reformOwn = x := State.reformOwn_of_axle (s := s.formDroop) hr
  have hform : s.axleFormed0 = y.formShares.formTorque := by
    unfold State.axleFormed0
    rw [hre]
  have hderate : y.status .derate = (decide (s.droopBlend.gd < 100) || decide (s.droopBlend.gr < 100)) :=
    (State.putStatus_status_ne x _ (by decide)).trans (State.putStatus_status_self _ _ _)
  have hother : ∀ z, z ≠ .derate → z ≠ .stageHot → y.status z = s.status z := fun z h1 h2 =>
    (State.putStatus_status_ne x _ h2).trans (State.putStatus_status_ne _ _ h1)
  have hkept : KeptBut s y [.blu, .stu, .stp] :=
    ((((KeptBut.refl s _).setBlu (by decide) _).putStatus (by decide) _ _).setBlu (by decide) _).putStatus (by decide) _ _
  obtain ⟨hshares, hblu⟩ := y.formShares_frame
  obtain ⟨hshort, hstatus⟩ := y.formShares_status
  have hblend : y.formShares.blu = s.sharedBlend0 := by
    rw [hblu, show y.demandLost = s.demandLost from hother _ (by decide) (by decide)]
    rfl
  have hstp : y.formShares.stp = s.stp := hshares .stp (by decide)
  have hmpt : y.formShares.mpt = s.mpt := hshares .mpt (by decide)
  obtain ⟨htorque, hblu', hstp', hstatus'⟩ := y.formShares.formTorque_frame
  rw [hblend, hstp, hmpt] at hblu'
  rw [hstp] at hstp'
  rw [hblend] at hshort
  rw [hform]
  refine ⟨(hkept.trans (hshares.mono (by decide))).trans (htorque.mono (by decide)), hblu', hstp', ?_, ?_, ?_,
    fun z h1 h2 h3 => ?_⟩
  · rw [hstatus', hstatus _ (by decide), hderate]
  · rw [hstatus', hstatus _ (by decide)]
    exact State.putStatus_status_self _ _ _
  · rw [hstatus', hshort]
    rfl
  · rw [hstatus', hstatus z h3, hother z h1 h2]

theorem OwnFormed.axleFormed0 (hr : s.role = some .axle) : OwnFormed s.axleFormed0 := by
  obtain ⟨hkept, hblu, hstp, -⟩ := State.axleFormed0_frame hr
  have hmpt := hkept .mpt (by decide)
  have hnsq := hkept .nsq (by decide)
  have hwau := hkept .wau (by decide)
  rw [OwnFormed, hblu, hmpt, hnsq, hwau, hstp]
  rfl

/-! ### An AXLE completion with partner 1 -/

theorem BlendUnit.evaluateSlip_eq (b : BlendUnit) (d : Int) (v w : Nat) : b.evaluateSlip d v w = { b with
    slip := (b.evaluateSlip d v w).slip, limitL := (b.evaluateSlip d v w).limitL
    slipHold := (b.evaluateSlip d v w).slipHold } := by
  unfold BlendUnit.evaluateSlip
  split
  · rfl
  · split_ifs <;> rfl

theorem State.evaluateSlip_kept (s : State) : KeptBut s s.evaluateSlip [.blu, .wau, .stu, .sli] := by
  have hset : ∀ b, KeptBut s (s.setBlu b) [.blu, .wau, .stu, .sli] := fun b => (s.setBlu_kept b).mono (by decide)
  have hitem : ∀ b, KeptBut (s.setBlu b) ((s.setBlu b).addUnits 3 1) [.blu, .wau, .stu, .sli] := fun b =>
    (State.putItem_of_ne (s.setBlu b) (by decide) _).2.mono (by decide)
  unfold State.evaluateSlip
  split
  · dsimp only
    split
    · exact ((hset _).trans (hitem _)).requestPrompt (by decide)
    · exact hset _
  · exact .refl s _

/-- A completion with partner 1 before the pad energy is gathered. -/
def State.axleFormed1 (s : State) : State := (s.evaluateSlip.reformOwn).formShares.formPressure

theorem State.axleFormed1_kept (hr : s.role = some .axle) : KeptBut s s.axleFormed1 [.blu, .wau, .stu, .sli, .stp] := by
  have hslip := s.evaluateSlip_kept
  have hown : KeptBut s.evaluateSlip s.evaluateSlip.reformOwn [.blu, .wau, .stu, .sli, .stp] :=
    (State.reformOwn_axle_kept ((hslip.role_eq (by decide)).trans hr)).mono (by decide)
  exact ((((hslip.mono (by decide)).trans hown).trans ((State.formShares_frame _).1.mono (by decide))).setBlu (by decide) _).setStp
    (by decide) _

theorem OwnFormed.axleFormed1 (hr : s.role = some .axle) : OwnFormed s.axleFormed1 :=
  have hre : OwnFormed s.evaluateSlip.reformOwn := .of_reformOwn ((s.evaluateSlip_kept.role_eq (by decide)).trans hr)
  hre.formShares.formPressure

/-! ### An AXLE completion as a whole -/

theorem Follows.of_axle (hr : s.role = some .axle) : Follows s s.settle :=
  .of_settle (fun h => by rw [hr] at h; cases h)

theorem State.axleCompletes0_kept (hr : s.role = some .axle) : KeptBut s s.axleCompletes0 [.blu, .stu, .stp, .wau] :=
  ((State.axleFormed0_frame hr).1.mono (by decide)).trans (s.axleFormed0.gatherRegen_kept.mono (by decide))

theorem State.axleCompletes1_kept (hr : s.role = some .axle) :
    KeptBut s s.axleCompletes1 [.blu, .wau, .stu, .sli, .stp] :=
  (State.axleFormed1_kept hr).trans
    ((State.gatherPads_of_axle (((State.axleFormed1_kept hr).role_eq (by decide)).trans hr)).1.mono (by decide))

theorem OwnFormed.axleCompletes0 (hr : s.role = some .axle) : OwnFormed s.axleCompletes0 :=
  (OwnFormed.axleFormed0 hr).gatherRegen (((State.axleFormed0_frame hr).1.role_eq (by decide)).trans hr)

theorem OwnFormed.axleCompletes1 (hr : s.role = some .axle) : OwnFormed s.axleCompletes1 :=
  (State.gatherPads_of_axle (((State.axleFormed1_kept hr).role_eq (by decide)).trans hr)).2 (.axleFormed1 hr)

/-! ### The capabilities by slip state (R47, R48) -/

theorem SlipState.flag_iff (x : SlipState) : x.flag = true ↔ x ≠ .grip := by
  cases x <;> simp [SlipState.flag]

theorem axleRecord_active {op : OpState} (h : op = .active) (c : List Word) (h0 : Option Partner0) (h1 : Option Partner1)
    (q l : Nat) :
    let own := fun slip => axleRecord c op h0 h1 q slip l
    ((own .grip).pd = pdU c h0 ∧ (own .grip).pr = prU c h0)
    ∧ ((own (.slip .braking)).pd = pdU c h0 ∧ (own (.slip .braking)).pr = 0)
    ∧ ((own (.slip .traction)).pd = 0 ∧ (own (.slip .traction)).pr = prU c h0)
    ∧ ((own (.recover .braking)).pd = pdU c h0 ∧ (own (.recover .braking)).pr = min (prU c h0) l)
    ∧ ((own (.recover .traction)).pd = min (pdU c h0) l ∧ (own (.recover .traction)).pr = prU c h0) := by
  subst h
  exact ⟨⟨rfl, rfl⟩, ⟨rfl, rfl⟩, ⟨rfl, rfl⟩, ⟨rfl, rfl⟩, ⟨rfl, rfl⟩⟩

/-- Settles O37: the own record is formed once more where an input of it moves, and at the end of the event. -/
theorem axleCapabilitiesFollowTheirInputs : Obligations.AxleCapabilitiesFollowTheirInputs := by
  unfold Obligations.AxleCapabilitiesFollowTheirInputs
  intro s p out record sample hserves hr hin
  obtain ⟨t, hexec, hown, hcopy⟩ : ∃ t, exec (.exchangeCompletion record) s = .next t ∧ OwnFormed t
      ∧ t.mpt.copy = s.mpt.copy := by
    let x := s.setStp { s.stp with inFlight := none }
    cases p with
    | p0 =>
      let y := x.judge0 .axle sample record
      have hj : Judged x y := .judge0 x .axle sample record
      have hrole : y.role = some .axle := hj.role.trans hr
      have hkept := State.axleCompletes0_kept hrole
      have hend := (hkept.role_eq (by decide)).trans hrole
      refine ⟨_, exec_completion0 record hserves hr hin, .of_settle hend (.axleCompletes0 hrole), ?_⟩
      exact (Follows.of_axle hend).copy.trans (congrArg MemoryPort.copy
        ((hkept .mpt (by decide)).trans (hj.kept .mpt (by decide))))
    | p1 =>
      let y := x.judge1 .axle record
      have hj : Judged x y := .judge1 x .axle record
      have hrole : y.role = some .axle := hj.role.trans hr
      have hkept := State.axleCompletes1_kept hrole
      have hend := (hkept.role_eq (by decide)).trans hrole
      refine ⟨_, exec_completion1 record hserves hr hin, .of_settle hend (.axleCompletes1 hrole), ?_⟩
      exact (Follows.of_axle hend).copy.trans (congrArg MemoryPort.copy
        ((hkept .mpt (by decide)).trans (hj.kept .mpt (by decide))))
  rw [OwnFormed, hcopy] at hown
  have hactive := fun h : t.nsq.op = .active =>
    axleRecord_active h s.mpt.copy t.stp.held0 t.stp.held1 t.wau.q t.blu.limitL
  refine ⟨t, hexec, ?_⟩
  rw [hown]
  refine ⟨⟨fun h => ⟨if_neg h, if_neg h⟩, fun h hs => ?_, fun h hs => ?_, fun h hs => ?_, fun h hs => ?_, fun h hs => ?_⟩,
    fun h => by rw [h]; rfl, fun nib a l r h => by rw [h]; rfl, fun nib a l r h => by rw [h]; rfl, rfl,
    SlipState.flag_iff _, fun y h => by rw [h]; rfl, fun h => by rw [h]; rfl⟩
  · rw [hs]
    exact (hactive h).1
  · rw [hs]
    obtain ⟨-, hcap, -⟩ := hactive h
    exact hcap
  · rw [hs]
    obtain ⟨-, -, hcap, -⟩ := hactive h
    exact hcap
  · rw [hs]
    obtain ⟨-, -, -, hcap, -⟩ := hactive h
    exact hcap
  · rw [hs]
    obtain ⟨-, -, -, -, hcap⟩ := hactive h
    exact hcap

end
end Sys2Proof.Machine
end

/-! # An AXLE completion with partner 0 (R49 to R53, R56, R113) -/
section
namespace Sys2Proof.Machine

section
variable {c : Instr} {s t u : State}

/-! ### The droop factors (R49) -/

theorem driveDroop_cases (c : List Word) (v : Nat) : (uDk c ≤ v → driveDroop c v = 100)
    ∧ (v < uDk c → v ≤ uDm c → driveDroop c v = 0)
    ∧ (v < uDk c → uDm c < v → driveDroop c v = 100 * (v - uDm c) / (uDk c - uDm c)) := by
  refine ⟨fun h => if_pos h, fun h1 h2 => ?_, fun h1 h2 => ?_⟩ <;> rw [driveDroop, if_neg (by omega)]
  · exact if_pos h2
  · exact if_neg (by omega)

theorem regenDroop_cases (c : List Word) (v : Nat) : (v ≤ uRk c → regenDroop c v = 100)
    ∧ (uRk c < v → uRm c ≤ v → regenDroop c v = 0)
    ∧ (uRk c < v → v < uRm c → regenDroop c v = 100 * (uRm c - v) / (uRm c - uRk c)) := by
  refine ⟨fun h => if_pos h, fun h1 h2 => ?_, fun h1 h2 => ?_⟩ <;> rw [regenDroop, if_neg (by omega)]
  · exact if_pos h2
  · exact if_neg (by omega)

theorem linkVoltage_cases (own : OwnReading) (h0 : Option Partner0) : (∀ u, own = .volts u → linkVoltage own h0 = u)
    ∧ ((∀ u, own ≠ .volts u) → (∀ h, h0 = some h → linkVoltage own h0 = h.uLink) ∧ (h0 = none → linkVoltage own h0 = 0)) := by
  refine ⟨by rintro u rfl; rfl, fun h => ?_⟩
  cases own with
  | volts u => exact absurd rfl (h u)
  | none => exact ⟨by rintro h rfl; rfl, by rintro rfl; rfl⟩
  | outOfRange => exact ⟨by rintro h rfl; rfl, by rintro rfl; rfl⟩

/-! ### The drive ramp (R65, R66) -/

/-- What one formation makes of the ramp, and the base it takes. -/
theorem rampBase_cases (mode : RampMode) (m d : Nat) {base limit : Nat} {ramp : RampMode} (h : rampBase mode m d = (base, ramp, limit)) :
    (mode = .none → base = d ∧ ramp = .none ∧ limit = d) ∧ (mode = .down → base = m ∧ ramp = .down ∧ limit = m)
    ∧ (mode = .up → d ≤ m → base = d ∧ ramp = .none ∧ limit = d)
    ∧ (mode = .up → m < d → base = m ∧ ramp = .up ∧ limit = m) := by
  cases mode with
  | none =>
    cases h
    exact ⟨fun _ => ⟨rfl, rfl, rfl⟩, nofun, nofun, nofun⟩
  | down =>
    cases h
    exact ⟨nofun, fun _ => ⟨rfl, rfl, rfl⟩, nofun, nofun⟩
  | up =>
    refine ⟨nofun, nofun, fun _ hle => ?_, fun _ hlt => ?_⟩
    · rw [rampBase, if_pos hle] at h
      cases h
      exact ⟨rfl, rfl, rfl⟩
    · rw [rampBase, if_neg (by omega)] at h
      cases h
      exact ⟨rfl, rfl, rfl⟩

/-! ### The effective shares (R51 to R54) -/

theorem effectiveDrive_cases (base gd pd lim : Nat) (slip : SlipState) :
    (slip.slipping = true → effectiveDrive base gd pd lim slip = 0)
    ∧ (slip.slipping = false → effectiveDrive base gd pd lim slip = min (min (base * gd / 100) pd) lim) :=
  ⟨fun h => if_pos h, fun h => if_neg (by rw [h]; decide)⟩

theorem effectiveRegen_cases (r gr pr lim : Nat) (slip : SlipState) (lost : Bool) :
    (slip.slipping = true → effectiveRegen r gr pr lim slip lost = 0)
    ∧ (slip.slipping = false → lost = false → effectiveRegen r gr pr lim slip lost = min (min (r * gr / 100) pr) lim)
    ∧ (lost = true → effectiveRegen r gr pr lim slip lost = 0) := by
  unfold effectiveRegen
  exact ⟨fun h => by rw [h]; rfl, fun h hl => by rw [h, hl]; rfl, fun h => by rw [h, Bool.or_true]; rfl⟩

theorem effectiveDrive_le (base gd pd lim : Nat) (slip : SlipState) : effectiveDrive base gd pd lim slip ≤ lim := by
  unfold effectiveDrive
  split
  · exact Nat.zero_le _
  · exact Nat.min_le_right _ _

theorem effectiveRegen_le (r gr pr lim : Nat) (slip : SlipState) (lost : Bool) :
    effectiveRegen r gr pr lim slip lost ≤ lim := by
  unfold effectiveRegen
  split
  · exact Nat.zero_le _
  · exact Nat.min_le_right _ _

/-- One formation from a block and what it reads, as a later state of the block holds it. -/
structure SharesFormed (mode : RampMode) (m : Nat) (t : BlendUnit) (share : ShareRecord) (own : AxleRecord) (lim base : Nat) (lost : Bool) : Prop where
  ramp : rampBase mode m share.d = (base, t.ramp, t.limitM)
  dE : t.dE = effectiveDrive base t.gd own.pd lim t.slip
  rE : t.rE = effectiveRegen share.r t.gr own.pr lim t.slip lost
  fE : t.fE = if lost then 0 else min (share.f + (share.r - t.rE)) own.fb
  clamp : t.clampBinds = (!lost && decide (own.fb < share.f + (share.r - t.rE)))

theorem BlendUnit.form_formed (b : BlendUnit) (share : ShareRecord) (lim : Nat) (lost : Bool) :
    SharesFormed b.ramp b.limitM (b.form share lim lost) share b.own lim (rampBase b.ramp b.limitM share.d).1 lost :=
  ⟨rfl, rfl, rfl, rfl, rfl⟩

/-- The setpoints and the own record of a later state play no part in a formation. -/
theorem SharesFormed.with_setpoints {mode : RampMode} {m : Nat} {t : BlendUnit} {share : ShareRecord} {own : AxleRecord} {lim base : Nat} {lost : Bool}
    (h : SharesFormed mode m t share own lim base lost) (torque : Int) (pressure : Nat) (own' : AxleRecord) :
    SharesFormed mode m { t with torque := torque, pressure := pressure, own := own' } share own lim base lost :=
  ⟨h.ramp, h.dE, h.rE, h.fE, h.clamp⟩

theorem SharesFormed.fE_cases {mode : RampMode} {m : Nat} {t : BlendUnit} {share : ShareRecord} {own : AxleRecord} {lim base : Nat} {lost : Bool}
    (h : SharesFormed mode m t share own lim base lost) : (lost = true → t.fE = 0)
      ∧ (lost = false → t.fE = min (share.f + (share.r - t.rE)) own.fb)
      ∧ (t.clampBinds = true ↔ lost = false ∧ own.fb < share.f + (share.r - t.rE)) := by
  refine ⟨fun hl => h.fE.trans (if_pos hl), fun hl => h.fE.trans (if_neg (by rw [hl]; decide)), ?_⟩
  rw [h.clamp, Bool.and_eq_true, Bool.not_eq_true', decide_eq_true_iff]

/-! ### The torque setpoint (R56) -/

/-- A power below the torque-limited one asks for no more than the torque limit. -/
theorem torque_le {p n lim : Nat} (h : p ≤ lim * n / 9549) : p * 9549 / n ≤ lim := by
  have hp : p * 9549 ≤ lim * n := (Nat.mul_le_mul_right _ h).trans (Nat.div_mul_le_self _ _)
  exact Nat.div_le_of_le_mul (by rw [Nat.mul_comm n]; exact hp)

theorem clampInt_self {lo hi x : Int} (h1 : lo ≤ x) (h2 : x ≤ hi) : clampInt lo hi x = x := by
  rw [clampInt, if_neg (by omega), if_neg (by omega)]

theorem clampInt_natAbs (x : Int) (n : Nat) : (clampInt (-(n : Int)) n x).natAbs ≤ n := by
  unfold clampInt
  split_ifs <;> omega

/-- The setpoint within the limits: drive is tested before regeneration (log entry 40). -/
theorem torqueSetpoint_cases {dE rE n lim : Nat} (hd : dE ≤ lim * n / 9549) (hr : rE ≤ lim * n / 9549) :
    (torqueSetpoint dE rE n lim).natAbs ≤ lim
    ∧ (0 < dE → torqueSetpoint dE rE n lim = ((dE * 9549 / n : Nat) : Int))
    ∧ (dE = 0 → 0 < rE → torqueSetpoint dE rE n lim = -((rE * 9549 / n : Nat) : Int))
    ∧ (dE = 0 → rE = 0 → torqueSetpoint dE rE n lim = 0) := by
  have hd' := torque_le hd
  have hr' := torque_le hr
  refine ⟨clampInt_natAbs _ _, fun h => ?_, fun h h' => ?_, fun h h' => ?_⟩ <;> unfold torqueSetpoint
  · rw [if_pos h]
    generalize dE * 9549 / n = a at hd'
    exact clampInt_self (by omega) (by omega)
  · rw [if_neg (by omega), if_pos h']
    generalize rE * 9549 / n = a at hr'
    exact clampInt_self (by omega) (by omega)
  · rw [if_neg (by omega), if_neg (by omega)]
    exact clampInt_self (by omega) (by omega)

/-! ### A residue gathered (R112 to R114) -/

/-- An increment gathered below the end of the range: no part of it is lost. -/
theorem WearItem.gather_sum {x : WearItem} {c : List Word} {i unit inc : Nat} (hu : 0 < unit)
    (h : x.acc + (x.residue + inc) / unit ≤ accMax) :
    (x.gather c i unit inc).residue < unit
    ∧ (x.gather c i unit inc).acc = x.acc + (x.residue + inc) / unit
    ∧ (x.gather c i unit inc).acc * unit + (x.gather c i unit inc).residue = x.acc * unit + x.residue + inc := by
  have hres : (x.gather c i unit inc).residue = (x.residue + inc) % unit := by
    unfold WearItem.gather WearItem.add
    dsimp only
    split <;> rfl
  have hacc : (x.gather c i unit inc).acc = x.acc + (x.residue + inc) / unit :=
    (WearItem.add_acc _ _ _).trans (Nat.min_eq_left h)
  rw [hres, hacc, Nat.add_mul, Nat.add_assoc, Nat.div_add_mod', Nat.add_assoc]
  exact ⟨Nat.mod_lt _ hu, rfl, rfl⟩

/-- The regenerated energy joins item 2's residue (R113). -/
theorem regenIncrement_eq (p : Int) : regenIncrement p = if p < 0 then p.natAbs else 0 := rfl

theorem State.gatherRegen_items {h : Partner0} (hh : s.stp.held0 = some h) :
    s.gatherRegen.wau = { s.wau with items := setItem s.wau.items 2 ((itemAt s.wau.items 2).gather s.mpt.copy 2 1800000
      (regenIncrement h.pAct)) } := by
  unfold State.gatherRegen
  simp only [hh]
  exact (State.putItem_of_ne s (by decide) _).1

theorem State.gatherRegen_status (s : State) {y : Status} (h1 : y ≠ .wearNear) (h2 : y ≠ .wearDue) :
    s.gatherRegen.status y = s.status y := by
  unfold State.gatherRegen
  split
  · exact s.putItem_status _ _ h1 h2
  · rfl

theorem stageHotHolds_iff {h0 : Option Partner0} : stageHotHolds h0 = true ↔ ∃ h, h0 = some h ∧ 70 < h.ts := by
  cases h0 <;> simp [stageHotHolds]

/-- The torque setpoint of a completion with partner 0. -/
def State.torque0 (s : State) : Int :=
  torqueSetpoint s.sharedBlend0.dE s.sharedBlend0.rE (nEff s.stp.held0) (tMax s.mpt.copy)

/-- What a completion with partner 0 has made when its event ends. -/
structure AxleCompleted0 (s t : State) : Prop where
  blu : t.blu = { s.sharedBlend0 with torque := s.torque0, own := t.blu.own }
  stp : t.stp = { s.stp with slot0 := some (.torque s.torque0) }
  derate : t.status .derate = (decide (s.droopBlend.gd < 100) || decide (s.droopBlend.gr < 100))
  hot : t.status .stageHot = stageHotHolds s.stp.held0
  shortBrake : t.status .shortBrake = (s.she.shortBrake || s.sharedBlend0.clampBinds)
  items : ∀ h, s.stp.held0 = some h → t.wau = { s.wau with
    items := setItem s.wau.items 2 ((itemAt s.wau.items 2).gather s.mpt.copy 2 1800000 (regenIncrement h.pAct)) }
  she : t.she = s.she
  ptb : t.ptb = s.ptb
  copy : t.mpt.copy = s.mpt.copy
  eeprom : t.mpt.eeprom = s.mpt.eeprom
  demandLost : t.demandLost = s.demandLost

theorem State.axleCompletes0_settled (hr : s.role = some .axle) : AxleCompleted0 s s.axleCompletes0.settle := by
  rw [State.axleCompletes0_eq]
  obtain ⟨hkept, hblu, hstp, hderate, hhot, hshort, hstatus⟩ := State.axleFormed0_frame hr
  have hwau : s.axleFormed0.wau = s.wau := hkept .wau (by decide)
  have hmpt : s.axleFormed0.mpt = s.mpt := hkept .mpt (by decide)
  have hz := s.axleFormed0.gatherRegen_kept
  have hitems := fun h hh => State.gatherRegen_items (s := s.axleFormed0) (h := h) hh
  have hst := fun v => State.gatherRegen_status s.axleFormed0 (y := v)
  generalize s.axleFormed0.gatherRegen = z at hz hitems hst
  have hzrole : z.role = some .axle := (hz.role_eq (by decide)).trans ((hkept.role_eq (by decide)).trans hr)
  have hfollows : Follows z z.settle := .of_axle hzrole
  have hstpz : z.stp = s.axleFormed0.stp := hz .stp (by decide)
  have hmptz : z.mpt = s.axleFormed0.mpt := hz .mpt (by decide)
  refine ⟨?_, ?_, ?_, ?_, ?_, fun h hh => ?_, ?_, ?_, ?_, ?_, ?_⟩
  · rw [hfollows.blu, show z.blu = _ from hz .blu (by decide), hblu]
    rfl
  · rw [(hfollows.engine (by rw [hzrole]; decide)).1, hstpz, hstp, hblu]
    rfl
  · rw [hfollows.status, hst _ (by decide) (by decide), hderate]
  · rw [hfollows.status, hst _ (by decide) (by decide), hhot]
  · rw [hfollows.status, hst _ (by decide) (by decide), hshort]
  · rw [hfollows.wau, hitems h (by rw [hstp]; exact hh), hwau, hmpt]
  · rw [hfollows.she]
    exact (hz .she (by decide)).trans (hkept .she (by decide))
  · rw [hfollows.ptb]
    exact (hz .ptb (by decide)).trans (hkept .ptb (by decide))
  · rw [hfollows.copy, hmptz, hmpt]
  · rw [hfollows.eeprom, hmptz, hmpt]
  · rw [hfollows.demandLost]
    exact (hst _ (by decide) (by decide)).trans (hstatus _ (by decide) (by decide) (by decide))

theorem State.roleCompletes0_axle (s : State) : s.roleCompletes0 .axle = s.axleCompletes0 := rfl

/-- A completion with partner 0 is that of the judged state. -/
theorem exec_axle0 {out : List Byte} {sample : OwnReading} (record : List Byte) (hserves : s.serves = true)
    (hr : s.role = some .axle) (hin : s.stp.inFlight = some ⟨.p0, out, sample⟩) :
    ∃ y t, exec (.exchangeCompletion record) s = .next t ∧ Judged s y ∧ y.stp.own = sample ∧ AxleCompleted0 y t := by
  let x := s.setStp { s.stp with inFlight := none }
  have hj : Judged s (x.judge0 .axle sample record) := (Judged.setStp s { s.stp with inFlight := none } rfl rfl).trans
      (.judge0 x .axle sample record)
  refine ⟨_, _, ?_, hj, x.judge0_own .axle sample record, State.axleCompletes0_settled (hj.role.trans hr)⟩
  rw [exec_completion0 record hserves hr hin, State.roleCompletes0_axle]

/-- Settles O38: the parts of the completion in their order, which the event's end leaves. -/
theorem axlePartner0CompletionFormsTorque : Obligations.AxlePartner0CompletionFormsTorque := by
  unfold Obligations.AxlePartner0CompletionFormsTorque
  intro s out record sample hserves hr hin
  obtain ⟨y, t, hexec, hj, hown, hend⟩ := exec_axle0 record hserves hr hin
  have hmpt : y.mpt = s.mpt := hj.kept .mpt (by decide)
  have hnsq : y.nsq = s.nsq := hj.kept .nsq (by decide)
  have hwau : y.wau = s.wau := hj.kept .wau (by decide)
  have hblu : y.blu = s.blu := hj.kept .blu (by decide)
  have hshe : y.she = s.she := hj.kept .she (by decide)
  have hptb : y.ptb = s.ptb := hj.kept .ptb (by decide)
  have hlost : y.demandLost = s.demandLost := hj.demandLost
  have hslot1 : y.stp.slot1 = s.stp.slot1 := hj.slot1
  obtain ⟨htblu, htstp, hderate, hhot, hshort, hitems, htshe, htptb, hcopy, heeprom, -⟩ := hend
  have hheld0 : t.stp.held0 = y.stp.held0 := by rw [htstp]
  have hheld1 : t.stp.held1 = y.stp.held1 := by rw [htstp]
  have hown' : y.droopBlend.own = axleRecord s.mpt.copy s.nsq.op t.stp.held0 t.stp.held1 s.wau.q s.blu.slip s.blu.limitL := by
    rw [State.droopBlend, hmpt, hnsq, hwau, hblu, hheld0, hheld1]
  have hgd : t.blu.gd = driveDroop s.mpt.copy (linkVoltage sample t.stp.held0) := by
    rw [htblu, hheld0, ← hmpt, ← hown]
    rfl
  have hgr : t.blu.gr = regenDroop s.mpt.copy (linkVoltage sample t.stp.held0) := by
    rw [htblu, hheld0, ← hmpt, ← hown]
    rfl
  have hslip : t.blu.slip = s.blu.slip := by
    rw [htblu, ← hblu]
    rfl
  have hformed : SharesFormed s.blu.ramp s.blu.limitM t.blu s.she (axleRecord s.mpt.copy s.nsq.op t.stp.held0 t.stp.held1 s.wau.q s.blu.slip
      s.blu.limitL) (pLim s.mpt.copy t.stp.held0) (rampBase s.blu.ramp s.blu.limitM s.she.d).1 s.demandLost := by
    rw [htblu, ← hown', ← hblu, ← hshe, ← hlost, ← hmpt, hheld0]
    exact (y.droopBlend.form_formed y.she _ y.demandLost).with_setpoints _ _ _
  refine ⟨t, linkVoltage sample t.stp.held0, (rampBase s.blu.ramp s.blu.limitM s.she.d).1, hexec, ?_,
    fun h i0 i2 i3 w hh hits hacc hres hp => ?_, hslip, ?_, ?_, htshe.trans hshe, htptb.trans hptb,
    hcopy.trans (by rw [hmpt]), heeprom.trans (by rw [hmpt])⟩
  · intro c n nEff lim own
    obtain ⟨hvolts, hnone⟩ := linkVoltage_cases sample t.stp.held0
    obtain ⟨hd1, hd2, hd3⟩ := driveDroop_cases c (linkVoltage sample t.stp.held0)
    obtain ⟨hr1, hr2, hr3⟩ := regenDroop_cases c (linkVoltage sample t.stp.held0)
    obtain ⟨hm1, hm2, hm3, hm4⟩ := rampBase_cases _ _ _ hformed.ramp
    obtain ⟨hf1, hf2, hf3⟩ := hformed.fE_cases
    have hdE := hformed.dE
    have hrE := hformed.rE
    rw [hslip] at hdE hrE
    obtain ⟨he1, he2⟩ := effectiveDrive_cases (rampBase s.blu.ramp s.blu.limitM s.she.d).1 t.blu.gd own.pd lim s.blu.slip
    obtain ⟨hg1, hg2, hg3⟩ := effectiveRegen_cases s.she.r t.blu.gr own.pr lim s.blu.slip s.demandLost
    have htorque : t.blu.torque = torqueSetpoint t.blu.dE t.blu.rE nEff (tMax c) := by
      rw [htblu]
      show torqueSetpoint _ _ (Machine.nEff y.stp.held0) (tMax y.mpt.copy)
        = torqueSetpoint _ _ (Machine.nEff t.stp.held0) (tMax s.mpt.copy)
      rw [hheld0, hmpt]
    obtain ⟨ht1, ht2, ht3, ht4⟩ := torqueSetpoint_cases (n := nEff) (lim := tMax c) (hdE.trans_le (effectiveDrive_le _ _ _ _ _))
      (hrE.trans_le (effectiveRegen_le _ _ _ _ _ _))
    rw [← hgd] at hd1 hd2 hd3
    rw [← hgr] at hr1 hr2 hr3
    rw [← htorque] at ht1 ht2 ht3 ht4
    refine ⟨hvolts, hnone, hd1, hd2, hd3, hr1, hr2, hr3, hm1, hm2, hm3, hm4, fun h => ⟨hdE.trans (he1 h), hrE.trans (hg1 h)⟩,
      fun h => hdE.trans (he2 h), fun h hl => hrE.trans (hg2 h hl), fun hl => ⟨hrE.trans (hg3 hl), hf1 hl⟩, hf2, ?_, ht1, ht2, ht3, ht4,
      ?_, ?_, ?_⟩
    · rw [htstp, htblu]
    · rw [hshort, hshe, Bool.or_eq_true, ← hf3, htblu]
    · rw [hderate, Bool.or_eq_true, decide_eq_true_iff, decide_eq_true_iff, htblu]
      exact Iff.rfl
    · rw [hhot, stageHotHolds_iff, hheld0]
  · have hw := hitems h (hheld0 ▸ hh)
    rw [hwau, hits, hmpt] at hw
    obtain ⟨hres', -, hsum⟩ := WearItem.gather_sum (x := w) (c := s.mpt.copy) (i := 2) (unit := 1800000)
      (inc := regenIncrement h.pAct) (by decide) (by
        have hinc : regenIncrement h.pAct ≤ 1000 := by
          rw [regenIncrement_eq]
          split <;> omega
        have hdiv : (w.residue + regenIncrement h.pAct) / 1800000 < 2 := Nat.div_lt_of_lt_mul (by omega)
        omega)
    exact ⟨_, congrArg Wear.items hw, hres', hsum⟩
  · rw [htblu, ← hblu]
    rfl
  · rw [htstp, ← hslot1]

end
end Sys2Proof.Machine
end

/-! # An AXLE completion with partner 1 (R51 to R53, R57 to R62, R112, R115) -/
section
namespace Sys2Proof.Machine

section
variable {c : Instr} {s t u : State}

/-! ### The slip machine (R60 to R62) -/

/-- The braking slip test of R61. -/
def BrakingSlip (d : Int) (v w : Nat) : Prop := d < 0 ∧ 50 ≤ v ∧ w < v * 88 / 100

/-- The traction slip test of R61. -/
def TractionSlip (d : Int) (v w : Nat) : Prop := 0 < d ∧ v * 112 / 100 + 20 < w

/-- The recovery test of R62. -/
def Recovered (v w : Nat) : Prop := w ≤ v + (v * 4 / 100 + 10) ∧ v ≤ w + (v * 4 / 100 + 10)

theorem brakingSlips_iff {d : Int} {v w : Nat} : brakingSlips d v w = true ↔ BrakingSlip d v w := by
  simp only [brakingSlips, BrakingSlip, Bool.and_eq_true, decide_eq_true_iff, and_assoc]

theorem tractionSlips_iff {d : Int} {v w : Nat} : tractionSlips d v w = true ↔ TractionSlip d v w := by
  simp only [tractionSlips, TractionSlip, Bool.and_eq_true, decide_eq_true_iff]

theorem recovers_iff {v w : Nat} : recovers v w = true ↔ Recovered v w := by
  rw [recovers, Recovered, decide_eq_true_iff]
  omega

theorem BrakingSlip.not_traction {d : Int} {v w : Nat} (h : BrakingSlip d v w) : ¬ TractionSlip d v w :=
  fun k => absurd h.1 (Int.not_lt.mpr (Int.le_of_lt k.1))

theorem slipEntry_cases (slip : SlipState) (d : Int) (v w : Nat) :
    (slip.slipping = true → slipEntry slip d v w = none)
    ∧ (slip.slipping = false → BrakingSlip d v w → slipEntry slip d v w = some .braking)
    ∧ (slip.slipping = false → TractionSlip d v w → slipEntry slip d v w = some .traction)
    ∧ (¬ BrakingSlip d v w → ¬ TractionSlip d v w → slipEntry slip d v w = none) := by
  unfold slipEntry
  refine ⟨fun h => if_pos h, fun h hb => ?_, fun h ht => ?_, fun hb ht => ?_⟩
  · rw [if_neg (by rw [h]; decide), if_pos (brakingSlips_iff.mpr hb)]
  · rw [if_neg (by rw [h]; decide), if_neg fun hb => (brakingSlips_iff.mp hb).not_traction ht,
      if_pos (tractionSlips_iff.mpr ht)]
  · rw [if_neg fun h => hb (brakingSlips_iff.mp h), if_neg fun h => ht (tractionSlips_iff.mp h), ite_self]

theorem BlendUnit.evaluateSlip_of_entry {b : BlendUnit} {d : Int} {v w : Nat} {k : SlipKind} (h : slipEntry b.slip d v w = some k) :
    b.evaluateSlip d v w = { b with slip := .slip k, slipHold := Timer.stopped, limitL := 0 } := by
  rw [BlendUnit.evaluateSlip, h]
  rfl

theorem BlendUnit.evaluateSlip_of_steady {b : BlendUnit} {d : Int} {v w : Nat} (h : slipEntry b.slip d v w = none)
    (hs : b.slip.slipping = false) : b.evaluateSlip d v w = b := by
  rw [BlendUnit.evaluateSlip, h]
  exact if_neg (by rw [hs]; decide)

theorem BlendUnit.evaluateSlip_of_slipping {b : BlendUnit} {d : Int} {v w : Nat} (hs : b.slip.slipping = true) :
    (b.evaluateSlip d v w).slip = b.slip ∧ (b.evaluateSlip d v w).limitL = b.limitL
    ∧ (Recovered v w → b.slipHold.running = false → (b.evaluateSlip d v w).slipHold = ⟨true, 0⟩)
    ∧ (Recovered v w → b.slipHold.running = true → (b.evaluateSlip d v w).slipHold = b.slipHold)
    ∧ (¬ Recovered v w → (b.evaluateSlip d v w).slipHold = ⟨false, 0⟩) := by
  have heval : b.evaluateSlip d v w = if recovers v w then (if b.slipHold.running then b else { b with slipHold := Timer.started })
      else { b with slipHold := Timer.stopped } := by
    rw [BlendUnit.evaluateSlip, (slipEntry_cases b.slip d v w).1 hs]
    exact if_pos hs
  rw [heval]
  refine ⟨by split_ifs <;> rfl, by split_ifs <;> rfl, fun h hr => ?_, fun h hr => ?_, fun h => ?_⟩
  · rw [if_pos (recovers_iff.mpr h), if_neg (by rw [hr]; decide)]
    rfl
  · rw [if_pos (recovers_iff.mpr h), if_pos hr]
  · rw [if_neg fun h' => h (recovers_iff.mp h')]
    rfl

/-! ### The evaluation's own event (R61) -/

theorem State.evaluateSlip_of_none (h : ∀ nib p l r f, s.stp.held1 ≠ some ⟨nib, .modulator p l r f⟩) : s.evaluateSlip = s := by
  unfold State.evaluateSlip
  split
  · next hh => exact absurd hh (h _ _ _ _ _)
  · rfl

theorem State.evaluateSlip_of_modulator {nib : BitVec 4} {p l r : Nat} {f : Bool}
    (h : s.stp.held1 = some ⟨nib, .modulator p l r f⟩) : s.evaluateSlip =
      if (slipEntry s.blu.slip s.given.d s.given.v (wheelSpeed l r)).isSome
      then ((s.setBlu (s.blu.evaluateSlip s.given.d s.given.v (wheelSpeed l r))).addUnits 3 1).requestPrompt
      else s.setBlu (s.blu.evaluateSlip s.given.d s.given.v (wheelSpeed l r)) := by
  unfold State.evaluateSlip
  simp only [h]

/-- The wear block with an episode counted in its third item (R61). -/
def Wear.countEpisode (w : Wear) (copy : List Word) : Wear :=
  { w with items := setItem w.items 3 ((itemAt w.items 3).add copy 3 1) }

theorem State.evaluateSlip_entered {nib : BitVec 4} {p l r : Nat} {f : Bool} (h : s.stp.held1 = some ⟨nib, .modulator p l r f⟩)
    {k : SlipKind} (hk : slipEntry s.blu.slip s.given.d s.given.v (wheelSpeed l r) = some k) :
    s.evaluateSlip.blu = { s.blu with slip := .slip k, slipHold := Timer.stopped, limitL := 0 }
    ∧ s.evaluateSlip.wau = s.wau.countEpisode s.mpt.copy
    ∧ s.evaluateSlip.sli = { s.sli with state := s.sli.state.promptRequest } := by
  rw [State.evaluateSlip_of_modulator h, if_pos (by rw [hk]; rfl), BlendUnit.evaluateSlip_of_entry hk]
  generalize ({ s.blu with slip := .slip k, slipHold := Timer.stopped, limitL := 0 } : BlendUnit) = b
  obtain ⟨hwau, hkept⟩ := State.putItem_of_ne (s.setBlu b) (i := 3) (by decide) ((itemAt s.wau.items 3).add s.mpt.copy 3 1)
  refine ⟨hkept .blu (by decide), hwau, ?_⟩
  show ({ ((s.setBlu b).addUnits 3 1).sli with state := _ } : LineUnit) = _
  rw [show ((s.setBlu b).addUnits 3 1).sli = s.sli from hkept .sli (by decide)]

theorem State.evaluateSlip_steady {nib : BitVec 4} {p l r : Nat} {f : Bool} (h : s.stp.held1 = some ⟨nib, .modulator p l r f⟩)
    (hk : slipEntry s.blu.slip s.given.d s.given.v (wheelSpeed l r) = none) :
    s.evaluateSlip.blu = s.blu.evaluateSlip s.given.d s.given.v (wheelSpeed l r) ∧ s.evaluateSlip.wau = s.wau
    ∧ s.evaluateSlip.sli = s.sli := by
  rw [State.evaluateSlip_of_modulator h, if_neg (by rw [hk]; decide)]
  exact ⟨rfl, rfl, rfl⟩

theorem State.evaluateSlip_blu (s : State) : s.evaluateSlip.blu = { s.blu with
    slip := s.evaluateSlip.blu.slip, limitL := s.evaluateSlip.blu.limitL, slipHold := s.evaluateSlip.blu.slipHold } := by
  by_cases hm : ∃ nib p l r f, s.stp.held1 = some ⟨nib, .modulator p l r f⟩
  · obtain ⟨nib, p, l, r, f, h⟩ := hm
    cases hk : slipEntry s.blu.slip s.given.d s.given.v (wheelSpeed l r) with
    | some k => rw [(State.evaluateSlip_entered h hk).1]
    | none =>
      rw [(State.evaluateSlip_steady h hk).1]
      exact BlendUnit.evaluateSlip_eq _ _ _ _
  · rw [State.evaluateSlip_of_none fun nib p l r f h => hm ⟨nib, p, l, r, f, h⟩]

theorem State.evaluateSlip_status (s : State) {y : Status} (h1 : y ≠ .wearNear) (h2 : y ≠ .wearDue) :
    s.evaluateSlip.status y = s.status y := by
  unfold State.evaluateSlip
  split
  · dsimp only
    split
    · exact (State.setBlu _ _).putItem_status 3 _ h1 h2
    · rfl
  · rfl

/-- An episode leaves the pad weight. -/
theorem State.evaluateSlip_q (s : State) : s.evaluateSlip.wau.q = s.wau.q := by
  by_cases hm : ∃ nib p l r f, s.stp.held1 = some ⟨nib, .modulator p l r f⟩
  · obtain ⟨nib, p, l, r, f, h⟩ := hm
    cases hk : slipEntry s.blu.slip s.given.d s.given.v (wheelSpeed l r) with
    | some k =>
      rw [(State.evaluateSlip_entered h hk).2.1]
      rfl
    | none => rw [(State.evaluateSlip_steady h hk).2.1]
  · rw [State.evaluateSlip_of_none fun nib p l r f h => hm ⟨nib, p, l, r, f, h⟩]

/-! ### The pad energy and the hard applications (R112, R115) -/

/-- The wear block after a completion's pad energy and its test of a hard application. -/
def Wear.gatherPads (w : Wear) (role : Option Role) (copy : List Word) (pFb inc : Nat) : Wear :=
  let x := (itemAt w.items 1).gather copy 1 1000000 inc
  let w1 : Wear := if x.acc ≠ (itemAt w.items 1).acc then { w with items := setItem w.items 1 x }.derive role copy
    else { w with items := setItem w.items 1 x }
  let h := hardApplication w.armA4 pFb
  { w1 with
    armA4 := h.2
    items := if h.1 then setItem w1.items 4 ((itemAt w1.items 4).add copy 4 1) else w1.items }

theorem Wear.derive_armA4 (w : Wear) (role : Option Role) (copy : List Word) : (w.derive role copy).armA4 = w.armA4 := by
  unfold Wear.derive
  split <;> rfl

theorem State.gatherPads_wau (hr : s.role = some .axle) {nib : BitVec 4} {p l r : Nat} {f : Bool}
    (h : s.stp.held1 = some ⟨nib, .modulator p l r f⟩) :
    s.gatherPads.wau = s.wau.gatherPads s.role s.mpt.copy p (padIncrement p (brakeGain s.mpt.copy) s.given.v) := by
  let x := (itemAt s.wau.items 1).gather s.mpt.copy 1 1000000 (padIncrement p (brakeGain s.mpt.copy) s.given.v)
  obtain ⟨hkept, -⟩ := State.putItem_of_axle hr 1 x
  have hmpt : (s.putItem 1 x).mpt = s.mpt := hkept .mpt (by decide)
  have hwau : (s.putItem 1 x).wau = if x.acc ≠ (itemAt s.wau.items 1).acc
      then { s.wau with items := setItem s.wau.items 1 x }.derive s.role s.mpt.copy
      else { s.wau with items := setItem s.wau.items 1 x } := by
    rw [State.putItem_wau]
    simp only [true_and]
  have harm : (s.putItem 1 x).wau.armA4 = s.wau.armA4 := by
    rw [hwau]
    split
    · exact Wear.derive_armA4 _ _ _
    · rfl
  have hgather : s.gatherPads = (let t := s.putItem 1 x
      let h := hardApplication t.wau.armA4 p
      let t := t.setWau { t.wau with armA4 := h.2 }
      if h.1 then t.addUnits 4 1 else t) := by
    unfold State.gatherPads
    simp only [h]
    rfl
  rw [hgather, Wear.gatherPads]
  dsimp only
  rw [← hwau, harm]
  generalize s.putItem 1 x = t at hmpt
  split
  · rw [State.addUnits, (State.putItem_of_ne _ (by decide) _).1]
    show ({ t.wau with armA4 := _, items := setItem t.wau.items 4 ((itemAt t.wau.items 4).add t.mpt.copy 4 1) } : Wear) = _
    rw [hmpt]
    rfl
  · rfl

theorem State.gatherPads_of_none (h : ∀ nib p l r f, s.stp.held1 ≠ some ⟨nib, .modulator p l r f⟩) : s.gatherPads = s := by
  unfold State.gatherPads
  split
  · next hh => exact absurd hh (h _ _ _ _ _)
  · rfl

theorem State.gatherPads_status (s : State) {y : Status} (h1 : y ≠ .wearNear) (h2 : y ≠ .wearDue) :
    s.gatherPads.status y = s.status y := by
  unfold State.gatherPads
  split
  · dsimp only
    split
    · exact ((State.setWau _ _).putItem_status 4 _ h1 h2).trans (s.putItem_status 1 _ h1 h2)
    · exact s.putItem_status 1 _ h1 h2
  · rfl

theorem State.gatherPads_blu (s : State) : s.gatherPads.blu = { s.blu with own := s.gatherPads.blu.own } := by
  unfold State.gatherPads
  split
  · dsimp only
    split
    · rw [State.addUnits, State.putItem_blu]
      show ({ (s.gather 1 _ _).blu with own := _ } : BlendUnit) = _
      rw [State.gather, State.putItem_blu]
    · exact s.putItem_blu 1 _
  · rfl

/-! ### The completion as a whole -/

/-- The own record from which a completion with partner 1 forms its shares. -/
def State.own1 (s : State) : AxleRecord :=
  axleRecord s.mpt.copy s.nsq.op s.stp.held0 s.stp.held1 s.wau.q s.evaluateSlip.blu.slip s.evaluateSlip.blu.limitL

/-- The block with the effective shares of a completion with partner 1. -/
def State.sharedBlend1 (s : State) : BlendUnit :=
  ({ s.evaluateSlip.blu with own := s.own1 }).form s.she (pLim s.mpt.copy s.stp.held0) s.demandLost

theorem State.formPressure_frame (s : State) : KeptBut s s.formPressure [.blu, .stp]
    ∧ s.formPressure.blu = { s.blu with
        pressure := pressureSetpoint s.mpt.copy s.blu.fE s.given.v s.given.hold s.demandLost }
    ∧ s.formPressure.stp = { s.stp with slot1 := some (.pressure s.formPressure.blu.pressure) }
    ∧ ∀ y, s.formPressure.status y = s.status y :=
  ⟨((KeptBut.refl _ _).setBlu (by decide) _).setStp (by decide) _, rfl, rfl, fun _ => rfl⟩

theorem State.given_of_eq (hptb : t.ptb = s.ptb) (hlost : t.demandLost = s.demandLost) : t.given = s.given := by
  rw [State.given, State.given, hptb, hlost]

theorem State.axleFormed1_blu (hr : s.role = some .axle) : s.axleFormed1.blu = { s.sharedBlend1 with
    pressure := pressureSetpoint s.mpt.copy s.sharedBlend1.fE s.given.v s.given.hold s.demandLost }
    ∧ s.axleFormed1.wau = s.evaluateSlip.wau ∧ s.axleFormed1.sli = s.evaluateSlip.sli
    ∧ s.axleFormed1.stp = { s.stp with slot1 := some (.pressure s.axleFormed1.blu.pressure) }
    ∧ s.axleFormed1.status .shortBrake = (s.she.shortBrake || s.sharedBlend1.clampBinds)
    ∧ s.axleFormed1.demandLost = s.demandLost := by
  let e := s.evaluateSlip
  have he := s.evaluateSlip_kept
  have hrole : e.role = some .axle := (he.role_eq (by decide)).trans hr
  have hmpt : e.mpt = s.mpt := he .mpt (by decide)
  have hnsq : e.nsq = s.nsq := he .nsq (by decide)
  have hstp : e.stp = s.stp := he .stp (by decide)
  have hshe : e.she = s.she := he .she (by decide)
  have hlost : e.demandLost = s.demandLost := s.evaluateSlip_status (by decide) (by decide)
  have hgiven : e.given = s.given := State.given_of_eq (he .ptb (by decide)) hlost
  have hq : e.wau.q = s.wau.q := s.evaluateSlip_q
  have hform : s.axleFormed1 = (e.setBlu { e.blu with own := s.own1 }).formShares.formPressure := by
    rw [State.axleFormed1, State.reformOwn_of_axle hrole]
    rw [State.own1, ← hmpt, ← hnsq, ← hstp, ← hq]
  let y := e.setBlu { e.blu with own := s.own1 }
  obtain ⟨hshares, hblu⟩ := y.formShares_frame
  obtain ⟨hshort, hstatus⟩ := y.formShares_status
  have hblend : y.formShares.blu = s.sharedBlend1 := by
    rw [hblu, State.sharedBlend1, ← hshe, ← hmpt, ← hstp, ← hlost]
    rfl
  have hylost : y.formShares.demandLost = s.demandLost := (hstatus .demandLost (by decide)).trans hlost
  have hygiven : y.formShares.given = s.given :=
    (State.given_of_eq (hshares .ptb (by decide)) (hstatus .demandLost (by decide))).trans hgiven
  have hympt : y.formShares.mpt = s.mpt := (hshares .mpt (by decide)).trans hmpt
  have hystp : y.formShares.stp = s.stp := (hshares .stp (by decide)).trans hstp
  have hywau : y.formShares.wau = e.wau := hshares .wau (by decide)
  have hysli : y.formShares.sli = e.sli := hshares .sli (by decide)
  have hyshe : y.she = s.she := hshe
  rw [hform]
  show y.formShares.formPressure.blu = _ ∧ y.formShares.formPressure.wau = _ ∧ y.formShares.formPressure.sli = _
    ∧ y.formShares.formPressure.stp = _ ∧ y.formShares.formPressure.status _ = _ ∧ y.formShares.formPressure.status _ = _
  rw [hblend, hyshe] at hshort
  generalize y.formShares = z at hblend hylost hygiven hympt hystp hywau hysli hshort
  obtain ⟨hp, hpblu, hpstp, hpstatus⟩ := z.formPressure_frame
  rw [hblend, hylost, hygiven, hympt] at hpblu
  rw [hystp] at hpstp
  exact ⟨hpblu, (hp .wau (by decide)).trans hywau, (hp .sli (by decide)).trans hysli, hpstp,
    (hpstatus _).trans hshort, (hpstatus _).trans hylost⟩

/-- What a completion with partner 1 has made when its event ends. -/
structure AxleCompleted1 (s t : State) : Prop where
  shares : SharesFormed s.blu.ramp s.blu.limitM t.blu s.she s.own1 (pLim s.mpt.copy s.stp.held0)
    (rampBase s.blu.ramp s.blu.limitM s.she.d).1 s.demandLost
  slip : t.blu.slip = s.evaluateSlip.blu.slip
  limitL : t.blu.limitL = s.evaluateSlip.blu.limitL
  slipHold : t.blu.slipHold = s.evaluateSlip.blu.slipHold
  gd : t.blu.gd = s.blu.gd
  gr : t.blu.gr = s.blu.gr
  torque : t.blu.torque = s.blu.torque
  pressure : t.blu.pressure = pressureSetpoint s.mpt.copy t.blu.fE s.given.v s.given.hold s.demandLost
  stp : t.stp = { s.stp with slot1 := some (.pressure t.blu.pressure) }
  shortBrake : t.status .shortBrake = (s.she.shortBrake || t.blu.clampBinds)
  sli : PromptAtMost s.evaluateSlip.sli t.sli
  padded : ∀ nib p l r f, s.stp.held1 = some ⟨nib, .modulator p l r f⟩ → t.wau = s.evaluateSlip.wau.gatherPads s.role s.mpt.copy p
    (padIncrement p (brakeGain s.mpt.copy) s.given.v)
  unpadded : (∀ nib p l r f, s.stp.held1 ≠ some ⟨nib, .modulator p l r f⟩) → t.wau = s.evaluateSlip.wau
  she : t.she = s.she
  ptb : t.ptb = s.ptb
  copy : t.mpt.copy = s.mpt.copy
  eeprom : t.mpt.eeprom = s.mpt.eeprom
  demandLost : t.demandLost = s.demandLost

/-- The wear block at the end of a completion, as the formation before it finds it. -/
theorem State.axleFormed1_padded (hr : s.role = some .axle) {nib : BitVec 4} {p l r : Nat} {f : Bool}
    (h : s.stp.held1 = some ⟨nib, .modulator p l r f⟩) : s.axleFormed1.gatherPads.wau
      = s.evaluateSlip.wau.gatherPads s.role s.mpt.copy p (padIncrement p (brakeGain s.mpt.copy) s.given.v) := by
  obtain ⟨-, hwau, -, hstp, -, hlost⟩ := State.axleFormed1_blu hr
  have hkept := State.axleFormed1_kept hr
  have hmpt : s.axleFormed1.mpt = s.mpt := hkept .mpt (by decide)
  have hrole : s.axleFormed1.role = s.role := hkept.role_eq (by decide)
  have hgiven : s.axleFormed1.given = s.given := State.given_of_eq (hkept .ptb (by decide)) hlost
  rw [State.gatherPads_wau (hrole.trans hr) (by rw [hstp]; exact h), hwau, hmpt, hrole, hgiven]

theorem State.axleCompletes1_settled (hr : s.role = some .axle) : AxleCompleted1 s s.axleCompletes1.settle := by
  show AxleCompleted1 s s.axleFormed1.gatherPads.settle
  obtain ⟨hblu, hwau, hsli, hstp, hshort, hlost⟩ := State.axleFormed1_blu hr
  have hkept := State.axleFormed1_kept hr
  have hmpt : s.axleFormed1.mpt = s.mpt := hkept .mpt (by decide)
  have hpadded := fun nib p l r f h => State.axleFormed1_padded (nib := nib) (p := p) (l := l) (r := r) (f := f) hr h
  have hunpadded : (∀ nib p l r f, s.stp.held1 ≠ some ⟨nib, .modulator p l r f⟩) → s.axleFormed1.gatherPads.wau = s.evaluateSlip.wau :=
    fun h => by rw [State.gatherPads_of_none (by rw [hstp]; exact h), hwau]
  have hz := (State.gatherPads_of_axle (s := s.axleFormed1) ((hkept.role_eq (by decide)).trans hr)).1
  have hzblu := s.axleFormed1.gatherPads_blu
  have hzst := fun v => State.gatherPads_status s.axleFormed1 (y := v)
  generalize s.axleFormed1.gatherPads = z at hpadded hunpadded hz hzblu hzst
  have hzrole : z.role = some .axle := (hz.role_eq (by decide)).trans ((hkept.role_eq (by decide)).trans hr)
  have hfollows : Follows z z.settle := .of_axle hzrole
  have hzstp : z.stp = s.axleFormed1.stp := hz .stp (by decide)
  have hzmpt : z.mpt = s.axleFormed1.mpt := hz .mpt (by decide)
  have hzsli : z.sli = s.axleFormed1.sli := hz .sli (by decide)
  have htblu : z.settle.blu = { s.axleFormed1.blu with own := z.settle.blu.own } := by
    rw [hfollows.blu, hzblu]
  have hpress : z.settle.blu.pressure = s.axleFormed1.blu.pressure := by rw [htblu]
  rw [hblu] at htblu
  have hslipblu := s.evaluateSlip_blu
  refine ⟨?_, ?_, ?_, ?_, ?_, ?_, ?_, ?_, ?_, ?_, ?_, fun nib p l r f h => ?_, fun h => ?_, ?_, ?_, ?_, ?_, ?_⟩
  · rw [htblu]
    have hram : s.evaluateSlip.blu.ramp = s.blu.ramp := by rw [hslipblu]
    have hlim : s.evaluateSlip.blu.limitM = s.blu.limitM := by rw [hslipblu]
    rw [← hram, ← hlim]
    exact (({ s.evaluateSlip.blu with own := s.own1 } : BlendUnit).form_formed s.she _ s.demandLost).with_setpoints _ _ _
  · rw [htblu]
    rfl
  · rw [htblu]
    rfl
  · rw [htblu]
    rfl
  · rw [htblu]
    show s.evaluateSlip.blu.gd = _
    rw [hslipblu]
  · rw [htblu]
    show s.evaluateSlip.blu.gr = _
    rw [hslipblu]
  · rw [htblu]
    show s.evaluateSlip.blu.torque = _
    rw [hslipblu]
  · rw [htblu]
  · rw [(hfollows.engine (by rw [hzrole]; decide)).1, hzstp, hpress, hstp]
  · rw [hfollows.status, hzst _ (by decide) (by decide), hshort, htblu]
  · rw [← hsli, ← hzsli]
    exact hfollows.sli
  · rw [hfollows.wau]
    exact hpadded nib p l r f h
  · rw [hfollows.wau]
    exact hunpadded h
  · rw [hfollows.she]
    exact (hz .she (by decide)).trans (hkept .she (by decide))
  · rw [hfollows.ptb]
    exact (hz .ptb (by decide)).trans (hkept .ptb (by decide))
  · rw [hfollows.copy, hzmpt, hmpt]
  · rw [hfollows.eeprom, hzmpt, hmpt]
  · rw [hfollows.demandLost]
    exact (hzst _ (by decide) (by decide)).trans hlost

theorem State.roleCompletes1_axle (s : State) (good : Bool) : s.roleCompletes1 .axle good = s.axleCompletes1 := rfl

/-- A completion with partner 1 is that of the judged state. -/
theorem exec_axle1 {out : List Byte} {sample : OwnReading} (record : List Byte) (hserves : s.serves = true)
    (hr : s.role = some .axle) (hin : s.stp.inFlight = some ⟨.p1, out, sample⟩) :
    ∃ y t, exec (.exchangeCompletion record) s = .next t ∧ Judged s y ∧ AxleCompleted1 y t := by
  let x := s.setStp { s.stp with inFlight := none }
  have hj : Judged s (x.judge1 .axle record) := (Judged.setStp s { s.stp with inFlight := none } rfl rfl).trans (.judge1 x .axle record)
  refine ⟨_, _, ?_, hj, State.axleCompletes1_settled (hj.role.trans hr)⟩
  rw [exec_completion1 record hserves hr hin, State.roleCompletes1_axle]

end
end Sys2Proof.Machine
end

/-! # The AXLE role's two completions (R51 to R54, R57 to R62, R112, R115) -/
section
namespace Sys2Proof.Machine

section
variable {c : Instr} {s t u : State}

/-! ### The pressure setpoint (R57, R58) -/

theorem pressureSetpoint_cases (copy : List Word) (fE v : Nat) (hold lost : Bool) :
    (lost = true → pressureSetpoint copy fE v hold lost = 0)
    ∧ (lost = false → 1 ≤ brakeGain copy → pressureSetpoint copy fE v hold lost =
        if hold = true ∧ v < 10
        then max (min ((fE * 36000 + max v 36 * brakeGain copy / 2) / (max v 36 * brakeGain copy)) (pMax copy)) (pHold copy)
        else min ((fE * 36000 + max v 36 * brakeGain copy / 2) / (max v 36 * brakeGain copy)) (pMax copy)) := by
  unfold pressureSetpoint
  refine ⟨fun h => if_pos h, fun h hg => ?_⟩
  have hdiv : max v 36 * brakeGain copy ≠ 0 := Nat.mul_ne_zero (by omega) (by omega)
  have hraw : rawPressure fE v (brakeGain copy)
      = (fE * 36000 + max v 36 * brakeGain copy / 2) / (max v 36 * brakeGain copy) := if_neg hdiv
  rw [if_neg (by rw [h]; decide), hraw]
  simp only [Bool.and_eq_true, decide_eq_true_iff]

/-- Without friction the pressure is the hold pressure, or none. -/
theorem pressureSetpoint_zero {copy : List Word} (v : Nat) (hold : Bool) (hg : 1 ≤ brakeGain copy) :
    pressureSetpoint copy 0 v hold false = if hold = true ∧ v < 10 then pHold copy else 0 := by
  have hraw : (0 * 36000 + max v 36 * brakeGain copy / 2) / (max v 36 * brakeGain copy) = 0 := by
    have hpos : 0 < max v 36 * brakeGain copy := Nat.mul_pos (by omega) (by omega)
    exact Nat.div_eq_of_lt (by omega)
  rw [(pressureSetpoint_cases copy 0 v hold false).2 rfl hg, hraw, Nat.zero_min, Nat.zero_max]

/-! ### The pads' items (R112, R115, R123) -/

theorem hardApplication_cases (armed : Bool) (p : Nat) :
    (600 < p → armed = true → hardApplication armed p = (true, false))
    ∧ (600 < p → armed = false → hardApplication armed p = (false, false))
    ∧ (p < 500 → hardApplication armed p = (false, true))
    ∧ (500 ≤ p → p ≤ 600 → hardApplication armed p = (false, armed)) := by
  unfold hardApplication
  refine ⟨fun h ha => ?_, fun h ha => ?_, fun h => ?_, fun h h' => ?_⟩
  · rw [if_pos (by rw [ha, decide_eq_true h]; rfl)]
  · rw [if_neg (by rw [ha, Bool.and_false]; decide), if_neg (by omega), ha]
  · rw [if_neg (by rw [decide_eq_false (by omega), Bool.false_and]; decide), if_pos h]
  · rw [if_neg (by rw [decide_eq_false (by omega), Bool.false_and]; decide), if_neg (by omega)]

theorem Wear.gatherPads_eq {w : Wear} {copy : List Word} {p inc : Nat} {x i1 a3 a4 : WearItem} (h : w.items = [x, i1, a3, a4]) :
    (w.gatherPads (some .axle) copy p inc).items = [x.gather copy 1 1000000 inc, i1, a3,
      if (hardApplication w.armA4 p).1 then a4.add copy 4 1 else a4]
    ∧ (w.gatherPads (some .axle) copy p inc).armA4 = (hardApplication w.armA4 p).2
    ∧ ((x.gather copy 1 1000000 inc).acc ≠ x.acc →
        (w.gatherPads (some .axle) copy p inc).q = padWeight copy (x.gather copy 1 1000000 inc).acc) := by
  have hx : itemAt w.items 1 = x := by rw [h]; rfl
  have hset : setItem w.items 1 (x.gather copy 1 1000000 inc) = [x.gather copy 1 1000000 inc, i1, a3, a4] := by rw [h]; rfl
  unfold Wear.gatherPads
  dsimp only
  rw [hx, hset]
  generalize x.gather copy 1 1000000 inc = x'
  refine ⟨?_, rfl, fun hne => ?_⟩
  · have hitems : (if x'.acc ≠ x.acc then ({ w with items := [x', i1, a3, a4] } : Wear).derive (some .axle) copy
        else { w with items := [x', i1, a3, a4] }).items = [x', i1, a3, a4] := by
      split <;> rfl
    rw [hitems]
    split <;> rfl
  · rw [if_pos hne]
    rfl

theorem padWeight_eq {copy : List Word} (n : Nat) (h : 1 ≤ dueOf copy 1) : padWeight copy n = max 20 (100 - 80 * n / dueOf copy 1) := by
  rw [padWeight, quotient, if_neg (by omega)]

theorem padIncrement_le {p g v : Nat} (hp : p ≤ 1000) (hg : g ≤ 400) (hv : v ≤ 1200) : padIncrement p g v ≤ 26666666 := by
  have hmul : p * g * v ≤ 1000 * 400 * 1200 := Nat.mul_le_mul (Nat.mul_le_mul hp hg) hv
  unfold padIncrement
  omega

theorem WearItem.add_one {x : WearItem} (copy : List Word) (i : Nat) (h : x.acc < accMax) : (x.add copy i 1).acc = x.acc + 1 := by
  rw [WearItem.add_acc]
  omega

theorem Wear.countEpisode_items {w : Wear} {copy : List Word} {x i1 a3 a4 : WearItem} (h : w.items = [x, i1, a3, a4]) :
    (w.countEpisode copy).items = [x, i1, a3.add copy 3 1, a4] := by
  show setItem w.items 3 ((itemAt w.items 3).add copy 3 1) = _
  rw [h]
  rfl

/-! ### A prompt STATE asked for (R61, R150) -/

/-- The STATE place holds a prompt STATE. -/
def StatePlace.Prompted (p : StatePlace) : Prop :=
  p.condition ≠ .empty ∧ (p.condition = .queued → p.urgency = 1) ∧ (p.condition = .inFlight → p.followOn = true)

theorem StatePlace.prompted (p : StatePlace) : p.promptRequest.Prompted := by
  unfold StatePlace.promptRequest
  split
  · exact ⟨nofun, fun _ => rfl, nofun⟩
  · next h => exact ⟨by rw [h]; nofun, fun _ => rfl, fun h' => absurd (h.symm.trans h') nofun⟩
  · next h => exact ⟨by rw [h]; nofun, fun h' => absurd (h.symm.trans h') nofun, fun _ => rfl⟩

theorem PromptAtMost.prompted {l r : LineUnit} (h : PromptAtMost l r) {p : StatePlace} (hl : l.state = p.promptRequest) :
    r.state.Prompted := by
  rcases h with h | h <;> rw [h]
  · rw [hl]
    exact p.prompted
  · exact StatePlace.prompted _

/-! ### The law of R54 -/

theorem effectiveRegen_le_share (r : Nat) {gr : Nat} (hg : gr ≤ 100) (pr lim : Nat) (slip : SlipState) (lost : Bool) :
    effectiveRegen r gr pr lim slip lost ≤ r := by
  unfold effectiveRegen
  split
  · exact Nat.zero_le _
  · refine ((Nat.min_le_left _ _).trans (Nat.min_le_left _ _)).trans (Nat.div_le_of_le_mul ?_)
    rw [Nat.mul_comm 100]
    exact Nat.mul_le_mul_left _ hg

theorem SharesFormed.braking_whole {mode : RampMode} {m : Nat} {b : BlendUnit} {share : ShareRecord} {own : AxleRecord}
    {lim base : Nat} {lost : Bool} (h : SharesFormed mode m b share own lim base lost) (hg : b.gr ≤ 100)
    (hclamp : b.clampBinds = false) (hlost : lost = false) : b.rE + b.fE = share.r + share.f := by
  obtain ⟨-, hf, hc⟩ := h.fE_cases
  have hle : ¬ own.fb < share.f + (share.r - b.rE) := fun h' => by
    rw [hc.mpr ⟨hlost, h'⟩] at hclamp
    cases hclamp
  have hr : b.rE ≤ share.r := h.rE.trans_le (effectiveRegen_le_share _ hg _ _ _ _)
  rw [hf hlost, Nat.min_eq_left (by omega)]
  omega

/-- Settles O40: the friction takes what the regeneration leaves, but where the clamp binds. -/
theorem effectiveBrakingIsTheBrakingShare : Obligations.EffectiveBrakingIsTheBrakingShare := by
  unfold Obligations.EffectiveBrakingIsTheBrakingShare
  intro s e record hserves hr hin hfactor
  obtain ⟨p, out, sample⟩ := e
  cases p with
  | p0 =>
    obtain ⟨y, t, hexec, hj, -, hend⟩ := exec_axle0 record hserves hr hin
    obtain ⟨htblu, -, -, -, hshort, -, htshe, -, -, -, hdl⟩ := hend
    refine ⟨t, hexec, fun hs hl => ?_⟩
    rw [hshort, Bool.or_eq_false_iff] at hs
    rw [htblu, htshe]
    exact (y.droopBlend.form_formed y.she _ y.demandLost).braking_whole (regenDroop_le _ _) hs.2 (hdl.symm.trans hl)
  | p1 =>
    obtain ⟨y, t, hexec, hj, hend⟩ := exec_axle1 record hserves hr hin
    have hs' := hend.shortBrake
    refine ⟨t, hexec, fun hs hl => ?_⟩
    rw [hs', Bool.or_eq_false_iff] at hs
    rw [hend.she]
    refine hend.shares.braking_whole ?_ hs.2 (hend.demandLost.symm.trans hl)
    rw [hend.gr, hj.kept .blu (by decide)]
    exact hfactor.2

/-! ### A completion with partner 1 -/

theorem SharesFormed.braking_cases {mode : RampMode} {m : Nat} {b : BlendUnit} {share : ShareRecord} {own : AxleRecord}
    {lim base : Nat} {lost : Bool} (h : SharesFormed mode m b share own lim base lost) :
    (b.slip.slipping = true → b.dE = 0 ∧ b.rE = 0)
    ∧ (b.slip.slipping = false → b.dE = min (min (base * b.gd / 100) own.pd) lim)
    ∧ (b.slip.slipping = false → lost = false → b.rE = min (min (share.r * b.gr / 100) own.pr) lim)
    ∧ (lost = true → b.rE = 0) := by
  obtain ⟨hd1, hd2⟩ := effectiveDrive_cases base b.gd own.pd lim b.slip
  obtain ⟨hr1, hr2, hr3⟩ := effectiveRegen_cases share.r b.gr own.pr lim b.slip lost
  exact ⟨fun hs => ⟨h.dE.trans (hd1 hs), h.rE.trans (hr1 hs)⟩, fun hs => h.dE.trans (hd2 hs),
    fun hs hl => h.rE.trans (hr2 hs hl), fun hl => h.rE.trans (hr3 hl)⟩

/-- What an evaluation with a held modulator record leaves of the wear items: an entry counts an episode in the third. -/
theorem State.evaluateSlip_items {nib : BitVec 4} {p l r : Nat} {f : Bool} (h : s.stp.held1 = some ⟨nib, .modulator p l r f⟩)
    {x i1 a3 a4 : WearItem} (hitems : s.wau.items = [x, i1, a3, a4]) (ha3 : a3.acc < accMax) :
    ∃ a3' : WearItem, s.evaluateSlip.wau.items = [x, i1, a3', a4] ∧ s.evaluateSlip.wau.armA4 = s.wau.armA4
      ∧ (∀ k, slipEntry s.blu.slip s.given.d s.given.v (wheelSpeed l r) = some k → a3'.acc = a3.acc + 1)
      ∧ (slipEntry s.blu.slip s.given.d s.given.v (wheelSpeed l r) = none → a3' = a3) := by
  cases hk : slipEntry s.blu.slip s.given.d s.given.v (wheelSpeed l r) with
  | some k =>
    obtain ⟨-, hwau, -⟩ := State.evaluateSlip_entered h hk
    rw [hwau]
    exact ⟨_, Wear.countEpisode_items hitems, rfl, fun _ _ => WearItem.add_one _ _ ha3, nofun⟩
  | none =>
    obtain ⟨-, hwau, -⟩ := State.evaluateSlip_steady h hk
    rw [hwau]
    exact ⟨a3, hitems, rfl, nofun, fun _ => rfl⟩

/-- The pads' part of a completion on a table whose items are below their range (R112, R115, R123). -/
theorem Wear.gatherPads_law {w : Wear} {copy : List Word} {p inc : Nat} {x i1 a3 a4 : WearItem} (h : w.items = [x, i1, a3, a4])
    (hx : x.acc + 27 < accMax) (hres : x.residue < 1000000) (ha4 : a4.acc < accMax) (hinc : inc ≤ 26666666) :
    ∃ x' a4' : WearItem, (w.gatherPads (some .axle) copy p inc).items = [x', i1, a3, a4'] ∧ x'.residue < 1000000
      ∧ x'.acc * 1000000 + x'.residue = x.acc * 1000000 + x.residue + inc
      ∧ (600 < p → w.armA4 = true → a4'.acc = a4.acc + 1 ∧ (w.gatherPads (some .axle) copy p inc).armA4 = false)
      ∧ (600 < p → w.armA4 = false → a4' = a4 ∧ (w.gatherPads (some .axle) copy p inc).armA4 = false)
      ∧ (p < 500 → a4' = a4 ∧ (w.gatherPads (some .axle) copy p inc).armA4 = true)
      ∧ (500 ≤ p → p ≤ 600 → a4' = a4 ∧ (w.gatherPads (some .axle) copy p inc).armA4 = w.armA4)
      ∧ (1 ≤ dueOf copy 1 → x'.acc ≠ x.acc →
          (w.gatherPads (some .axle) copy p inc).q = max 20 (100 - 80 * x'.acc / dueOf copy 1)) := by
  obtain ⟨hitems, harm, hq⟩ := Wear.gatherPads_eq (copy := copy) (p := p) (inc := inc) h
  obtain ⟨hres', -, hsum⟩ := WearItem.gather_sum (x := x) (c := copy) (i := 1) (unit := 1000000) (inc := inc) (by decide) (by
    have hdiv : (x.residue + inc) / 1000000 < 28 := Nat.div_lt_of_lt_mul (by omega)
    omega)
  obtain ⟨h1, h2, h3, h4⟩ := hardApplication_cases w.armA4 p
  rw [harm]
  refine ⟨_, _, hitems, hres', hsum, fun hp ha => ?_, fun hp ha => ?_, fun hp => ?_, fun hp hp' => ?_, fun hdue hne => ?_⟩
  · rw [h1 hp ha]
    exact ⟨WearItem.add_one _ _ ha4, rfl⟩
  · rw [h2 hp ha]
    exact ⟨rfl, rfl⟩
  · rw [h3 hp]
    exact ⟨rfl, rfl⟩
  · rw [h4 hp hp']
    exact ⟨rfl, rfl⟩
  · rw [hq hne, padWeight_eq _ hdue]

/-- Settles O39: the slip machine, the shares, the pressure and the pads' items in their order, which the event's end
leaves. -/
theorem axlePartner1CompletionFormsPressure : Obligations.AxlePartner1CompletionFormsPressure := by
  unfold Obligations.AxlePartner1CompletionFormsPressure
  intro s out record sample hserves hr hin
  obtain ⟨y, t, hexec, hj, hend⟩ := exec_axle1 record hserves hr hin
  have hrole : y.role = some .axle := hj.role.trans hr
  have hmpt : y.mpt = s.mpt := hj.kept .mpt (by decide)
  have hnsq : y.nsq = s.nsq := hj.kept .nsq (by decide)
  have hwau : y.wau = s.wau := hj.kept .wau (by decide)
  have hblu : y.blu = s.blu := hj.kept .blu (by decide)
  have hshe : y.she = s.she := hj.kept .she (by decide)
  have hptb : y.ptb = s.ptb := hj.kept .ptb (by decide)
  have hlost : y.demandLost = s.demandLost := hj.demandLost
  have hgiven : y.given = s.given := hj.given
  have hslot0 : y.stp.slot0 = s.stp.slot0 := hj.slot0
  obtain ⟨hshares, hslip, hlimitL, hhold, hgd, hgr, htorque, hpress, htstp, hshort, hsli, hpadded, hunpadded, htshe, htptb, hcopy,
    heeprom, -⟩ := hend
  have hheld0 : t.stp.held0 = y.stp.held0 := by rw [htstp]
  have hheld1 : t.stp.held1 = y.stp.held1 := by rw [htstp]
  have hown : y.own1 = axleRecord s.mpt.copy s.nsq.op t.stp.held0 t.stp.held1 s.wau.q t.blu.slip t.blu.limitL := by
    rw [State.own1, hmpt, hnsq, hwau, hheld0, hheld1, hslip, hlimitL]
  rw [hown, ← hheld0, hblu, hshe, hlost, hmpt] at hshares
  rw [hblu] at hgd hgr htorque
  rw [hmpt, hgiven, hlost] at hpress
  rw [hshe] at hshort
  obtain ⟨hm1, hm2, hm3, hm4⟩ := rampBase_cases _ _ _ hshares.ramp
  obtain ⟨hb1, hb2, hb3, hb4⟩ := hshares.braking_cases
  obtain ⟨hf1, hf2, hf3⟩ := hshares.fE_cases
  obtain ⟨hp1, hp2⟩ := pressureSetpoint_cases s.mpt.copy t.blu.fE s.given.v s.given.hold s.demandLost
  rw [hgd] at hb2
  rw [hgr] at hb3
  rw [← hpress] at hp1 hp2
  have hrest : t.stp.slot1 = some (.pressure t.blu.pressure) ∧ t.stp.slot0 = s.stp.slot0 ∧ t.blu.torque = s.blu.torque
      ∧ t.blu.gd = s.blu.gd ∧ t.blu.gr = s.blu.gr ∧ t.she = s.she ∧ t.ptb = s.ptb ∧ t.mpt.eeprom = s.mpt.eeprom :=
    ⟨by rw [htstp], by rw [htstp, ← hslot0], htorque, hgd, hgr, htshe.trans hshe, htptb.trans hptb, heeprom.trans (by rw [hmpt])⟩
  have hbrake : t.status .shortBrake = true ↔ s.she.shortBrake = true
      ∨ s.demandLost = false ∧ axleFb s.mpt.copy t.stp.held1 < s.she.f + (s.she.r - t.blu.rE) := by
    rw [hshort, Bool.or_eq_true]
    exact or_congr Iff.rfl hf3
  refine ⟨t, _, hexec, ⟨hm1, hm2, hm3, hm4, hb1, hb2, hb3, hb4⟩, fun hnone => ?_, fun nib pFb left right fault hh => ?_⟩
  · have hnone' : ∀ nib p l r f, y.stp.held1 ≠ some ⟨nib, .modulator p l r f⟩ := fun nib p l r f h => by
      rw [← hheld1, hnone] at h
      cases h
    have hsame := State.evaluateSlip_of_none hnone'
    rw [hsame, hblu] at hslip hlimitL hhold
    have hfE : t.blu.fE = 0 := by
      cases hl : s.demandLost with
      | true => exact hf1 hl
      | false =>
        rw [hf2 hl]
        show min _ (axleFb s.mpt.copy t.stp.held1) = 0
        rw [hnone]
        exact Nat.min_zero _
    rw [hnone] at hbrake
    refine ⟨hslip, hlimitL, hhold, (hunpadded hnone').trans (by rw [hsame, hwau]), hfE, hbrake, hp1, fun hl hg => ?_, hrest⟩
    rw [hpress, hfE, hl]
    exact pressureSetpoint_zero _ _ hg
  · obtain ⟨hslot1, hslot0', -, -, -, hshe', hptb', heeprom'⟩ := hrest
    intro c w d v braking traction recovered divisor
    have hy : y.stp.held1 = some ⟨nib, .modulator pFb left right fault⟩ := hheld1.symm.trans hh
    rw [hh] at hbrake
    have hfb : ∀ hl, t.blu.fE = min (s.she.f + (s.she.r - t.blu.rE)) (if fault then 0 else fbCfg c) := fun hl => by
      rw [hf2 hl]
      show min _ (axleFb c t.stp.held1) = _
      rw [hh]
      rfl
    obtain ⟨hc1, hc2, hc3, hc4⟩ := slipEntry_cases y.blu.slip y.given.d y.given.v (wheelSpeed left right)
    have hentered : ∀ k, slipEntry y.blu.slip y.given.d y.given.v (wheelSpeed left right) = some k →
        t.blu.slip = .slip k ∧ t.blu.limitL = 0 ∧ t.blu.slipHold = ⟨false, 0⟩ ∧ t.sli.state.Prompted := fun k hk => by
      obtain ⟨heblu, -, hesli⟩ := State.evaluateSlip_entered hy hk
      rw [hslip, hlimitL, hhold, heblu]
      exact ⟨rfl, rfl, rfl, hsli.prompted (congrArg LineUnit.state hesli)⟩
    have hsteady : slipEntry y.blu.slip y.given.d y.given.v (wheelSpeed left right) = none →
        y.evaluateSlip.blu = s.blu.evaluateSlip d v (wheelSpeed left right) := fun hk => by
      rw [(State.evaluateSlip_steady hy hk).1, hblu, hgiven]
    rw [hblu, hgiven] at hc1 hc2 hc3 hc4 hentered hsteady
    refine ⟨fun hs hb => (hentered _ (hc2 hs hb)).1, fun hs ht => (hentered _ (hc3 hs ht)).1, fun hs hbt => ?_,
      fun hs hb ht => ?_, fun hs => ?_, fun hl => ⟨hb4 hl, hf1 hl, hp1 hl⟩, hfb, hbrake, hp2, hslot1, hslot0', htorque, hgd, hgr,
      hshe', hptb', heeprom',
      fun x i1 a3 a4 hits hx ha3 ha4 hres hp hg hv => ?_⟩
    · obtain ⟨k, hk⟩ : ∃ k, slipEntry s.blu.slip s.given.d s.given.v (wheelSpeed left right) = some k :=
        hbt.elim (fun hb => ⟨_, hc2 hs hb⟩) fun ht => ⟨_, hc3 hs ht⟩
      obtain ⟨hts, htl, hth, htp1, htp2, htp3⟩ := hentered k hk
      obtain ⟨hd0, hr0⟩ := hb1 (by rw [hts]; rfl)
      exact ⟨htl, hth, hd0, hr0, htp1, htp2, htp3⟩
    · have hsame := (hsteady (hc4 hb ht)).trans (BlendUnit.evaluateSlip_of_steady (hc4 hb ht) hs)
      rw [hslip, hlimitL, hhold, hsame]
      exact ⟨rfl, rfl, rfl⟩
    · obtain ⟨hss, -, hh1, hh2, hh3⟩ := BlendUnit.evaluateSlip_of_slipping (d := d) (v := v) (w := wheelSpeed left right) hs
      rw [← hsteady (hc1 hs)] at hss hh1 hh2 hh3
      rw [← hslip] at hss
      rw [← hhold] at hh1 hh2 hh3
      obtain ⟨hd0, hr0⟩ := hb1 (by rw [hss]; exact hs)
      exact ⟨hss, hd0, hr0, hh1, hh2, hh3⟩
    · obtain ⟨a3', hitems, harm, hepisode, hno⟩ := State.evaluateSlip_items hy (x := x) (i1 := i1) (a3 := a3) (a4 := a4)
        (by rw [hwau]; exact hits) ha3
      obtain ⟨x', a4', hitems', hres', hsum, h1, h2, h3, h4, hq⟩ := Wear.gatherPads_law (copy := c) (p := pFb)
        (inc := padIncrement pFb (brakeGain c) v) hitems hx hres ha4 (padIncrement_le hp hg hv)
      have htwau := hpadded nib pFb left right fault hy
      rw [hrole, hmpt, hgiven] at htwau
      rw [← htwau, harm, hwau] at h1 h2 h4
      rw [← htwau] at hitems' h3 hq
      rw [hblu, hgiven] at hepisode hno
      refine ⟨x', a3', a4', hitems', hres', hsum, fun hs hbt => ?_, fun hsb => hno ?_, h1, h2, h3, h4, hq⟩
      · exact hbt.elim (fun hb => hepisode _ (hc2 hs hb)) fun ht => hepisode _ (hc3 hs ht)
      · exact hsb.elim hc1 fun hbt => hc4 hbt.1 hbt.2

end
end Sys2Proof.Machine
end

/-! # The PACK role's completions (R71 to R80, R114, R117) -/
section
namespace Sys2Proof.Machine

section
variable {c : Instr} {s t u : State}

/-! ### The own record agrees with its inputs (R78) -/

/-- The own capability record is the one that the limits and the held records form. -/
def PackOwned (s : State) : Prop :=
  s.plu.own = (s.plu.advertise s.nsq.op (packReading s.stp.held1) (heldPAct s.stp.held0)).own

theorem PackOwned.congr (h : PackOwned s) (hplu : t.plu = s.plu) (hop : t.nsq.op = s.nsq.op) (h0 : t.stp.held0 = s.stp.held0)
    (h1 : t.stp.held1 = s.stp.held1) : PackOwned t := by
  rw [PackOwned, hplu, hop, h0, h1]
  exact h

theorem PackOwned.of_reformOwn (hr : s.role = some .pack) : PackOwned s.reformOwn := by
  rw [State.reformOwn_of_pack hr]
  rfl

theorem PackOwned.of_enterServing (hr : s.role = some .pack) (op : OpState) : PackOwned (s.enterServing op) := by
  have hrole : (s.takeOp op).requestPrompt.role = some .pack := by
    rw [← hr, State.role, State.role, State.requestPrompt_nsq, State.takeOp_nsq]
  rw [State.enterServing_eq, if_neg (by rw [hrole]; rintro ⟨-, h⟩; cases h)]
  exact PackOwned.of_reformOwn (s := (s.setNsq _).setPins _) hr

theorem PackOwned.of_settle (hr : s.role = some .pack) (h : PackOwned s) : PackOwned s.settle := by
  have hdec : PackOwned s.decideOp := by
    rcases s.decideOp_cases with e | ⟨-, -, e⟩ | ⟨-, -, e⟩ <;> rw [e]
    · exact h
    · exact .of_enterServing hr _
    · exact .of_enterServing hr _
  exact hdec.congr (by simp [State.settle]) (by simp [State.settle]) (by simp [State.settle]) (by simp [State.settle])

theorem Follows.of_pack (hr : s.role = some .pack) : Follows s s.settle :=
  .of_settle (fun h => by rw [hr] at h; cases h)

theorem State.reformOwn_pack_kept (hr : s.role = some .pack) : KeptBut s s.reformOwn [.plu] := by
  rw [State.reformOwn_of_pack hr]
  exact s.setPlu_kept _

/-! ### A wear item replaced outside the AXLE role (R124) -/

/-- Outside the AXLE role a change of q or d_w waits for the next formation. -/
theorem State.putItem_of_ne_axle (hr : s.role ≠ some .axle) (i : Nat) (x : WearItem) : KeptBut s (s.putItem i x) [.wau, .stu] := by
  unfold State.putItem
  dsimp only
  generalize hu : ite (x.state = .due ∧ (itemAt s.wau.items i).state ≠ .due) _ _ = u
  have hkept : KeptBut s u [.wau, .stu] := by
    have h1 : KeptBut s ((s.setWau { s.wau with items := setItem s.wau.items i x }).putStatus .wearNear
        (anyNear (setItem s.wau.items i x))) [.wau, .stu] :=
      ((KeptBut.refl s _).setWau (by decide) _).putStatus (by decide) _ _
    rw [← hu]
    split
    · exact h1.putStatus (by decide) _ _
    · exact h1
  split
  · rw [if_neg fun h => hr h.1]
    exact hkept.setWau (by decide) _
  · exact hkept

/-! ### Wear at a completion (R114, R116, R117) -/

/-- The wear block after a completion's charge, its test of a full charge and its hot flag. -/
def Wear.gatherCharge (w : Wear) (role : Option Role) (copy : List Word) (soc : Nat) (tp : Int) (inc : Nat) : Wear :=
  let x := (itemAt w.items 1).gather copy 1 36000000 inc
  let w1 : Wear := if x.acc ≠ (itemAt w.items 1).acc then { w with items := setItem w.items 1 x }.derive role copy
    else { w with items := setItem w.items 1 x }
  let f := fullCharge copy w.armS3 soc
  { w1 with
    armS3 := f.2
    hot := w.hot || decide (45 < tp)
    items := if f.1 then setItem w1.items 3 ((itemAt w1.items 3).add copy 3 1) else w1.items }

theorem Wear.derive_flags (w : Wear) (role : Option Role) (copy : List Word) :
    (w.derive role copy).armS3 = w.armS3 ∧ (w.derive role copy).hot = w.hot := by
  unfold Wear.derive
  split <;> exact ⟨rfl, rfl⟩

theorem State.gatherPack_of_monitor (hr : s.role = some .pack) {nib : BitVec 4} {u soc ic id : Nat} {tp ip : Int} {f : Bool}
    (h : s.stp.held1 = some ⟨nib, .monitor u soc tp ic id ip f⟩) : KeptBut s s.gatherPack [.wau, .stu]
    ∧ s.gatherPack.wau = s.wau.gatherCharge s.role s.mpt.copy soc tp (chargeIncrement ip tp) := by
  let x := (itemAt s.wau.items 1).gather s.mpt.copy 1 36000000 (chargeIncrement ip tp)
  have hkept := State.putItem_of_ne_axle (by rw [hr]; decide) 1 x
  have hmpt : (s.putItem 1 x).mpt = s.mpt := hkept .mpt (by decide)
  have hwau : (s.putItem 1 x).wau = if x.acc ≠ (itemAt s.wau.items 1).acc
      then { s.wau with items := setItem s.wau.items 1 x }.derive s.role s.mpt.copy
      else { s.wau with items := setItem s.wau.items 1 x } := by
    rw [State.putItem_wau]
    simp only [true_and]
  have hflags : (s.putItem 1 x).wau.armS3 = s.wau.armS3 ∧ (s.putItem 1 x).wau.hot = s.wau.hot := by
    rw [hwau]
    split
    · exact Wear.derive_flags _ _ _
    · exact ⟨rfl, rfl⟩
  have hgather : s.gatherPack = (let t := s.putItem 1 x
      let f := fullCharge t.mpt.copy t.wau.armS3 soc
      let t := t.setWau { t.wau with armS3 := f.2, hot := t.wau.hot || decide (45 < tp) }
      if f.1 then t.addUnits 3 1 else t) := by
    unfold State.gatherPack
    simp only [h]
    rfl
  rw [hgather, Wear.gatherCharge]
  dsimp only
  rw [← hwau, hflags.1, hflags.2, hmpt]
  generalize s.putItem 1 x = t at hmpt hkept
  have hset : ∀ w, KeptBut s (t.setWau w) [.wau, .stu] := fun w => hkept.setWau (by decide) w
  split
  · obtain ⟨hwau4, hkept4⟩ := State.putItem_of_ne (t.setWau { t.wau with armS3 := (fullCharge s.mpt.copy s.wau.armS3 soc).2
                                                                         hot := s.wau.hot || decide (45 < tp) })
      (i := 3) (by decide) ((itemAt t.wau.items 3).add t.mpt.copy 3 1)
    refine ⟨(hset _).trans hkept4, ?_⟩
    rw [State.addUnits]
    refine hwau4.trans ?_
    rw [hmpt]
    rfl
  · exact ⟨hset _, rfl⟩

theorem State.gatherPack_of_none (h : s.stp.held1 = none) : s.gatherPack = s := by
  unfold State.gatherPack
  rw [h]

theorem fullCharge_cases (copy : List Word) (armed : Bool) (soc : Nat) :
    (armed = true → socMax copy ≤ soc → fullCharge copy armed soc = (true, false))
    ∧ (armed = false ∨ soc < socMax copy → (fullCharge copy armed soc).1 = false)
    ∧ (soc < 900 → soc < socMax copy → (fullCharge copy armed soc).2 = true)
    ∧ (¬ (soc < 900 ∧ soc < socMax copy) → ((fullCharge copy armed soc).2 = true ↔ armed = true ∧ soc < socMax copy)) := by
  unfold fullCharge
  dsimp only
  refine ⟨fun ha hs => ?_, fun h => ?_, fun h1 h2 => ?_, fun hn => ?_⟩
  · rw [ha, decide_eq_true hs, decide_eq_false (p := soc < socMax copy) (by omega)]
    simp
  · rcases h with h | h
    · rw [h, Bool.false_and]
    · rw [decide_eq_false (by omega), Bool.and_false]
  · rw [decide_eq_true h1, decide_eq_true h2]
    simp
  · have harm : (decide (soc < 900) && decide (soc < socMax copy)) = false := by
      rw [← Bool.decide_and]
      exact decide_eq_false hn
    rw [harm, Bool.or_false]
    cases armed <;> simp

theorem packDerate_eq {copy : List Word} (n : Nat) (h : 1 ≤ dueOf copy 1) : packDerate copy n = max 70 (100 - 30 * n / dueOf copy 1) := by
  rw [packDerate, quotient, if_neg (by omega)]

theorem chargeIncrement_eq (ip tp : Int) :
    chargeIncrement ip tp = if ip < 0 then ip.natAbs * (if 35 < tp then 4 else if 10 ≤ tp then 2 else 3) else 0 := by
  unfold chargeIncrement chargeWeight
  have hw : (if 35 < tp then 4 else if tp < 10 then 3 else 2) = if 35 < tp then 4 else if 10 ≤ tp then 2 else 3 := by
    split_ifs <;> omega
  rw [hw]

theorem chargeIncrement_le {ip : Int} (h : ip.natAbs ≤ 20000) (tp : Int) : chargeIncrement ip tp ≤ 80000 := by
  rw [chargeIncrement_eq]
  split_ifs <;> omega

/-- The charge part of a completion on a table whose items are below their range (R114, R117, R124). -/
theorem Wear.gatherCharge_law {w : Wear} {copy : List Word} {soc inc : Nat} {tp : Int} {x i2 f : WearItem} (h : w.items = [x, i2, f])
    (hx : x.acc + 1 < accMax) (hres : x.residue < 36000000) (hf : f.acc < accMax) (hinc : inc ≤ 80000) :
    ∃ x' f' : WearItem, (w.gatherCharge (some .pack) copy soc tp inc).items = [x', i2, f'] ∧ x'.residue < 36000000
      ∧ x'.acc * 36000000 + x'.residue = x.acc * 36000000 + x.residue + inc
      ∧ (w.armS3 = true → socMax copy ≤ soc →
          f'.acc = f.acc + 1 ∧ (w.gatherCharge (some .pack) copy soc tp inc).armS3 = false)
      ∧ (w.armS3 = false ∨ soc < socMax copy → f' = f)
      ∧ (1 ≤ dueOf copy 1 → x'.acc ≠ x.acc →
          (w.gatherCharge (some .pack) copy soc tp inc).dw = max 70 (100 - 30 * x'.acc / dueOf copy 1)) := by
  obtain ⟨hres', -, hsum⟩ := WearItem.gather_sum (x := x) (c := copy) (i := 1) (unit := 36000000) (inc := inc) (by decide) (by
    have hdiv : (x.residue + inc) / 36000000 < 2 := Nat.div_lt_of_lt_mul (by omega)
    omega)
  obtain ⟨h1, h2, -, -⟩ := fullCharge_cases copy w.armS3 soc
  have hx1 : itemAt w.items 1 = x := by rw [h]; rfl
  have hset : setItem w.items 1 (x.gather copy 1 36000000 inc) = [x.gather copy 1 36000000 inc, i2, f] := by rw [h]; rfl
  unfold Wear.gatherCharge
  dsimp only
  rw [hx1, hset]
  generalize x.gather copy 1 36000000 inc = x' at hres' hsum
  have hitems : (if x'.acc ≠ x.acc then ({ w with items := [x', i2, f] } : Wear).derive (some .pack) copy
      else { w with items := [x', i2, f] }).items = [x', i2, f] := by
    split <;> rfl
  rw [hitems]
  refine ⟨x', if (fullCharge copy w.armS3 soc).1 then f.add copy 3 1 else f, ?_, hres', hsum, fun ha hs => ?_, fun hn => ?_,
    fun hdue hne => ?_⟩
  · split <;> rfl
  · rw [h1 ha hs]
    exact ⟨WearItem.add_one _ _ hf, rfl⟩
  · rw [h2 hn]
    rfl
  · rw [if_pos hne]
    exact packDerate_eq _ hdue

/-! ### A completion with partner 1 -/

theorem State.formPackLimits_frame (hr : s.role = some .pack) : KeptBut s s.formPackLimits [.plu, .stu] ∧ PackOwned s.formPackLimits
    ∧ s.formPackLimits.plu = { s.plu.formLimits s.mpt.copy (packReading s.stp.held1) s.wau.dw with own := s.formPackLimits.plu.own }
    ∧ s.formPackLimits.status .derate = (s.plu.formLimits s.mpt.copy (packReading s.stp.held1) s.wau.dw).derated := by
  let x := s.setPlu (s.plu.formLimits s.mpt.copy (packReading s.stp.held1) s.wau.dw)
  have hx : KeptBut s x [.plu, .stu] := (s.setPlu_kept _).mono (by decide)
  have hre : KeptBut x x.reformOwn [.plu, .stu] := (State.reformOwn_pack_kept (s := x) hr).mono (by decide)
  have hown : PackOwned x.reformOwn := .of_reformOwn hr
  have hplu := x.reformOwn_plu_own
  have hform : s.formPackLimits = x.reformOwn.putStatus .derate
      (s.plu.formLimits s.mpt.copy (packReading s.stp.held1) s.wau.dw).derated := rfl
  rw [hform]
  generalize x.reformOwn = z at hre hown hplu
  exact ⟨(hx.trans hre).putStatus (by decide) _ _, hown, hplu, State.putStatus_status_self _ _ _⟩

/-- What a completion with partner 1 has made when its event ends. -/
structure PackCompleted1 (s t : State) : Prop where
  owned : PackOwned t
  plu : t.plu = { s.plu.formLimits s.mpt.copy (packReading s.stp.held1) t.wau.dw with own := t.plu.own }
  derate : t.status .derate = decide (t.plu.pa2 < t.plu.pa0)
  stp : t.stp = s.stp
  charged : ∀ nib u soc tp ic id ip f, s.stp.held1 = some ⟨nib, .monitor u soc tp ic id ip f⟩ →
    t.wau = s.wau.gatherCharge s.role s.mpt.copy soc tp (chargeIncrement ip tp)
  uncharged : s.stp.held1 = none → t.wau = s.wau
  ptb : t.ptb = s.ptb
  copy : t.mpt.copy = s.mpt.copy
  eeprom : t.mpt.eeprom = s.mpt.eeprom

theorem State.gatherPack_kept (hr : s.role = some .pack) : KeptBut s s.gatherPack [.wau, .stu] := by
  by_cases hm : ∃ nib u soc tp ic id ip f, s.stp.held1 = some ⟨nib, .monitor u soc tp ic id ip f⟩
  · obtain ⟨nib, u, soc, tp, ic, id, ip, f, h⟩ := hm
    exact (State.gatherPack_of_monitor hr h).1
  · unfold State.gatherPack
    split
    · next h => exact absurd ⟨_, _, _, _, _, _, _, _, h⟩ hm
    · exact .refl s _

theorem State.packCompletes1_settled (hr : s.role = some .pack) : PackCompleted1 s s.packCompletes1.settle := by
  show PackCompleted1 s s.gatherPack.formPackLimits.settle
  have hg := State.gatherPack_kept hr
  have hcharged := fun nib u soc tp ic id ip f h =>
    (State.gatherPack_of_monitor (nib := nib) (u := u) (soc := soc) (tp := tp) (ic := ic) (id := id) (ip := ip) (f := f) hr h).2
  have huncharged : s.stp.held1 = none → s.gatherPack.wau = s.wau := fun h => by rw [State.gatherPack_of_none h]
  generalize s.gatherPack = y at hg hcharged huncharged
  have hrole : y.role = some .pack := (hg.role_eq (by decide)).trans hr
  have hplu : y.plu = s.plu := hg .plu (by decide)
  have hmpt : y.mpt = s.mpt := hg .mpt (by decide)
  have hstp : y.stp = s.stp := hg .stp (by decide)
  obtain ⟨hkept, hown, hzplu, hderate⟩ := State.formPackLimits_frame hrole
  rw [hplu, hmpt, hstp] at hzplu hderate
  generalize y.formPackLimits = z at hkept hown hzplu hderate
  have hzrole : z.role = some .pack := (hkept.role_eq (by decide)).trans hrole
  have hfollows : Follows z z.settle := .of_pack hzrole
  have hzwau : z.wau = y.wau := hkept .wau (by decide)
  have hzmpt : z.mpt = y.mpt := hkept .mpt (by decide)
  have htwau : z.settle.wau = y.wau := hfollows.wau.trans hzwau
  have htplu : z.settle.plu = { s.plu.formLimits s.mpt.copy (packReading s.stp.held1) z.settle.wau.dw with
      own := z.settle.plu.own } := by
    rw [hfollows.plu, hzplu, htwau]
  refine ⟨.of_settle hzrole hown, htplu, ?_, ?_, fun nib u soc tp ic id ip f h => ?_, fun h => ?_, ?_, ?_, ?_⟩
  · rw [hfollows.status, hderate, htplu]
    rfl
  · exact (hfollows.engine (by rw [hzrole]; decide)).1.trans ((hkept .stp (by decide)).trans hstp)
  · rw [htwau]
    exact hcharged nib u soc tp ic id ip f h
  · rw [htwau]
    exact huncharged h
  · rw [hfollows.ptb]
    exact (hkept .ptb (by decide)).trans (hg .ptb (by decide))
  · rw [hfollows.copy, hzmpt, hmpt]
  · rw [hfollows.eeprom, hzmpt, hmpt]

theorem State.roleCompletes1_pack (s : State) (good : Bool) : s.roleCompletes1 .pack good = s.packCompletes1 := rfl
theorem State.roleCompletes0_pack (s : State) : s.roleCompletes0 .pack = s.packCompletes0 := rfl

theorem exec_pack1 {out : List Byte} {sample : OwnReading} (record : List Byte) (hserves : s.serves = true)
    (hr : s.role = some .pack) (hin : s.stp.inFlight = some ⟨.p1, out, sample⟩) :
    ∃ y t, exec (.exchangeCompletion record) s = .next t ∧ Judged s y ∧ PackCompleted1 y t := by
  let x := s.setStp { s.stp with inFlight := none }
  have hj : Judged s (x.judge1 .pack record) := (Judged.setStp s { s.stp with inFlight := none } rfl rfl).trans (.judge1 x .pack record)
  refine ⟨_, _, ?_, hj, State.packCompletes1_settled (hj.role.trans hr)⟩
  rw [exec_completion1 record hserves hr hin, State.roleCompletes1_pack]

/-! ### A completion with partner 0 -/

/-- What a completion with partner 0 has made when its event ends. -/
structure PackCompleted0 (s t : State) : Prop where
  owned : PackOwned t
  slot0 : t.stp.slot0 = some (.converter (uRef s.mpt.copy)
    (currentLimit (s.plu.advertise s.nsq.op (packReading s.stp.held1) (heldPAct s.stp.held0)).own.po (packReading s.stp.held1).uPack)
    (currentLimit (s.plu.advertise s.nsq.op (packReading s.stp.held1) (heldPAct s.stp.held0)).own.pa (packReading s.stp.held1).uPack))
  held0 : t.stp.held0 = s.stp.held0
  held1 : t.stp.held1 = s.stp.held1
  limits : t.plu.poF = s.plu.poF ∧ t.plu.paF = s.plu.paF
  hot : t.status .stageHot = stageHotHolds s.stp.held0
  wau : t.wau = s.wau
  ptb : t.ptb = s.ptb

theorem State.packCompletes0_settled (hr : s.role = some .pack) : PackCompleted0 s s.packCompletes0.settle := by
  have hre := State.reformOwn_of_pack hr
  let p := s.plu.advertise s.nsq.op (packReading s.stp.held1) (heldPAct s.stp.held0)
  let z : State := (((s.setPlu p).putStatus .stageHot (stageHotHolds s.stp.held0)).setPlu
    (p.formCurrents (packReading s.stp.held1).uPack)).writeSlot0 (.converter (uRef s.mpt.copy)
      (currentLimit p.own.po (packReading s.stp.held1).uPack) (currentLimit p.own.pa (packReading s.stp.held1).uPack))
  have hform : s.packCompletes0 = z := by
    unfold State.packCompletes0
    rw [hre]
    rfl
  have hown : PackOwned z := rfl
  have hhot : z.status .stageHot = stageHotHolds s.stp.held0 := State.putStatus_status_self (s.setPlu p) _ _
  have hzrole : z.role = some .pack := hr
  rw [hform]
  have hfollows : Follows z z.settle := .of_pack hzrole
  refine ⟨.of_settle hzrole hown, hfollows.slot0, hfollows.held0, hfollows.held1, ?_, (hfollows.status _).trans hhot, hfollows.wau,
    hfollows.ptb⟩
  rw [hfollows.plu]
  exact ⟨rfl, rfl⟩

theorem exec_pack0 {out : List Byte} {sample : OwnReading} (record : List Byte) (hserves : s.serves = true)
    (hr : s.role = some .pack) (hin : s.stp.inFlight = some ⟨.p0, out, sample⟩) :
    ∃ y t, exec (.exchangeCompletion record) s = .next t ∧ Judged s y ∧ y.stp.held1 = s.stp.held1 ∧ PackCompleted0 y t := by
  let x := s.setStp { s.stp with inFlight := none }
  have hj : Judged s (x.judge0 .pack sample record) := (Judged.setStp s { s.stp with inFlight := none } rfl rfl).trans
    (.judge0 x .pack sample record)
  refine ⟨_, _, ?_, hj, x.judge0_held1 .pack sample record, State.packCompletes0_settled (hj.role.trans hr)⟩
  rw [exec_completion0 record hserves hr hin, State.roleCompletes0_pack]

/-! ### The limits by the held record (R71 to R76, R80) -/

/-- The advertised limits, where a record of the pack monitor is held (R76). -/
theorem PackOwned.cases (h : PackOwned s) {fault : Bool} (hf : (packReading s.stp.held1).fault = fault) :
    (s.nsq.op = .active → fault = false → s.plu.own.po = s.plu.poF ∧ s.plu.own.pa = s.plu.paF)
    ∧ (s.nsq.op ≠ .active ∨ fault = true → s.plu.own.po = 0 ∧ s.plu.own.pa = 0) := by
  rw [PackOwned] at h
  rw [h]
  refine ⟨fun ha hff => ⟨if_pos ⟨ha, hf.trans hff⟩, if_pos ⟨ha, hf.trans hff⟩⟩, fun hn => ?_⟩
  have hno : ¬ (s.nsq.op = .active ∧ (packReading s.stp.held1).fault = false) := by
    rintro ⟨ha, hff⟩
    rcases hn with hn | hn
    · exact hn ha
    · rw [← hf, hff] at hn
      cases hn
  exact ⟨if_neg hno, if_neg hno⟩

/-- Where no record is held nothing is formed (R71). -/
theorem PackUnit.formLimits_of_zero (p : PackUnit) (copy : List Word) (dw : Nat) :
    (p.formLimits copy ⟨0, 0, 0, 0, 0, false⟩ dw).poF = 0 ∧ (p.formLimits copy ⟨0, 0, 0, 0, 0, false⟩ dw).paF = 0 := by
  have htaper : taperedAcceptance copy 0 0 = 0 := by
    unfold taperedAcceptance
    split_ifs <;> simp
  refine ⟨?_, ?_⟩ <;> simp [PackUnit.formLimits, htaper, coldAcceptance]

theorem Wear.gatherCharge_flags (w : Wear) (role : Option Role) (copy : List Word) (soc : Nat) (tp : Int) (inc : Nat) :
    (w.gatherCharge role copy soc tp inc).armS3 = (fullCharge copy w.armS3 soc).2
    ∧ (w.gatherCharge role copy soc tp inc).hot = (w.hot || decide (45 < tp)) := ⟨rfl, rfl⟩

/-- Settles O41: wear and the limits, or the currents and STAGE_HOT, which the event's end leaves but for the advertised
limits. -/
theorem packCompletionsFormTheLimits : Obligations.PackCompletionsFormTheLimits := by
  unfold Obligations.PackCompletionsFormTheLimits
  intro s out record sample hserves hr
  refine ⟨fun hin => ?_, fun hin => ?_⟩
  · obtain ⟨y, t, hexec, hj, howned, htplu, hderate, htstp, hcharged, huncharged, htptb, hcopy, heeprom⟩ :=
      exec_pack1 record hserves hr hin
    have hmpt : y.mpt = s.mpt := hj.kept .mpt (by decide)
    have hwau : y.wau = s.wau := hj.kept .wau (by decide)
    have hrole : y.role = some .pack := hj.role.trans hr
    rw [hmpt, ← htstp] at htplu
    rw [hwau, hmpt, hrole, ← htstp] at hcharged
    refine ⟨t, hexec, fun hnone => ?_, fun nib u soc tp ic id ip fault hh => ?_, by rw [htstp, hj.slot0], by rw [htstp, hj.slot1],
      htptb.trans (hj.kept .ptb (by decide)), heeprom.trans (by rw [hmpt])⟩
    · have hread : packReading t.stp.held1 = ⟨0, 0, 0, 0, 0, false⟩ := by rw [hnone]; rfl
      obtain ⟨hpo, hpa⟩ := y.plu.formLimits_of_zero s.mpt.copy t.wau.dw
      have hpoF : t.plu.poF = 0 := by rw [htplu, hread]; exact hpo
      have hpaF : t.plu.paF = 0 := by rw [htplu, hread]; exact hpa
      rw [PackOwned, PackUnit.advertise, hpoF, hpaF, hread] at howned
      rw [howned]
      exact ⟨hpoF, hpaF, ite_self _, ite_self _, rfl, (huncharged (by rw [← htstp]; exact hnone)).trans hwau⟩
    · intro c
      have hread : packReading t.stp.held1 = ⟨u, soc, tp, ic, id, fault⟩ := by rw [hh]; rfl
      have htwau := hcharged nib u soc tp ic id ip fault hh
      obtain ⟨harmS3, hhot⟩ := s.wau.gatherCharge_flags (some .pack) c soc tp (chargeIncrement ip tp)
      obtain ⟨-, -, hf3, hf4⟩ := fullCharge_cases c s.wau.armS3 soc
      rw [← htwau] at harmS3 hhot
      rw [← harmS3] at hf3 hf4
      rw [hread] at htplu
      have hpd0 : t.plu.pd0 = u * id / 1000 := by rw [htplu]; rfl
      have hpa0 : t.plu.pa0 = u * ic / 1000 := by rw [htplu]; rfl
      have hpa1 : t.plu.pa1 = taperedAcceptance c soc t.plu.pa0 := by rw [htplu]; rfl
      have hpa2 : t.plu.pa2 = coldAcceptance tp t.plu.pa1 := by rw [htplu]; rfl
      have hpoF : t.plu.poF = min (t.plu.pd0 * t.wau.dw / 100) 1000 := by rw [htplu]; rfl
      have hpaF : t.plu.paF = min (t.plu.pa2 * t.wau.dw / 100) 1000 := by rw [htplu]; rfl
      obtain ⟨t1, t2, t3⟩ := taperedAcceptance_cases c soc t.plu.pa0
      obtain ⟨c1, c2, c3⟩ := coldAcceptance_cases tp t.plu.pa1
      rw [← hpa1] at t1 t2 t3
      rw [← hpa2] at c1 c2 c3
      obtain ⟨ha1, ha2⟩ := howned.cases (fault := fault) (by rw [hread])
      refine ⟨hpd0, hpoF, hpa0, t1, t2, t3, c1, c2, c3, hpaF, ?_, ha1, ha2, by rw [hderate, decide_eq_true_iff],
        fun x h f hits hres hip hx hf => ?_, hf3, hf4, fun htp => ?_, fun htp => ?_⟩
      · rw [PackOwned, hread] at howned
        rw [howned]
        rfl
      · obtain ⟨x', f', hitems, hres', hsum, hcount, hnot, hdw⟩ := Wear.gatherCharge_law (copy := c) (soc := soc) (tp := tp)
          (inc := chargeIncrement ip tp) hits hx hres hf (chargeIncrement_le hip tp)
        rw [← htwau] at hitems hcount hdw
        rw [chargeIncrement_eq] at hsum
        exact ⟨x', f', hitems, hres', hsum, hcount, hnot, hdw⟩
      · rw [hhot, decide_eq_true htp, Bool.or_true]
      · rw [hhot, decide_eq_false (by omega), Bool.or_false]
  · obtain ⟨y, t, hexec, hj, hyheld1, howned, hslot0, hheld0, hheld1, ⟨hpoF, hpaF⟩, hhot, htwau, htptb⟩ :=
      exec_pack0 record hserves hr hin
    have hmpt : y.mpt = s.mpt := hj.kept .mpt (by decide)
    have hplu : y.plu = s.plu := hj.kept .plu (by decide)
    have hnsq : y.nsq = s.nsq := hj.kept .nsq (by decide)
    rw [hmpt, hplu, hnsq, hyheld1] at hslot0
    rw [hplu] at hpoF hpaF
    refine ⟨t, _, _, hexec, hslot0, ⟨fun h0 => ⟨if_pos h0, if_pos h0⟩, fun h0 => ⟨if_neg h0, if_neg h0⟩⟩, fun h hh => ?_, hpoF, hpaF, ?_,
      hheld1.trans hyheld1, htwau.trans (hj.kept .wau (by decide)), htptb.trans (hj.kept .ptb (by decide))⟩
    · rw [PackOwned, hh] at howned
      rw [howned]
      rfl
    · rw [hhot, ← hheld0, stageHotHolds_iff]

end
end Sys2Proof.Machine
end

/-! # The engine's moves and the tick (R87 to R103, R118) -/
section
namespace Sys2Proof.Machine

section
variable {c : Instr} {s t u : State}

/-! ### A move of the engine in the GENSET role (R91) -/

/-- The engine's move to a scheduler `g`, its command written and the own record re-formed. -/
structure EngineMoved (s t : State) (g : Genset) (command : EngineCommand) : Prop where
  kept : KeptBut s t [.gsc, .stp, .mpt]
  gsc : t.gsc = g.reform s.mpt.copy s.nsq.op s.stp.held0
  stp : t.stp = { s.stp with slot1 := some (.engine command) }
  copy : t.mpt.copy = s.mpt.copy
  eeprom : t.mpt.eeprom = s.mpt.eeprom
  ringSeq : t.mpt.ringSeq = s.mpt.ringSeq

theorem EngineMoved.of_enter (hr : s.role = some .genset) (g : Genset) (e : EngineState) :
    EngineMoved s ((s.setGsc g).enterEngine e) (g.enter e) (commandOf e) := by
  rw [State.enterEngine_of_genset (s := s.setGsc g) hr]
  exact ⟨(((KeptBut.refl s _).setGsc (by decide) _).setGsc (by decide) _).setStp (by decide) _, rfl, rfl, rfl, rfl, rfl⟩

/-- The scheduler at its entry to COOLDOWN (R101). -/
def Genset.enterCooldown (g : Genset) : Genset := { g with cooldown := Timer.started, warm := Timer.stopped }.enter .cooldown

/-- The scheduler at its entry to RUNNING (R97, R101). -/
def Genset.enterRunning (g : Genset) : Genset := { g with warm := Timer.stopped, cooldown := Timer.stopped }.enter .running

/-- The scheduler at its entry to WARMING (R96). -/
def Genset.enterWarming (g : Genset) : Genset :=
  { g with crank := Timer.stopped, failures := 0, warm := Timer.started, run := Timer.started, runMet := false }.enter .warming

theorem EngineMoved.cooldown (hr : s.role = some .genset) : EngineMoved s s.engineCooldown s.gsc.enterCooldown .run :=
  .of_enter hr _ _

theorem EngineMoved.running (hr : s.role = some .genset) : EngineMoved s s.engineRunning s.gsc.enterRunning .run :=
  .of_enter hr _ _

theorem EngineMoved.warming (hr : s.role = some .genset) : EngineMoved s s.engineWarming s.gsc.enterWarming .run :=
  .of_enter hr _ _

theorem EngineMoved.off (hr : s.role = some .genset) (h : s.mpt.ringSeq < seqMax) (n : Nat) :
    EngineMoved s (s.engineOff n) (s.gsc.enterOff n) .stop := by
  obtain ⟨hkept, heeprom, hgsc, hstp⟩ := State.engineOff_frame hr h n
  exact ⟨hkept, hgsc, hstp, (Follows.of_engineOff hr h n).copy, heeprom, (Follows.of_engineOff hr h n).ringSeq⟩

/-- What SHUTDOWN and an entry to WITHDRAWN make of the engine (R103, R104). -/
theorem State.engineWithdrawn_cases (hr : s.role = some .genset) (h : s.mpt.ringSeq < seqMax) :
    (s.gsc.engine = .warming ∨ s.gsc.engine = .running → EngineMoved s s.engineWithdrawn s.gsc.enterCooldown .run)
    ∧ (s.gsc.engine = .cranking → EngineMoved s s.engineWithdrawn (s.gsc.enterOff 20) .stop)
    ∧ (s.gsc.engine = .off ∨ s.gsc.engine = .cooldown ∨ s.gsc.engine = .faulted → s.engineWithdrawn = s) := by
  unfold State.engineWithdrawn
  refine ⟨fun he => ?_, fun he => ?_, fun he => ?_⟩
  · rcases he with he | he <;> rw [he]
    · exact .cooldown hr
    · exact .cooldown hr
  · rw [he]
    exact .off hr h 20
  · rcases he with he | he | he <;> rw [he]

/-! ### The tick's samples (R87 to R90, R94) -/

/-- The scheduler after steps 1 to 4 of a tick within the clock's range. -/
def State.sampled (s : State) : Genset :=
  { s.gsc with
    tick := Timer.started
    clock := s.gsc.clock + 1
    starts := s.gsc.starts.filter fun r => decide (s.gsc.clock + 1 - r < 600)
    netLoad := pushSample s.gsc.netLoad (netLoadSample s.ptb.entries s.given.aux)
    nBar := ringAverage (pushSample s.gsc.netLoad (netLoadSample s.ptb.entries s.given.aux))
    socMin := leastSoc (liveSocs s.ptb.entries)
    primary := isPrimary s.ownAddress (liveGensets s.ptb.entries) }

theorem State.tickClock_eq (h : s.gsc.clock < clockMax) : s.tickClock
    = s.setGsc { s.gsc with clock := s.gsc.clock + 1, starts := pruneStarts (s.gsc.clock + 1) s.gsc.starts } := by
  rw [State.tickClock, if_neg (by omega)]

theorem State.tickOpens_eq (h : s.gsc.clock < clockMax) : s.tickOpens = s.setGsc s.sampled := by
  rw [State.tickOpens, State.tickClock_eq (s := s.setGsc { s.gsc with tick := Timer.started }) h]
  rfl

theorem exec_tick (hserves : s.serves = true) (hr : s.role = some .genset) (hrun : s.gsc.tick.running = true)
    (hdue : 1000 ≤ s.gsc.tick.elapsed) (hclock : s.gsc.clock < clockMax) : exec .tick s = .next
      (((s.setGsc s.sampled).tickEngine.tickPower s.gsc.engine).tickReport).settle := by
  show execTick s = _
  rw [execTick, if_pos (by rw [State.schedules_of hserves hr, Timer.due_of hrun hdue]; rfl), State.takeTick_eq,
    State.tickOpens_eq hclock]
  rfl

/-! ### The tick's end (R98, R118) -/

/-- The wear block after a run report (R118). -/
def Wear.reported (w : Wear) (copy : List Word) (engine : EngineState) : Wear :=
  if engine = .off ∨ engine = .faulted then w
  else if 60 ≤ w.runSeconds + 1 then { w with runSeconds := 0, items := setItem w.items 2 ((itemAt w.items 2).add copy 2 1) }
  else { w with runSeconds := w.runSeconds + 1 }

theorem State.tickReport_frame (s : State) : KeptBut s s.tickReport [.wau, .stu]
    ∧ s.tickReport.wau = s.wau.reported s.mpt.copy s.gsc.engine ∧ s.tickReport.withdraws = s.withdraws := by
  unfold State.tickReport Wear.reported
  split
  · exact ⟨.refl s _, rfl, rfl⟩
  · split
    · let x := s.setWau { s.wau with runSeconds := 0 }
      obtain ⟨hwau, hkept⟩ := State.putItem_of_ne x (i := 2) (by decide) ((itemAt s.wau.items 2).add s.mpt.copy 2 1)
      exact ⟨(((KeptBut.refl s _).setWau (by decide) _).trans hkept), hwau, x.putItem_withdraws 2 _⟩
    · exact ⟨(s.setWau_kept _).mono (by decide), rfl, rfl⟩

/-- The scheduler after step 6 of a tick (R98). -/
def Genset.powered (g : Genset) (before : EngineState) (copy : List Word) (gs : List (Address × Nat × EngineState)) (h : Nat) :
    Genset :=
  if before.delivers && g.engine.delivers then { g with pSet := formPSet copy g gs h } else g

theorem State.tickPower_eq (s : State) (before : EngineState) : s.tickPower before
    = s.setGsc (s.gsc.powered before s.mpt.copy (liveGensets s.ptb.entries) (heldThermal s.stp.held0)) := by
  unfold State.tickPower Genset.powered
  split <;> rfl

theorem Genset.powered_engine (g : Genset) (before : EngineState) (copy : List Word) (gs : List (Address × Nat × EngineState))
    (h : Nat) : (g.powered before copy gs h).engine = g.engine := by
  unfold Genset.powered
  split <;> rfl

/-- What follows the engine's test at a tick that changes no withdrawing status. -/
theorem Settled.tickEnds {e : State} (hs : Settled s) (before : EngineState) (hnsq : e.nsq = s.nsq)
    (hw : e.withdraws = s.withdraws) :
    let t := ((e.tickPower before).tickReport).settle
    KeptBut e t [.gsc, .wau, .stu, .sli]
    ∧ t.gsc = e.gsc.powered before e.mpt.copy (liveGensets e.ptb.entries) (heldThermal e.stp.held0)
    ∧ t.wau = e.wau.reported e.mpt.copy e.gsc.engine := by
  intro t
  let p := e.tickPower before
  have hp : p = e.setGsc (e.gsc.powered before e.mpt.copy (liveGensets e.ptb.entries) (heldThermal e.stp.held0)) :=
    e.tickPower_eq before
  have hpk : KeptBut e p [.gsc, .wau, .stu, .sli] := by
    rw [hp]
    exact (e.setGsc_kept _).mono (by decide)
  have hpengine : p.gsc.engine = e.gsc.engine := by
    rw [hp]
    exact Genset.powered_engine _ _ _ _ _
  have hpw : p.withdraws = e.withdraws := State.withdraws_of_stu (by rw [hp]; rfl)
  obtain ⟨hrk, hrwau, hrw⟩ := p.tickReport_frame
  have hrnsq : p.tickReport.nsq = s.nsq := (hrk .nsq (by decide)).trans ((hpk .nsq (by decide)).trans hnsq)
  have hsettle : t = p.tickReport.compareF := hs.settle_eq (by rw [hrnsq]) (hrw.trans (hpw.trans hw))
  have hpmpt : p.mpt = e.mpt := hpk .mpt (by decide)
  have hpwau : p.wau = e.wau := by rw [hp]; rfl
  refine ⟨?_, ?_, ?_⟩
  · rw [hsettle]
    exact (hpk.trans (hrk.mono (by decide))).trans ((State.compareF_kept _).mono (by decide))
  · rw [hsettle, State.compareF_gsc, show p.tickReport.gsc = p.gsc from hrk .gsc (by decide), hp]
    rfl
  · rw [hsettle, State.compareF_wau, hrwau, hpmpt, hpwau, hpengine]

/-! ### A start attempt (R95) -/

/-- The scheduler after a start attempt. -/
def Genset.attempted (g : Genset) : Genset :=
  { g with starts := g.starts ++ [g.clock], crank := Timer.started, off := g.off.halt }.enter .cranking

theorem Wear.derive_runSeconds (w : Wear) (role : Option Role) (copy : List Word) :
    (w.derive role copy).runSeconds = w.runSeconds := by
  unfold Wear.derive
  split <;> rfl

theorem State.putItem_runSeconds (s : State) (i : Nat) (x : WearItem) : (s.putItem i x).wau.runSeconds = s.wau.runSeconds := by
  rw [State.putItem_wau]
  split
  · exact Wear.derive_runSeconds _ _ _
  · rfl

theorem State.addUnits_frame (hr : s.role ≠ some .axle) (i n : Nat) : KeptBut s (s.addUnits i n) [.wau, .stu]
    ∧ (s.addUnits i n).withdraws = s.withdraws ∧ (s.addUnits i n).wau.runSeconds = s.wau.runSeconds
    ∧ (s.addUnits i n).wau.items = setItem s.wau.items i ((itemAt s.wau.items i).add s.mpt.copy i n) :=
  ⟨State.putItem_of_ne_axle hr i _, s.putItem_withdraws i _, s.putItem_runSeconds i _, s.putItem_items i _⟩

/-- The items after a start attempt: G1 takes its unit, and G3 where the engine is cold. -/
def attemptItems (items : List WearItem) (copy : List Word) (cold : Bool) : List WearItem :=
  let items1 := setItem items 1 ((itemAt items 1).add copy 1 1)
  if cold then setItem items1 3 ((itemAt items1 3).add copy 3 1) else items1

/-- The account of a start attempt: G1, and G3 where the engine is cold. -/
def State.countAttempt (s : State) : State :=
  if coldEngine s.stp.held1 then (s.addUnits 1 1).addUnits 3 1 else s.addUnits 1 1

theorem State.countAttempt_frame (hr : s.role ≠ some .axle) : KeptBut s s.countAttempt [.wau, .stu]
    ∧ s.countAttempt.withdraws = s.withdraws ∧ s.countAttempt.wau.runSeconds = s.wau.runSeconds
    ∧ s.countAttempt.wau.items = attemptItems s.wau.items s.mpt.copy (coldEngine s.stp.held1) := by
  obtain ⟨hkept, hw, hrs, hitems⟩ := State.addUnits_frame hr 1 1
  have hmpt : (s.addUnits 1 1).mpt = s.mpt := hkept .mpt (by decide)
  obtain ⟨hkept3, hw3, hrs3, hitems3⟩ := State.addUnits_frame (s := s.addUnits 1 1)
    (by rw [hkept.role_eq (by decide)]; exact hr) 3 1
  rw [hitems, hmpt] at hitems3
  unfold State.countAttempt attemptItems
  dsimp only
  split
  · exact ⟨hkept.trans hkept3, hw3.trans hw, hrs3.trans hrs, hitems3⟩
  · exact ⟨hkept, hw, hrs, hitems⟩

theorem State.engineAttempt_frame (hr : s.role = some .genset) : KeptBut s s.engineAttempt [.gsc, .stp, .wau, .stu, .mpt]
    ∧ s.engineAttempt.withdraws = s.withdraws
    ∧ s.engineAttempt.gsc = s.gsc.attempted.reform s.mpt.copy s.nsq.op s.stp.held0
    ∧ s.engineAttempt.stp = { s.stp with slot1 := some (.engine .crank) }
    ∧ s.engineAttempt.mpt.copy = s.mpt.copy ∧ s.engineAttempt.mpt.eeprom = s.mpt.eeprom
    ∧ s.engineAttempt.wau.runSeconds = s.wau.runSeconds
    ∧ s.engineAttempt.wau.items = attemptItems s.wau.items s.mpt.copy (coldEngine s.stp.held1) := by
  let g : Genset := { s.gsc with starts := s.gsc.starts ++ [s.gsc.clock], crank := Timer.started, off := s.gsc.off.halt }
  have hm : EngineMoved s ((s.setGsc g).enterEngine .cranking) s.gsc.attempted .crank := .of_enter hr g .cranking
  have hform : s.engineAttempt = ((s.setGsc g).enterEngine .cranking).countAttempt := by
    unfold State.engineAttempt State.countAttempt
    dsimp only
    rw [show (((s.setGsc g).enterEngine .cranking).addUnits 1 1).stp = ((s.setGsc g).enterEngine .cranking).stp from
      (State.putItem_kept _ _ _) .stp (by decide)]
  rw [hform]
  generalize (s.setGsc g).enterEngine .cranking = x at hm
  have hwau : x.wau = s.wau := hm.kept .wau (by decide)
  have hheld : x.stp.held1 = s.stp.held1 := by rw [hm.stp]
  obtain ⟨hkept, hw, hrs, hitems⟩ := State.countAttempt_frame (s := x) (by rw [hm.kept.role_eq (by decide), hr]; decide)
  have hmpt : x.countAttempt.mpt = x.mpt := hkept .mpt (by decide)
  refine ⟨(hm.kept.mono (by decide)).trans (hkept.mono (by decide)), hw.trans (State.withdraws_of_stu (hm.kept .stu (by decide))),
    (hkept .gsc (by decide)).trans hm.gsc, (hkept .stp (by decide)).trans hm.stp, ?_, ?_, hrs.trans (by rw [hwau]), ?_⟩
  · rw [hmpt, hm.copy]
  · rw [hmpt, hm.eeprom]
  · rw [hitems, hwau, hm.copy, hheld]

/-! ### The engine's test at a tick (R92, R100, R101, R103) -/

theorem State.tickTest_of_off (h : s.gsc.engine = .off) : s.tickTest
    = if startTest s.mpt.copy s.gsc (liveGensets s.ptb.entries) s.given s.nsq.op s.stp.held1 then s.engineAttempt else s := by
  simp only [State.tickTest, h]

theorem State.tickTest_of_running (h : s.gsc.engine = .running) : s.tickTest
    = if stopCondition s.mpt.copy s.gsc s.given.quiet && s.gsc.runMet then s.engineCooldown else s := by
  simp only [State.tickTest, h]

theorem State.tickTest_of_cooldown (h : s.gsc.engine = .cooldown) : s.tickTest
    = if returnTest s.mpt.copy s.gsc (liveGensets s.ptb.entries) s.given s.nsq.op then s.engineRunning else s := by
  simp only [State.tickTest, h]

theorem State.tickTest_of_steady (h : s.gsc.engine = .cranking ∨ s.gsc.engine = .warming ∨ s.gsc.engine = .faulted) :
    s.tickTest = s := by
  rcases h with h | h | h <;> simp only [State.tickTest, h]

theorem State.tickEngine_of_given (h : s.given.shutdown = false) : s.tickEngine = s.tickTest := by
  rw [State.tickEngine, if_neg (by rw [h]; decide)]

/-- Under SHUTDOWN no test moves an engine that does not run. -/
theorem State.tickTest_of_shutdown (h : s.given.shutdown = true) (hne : s.gsc.engine ≠ .running) : s.tickTest = s := by
  cases he : s.gsc.engine with
  | off => rw [State.tickTest_of_off he, if_neg (by simp [startTest, h])]
  | cooldown => rw [State.tickTest_of_cooldown he, if_neg (by simp [returnTest, h])]
  | running => exact absurd he hne
  | cranking => exact State.tickTest_of_steady (.inl he)
  | warming => exact State.tickTest_of_steady (.inr (.inl he))
  | faulted => exact State.tickTest_of_steady (.inr (.inr he))

theorem EngineMoved.given {g : Genset} {k : EngineCommand} (h : EngineMoved s t g k) : t.given = s.given :=
  State.given_of_eq (h.kept .ptb (by decide)) (State.status_of_stu _ (h.kept .stu (by decide)))

/-- SHUTDOWN acts before the test, which it leaves nothing to do (R103). -/
theorem State.tickEngine_of_shutdown (hr : s.role = some .genset) (hseq : s.mpt.ringSeq < seqMax) (h : s.given.shutdown = true) :
    s.tickEngine = s.engineWithdrawn := by
  obtain ⟨hdeliver, hcrank, hrest⟩ := State.engineWithdrawn_cases hr hseq
  rw [State.tickEngine, if_pos h]
  have hmove : ∀ {g : Genset} {k : EngineCommand}, EngineMoved s s.engineWithdrawn g k → g.engine ≠ .running →
      s.engineWithdrawn.tickTest = s.engineWithdrawn := fun hm hne =>
    State.tickTest_of_shutdown (hm.given ▸ h) (by rw [hm.gsc]; exact hne)
  cases he : s.gsc.engine with
  | off =>
    rw [hrest (.inl he)]
    exact State.tickTest_of_shutdown h (by rw [he]; decide)
  | cooldown =>
    rw [hrest (.inr (.inl he))]
    exact State.tickTest_of_shutdown h (by rw [he]; decide)
  | faulted =>
    rw [hrest (.inr (.inr he))]
    exact State.tickTest_of_shutdown h (by rw [he]; decide)
  | warming => exact hmove (hdeliver (.inl he)) nofun
  | running => exact hmove (hdeliver (.inr he)) nofun
  | cranking => exact hmove (hcrank he) nofun

end
end Sys2Proof.Machine
end

/-! # The start decision and the samples of a tick (R88 to R95) -/
section
namespace Sys2Proof.Machine

section
variable {c : Instr} {s t u : State}

/-! ### The secondary's primary (R90, R93) -/

theorem primaryOf_cases (gs : List (Address × Nat × EngineState)) : primaryOf gs = none ∧ (∀ x ∈ gs, x.2.2 = .faulted)
    ∨ ∃ p ∈ gs, primaryOf gs = some p ∧ p.2.2 ≠ .faulted ∧ ∀ x ∈ gs, x.2.2 ≠ .faulted → p.1 ≤ x.1 := by
  induction gs with
  | nil => exact .inl ⟨rfl, nofun⟩
  | cons g gs ih =>
    rcases ih with ⟨hnone, hall⟩ | ⟨p, hp, hsome, hpf, hmin⟩
    · simp only [primaryOf, hnone]
      split
      · next hf => exact .inl ⟨rfl, List.forall_mem_cons.mpr ⟨hf, hall⟩⟩
      · next hf =>
        exact .inr ⟨g, List.mem_cons_self, rfl, hf, List.forall_mem_cons.mpr
          ⟨fun _ => BitVec.le_refl _, fun x hx hxf => absurd (hall x hx) hxf⟩⟩
    · simp only [primaryOf, hsome]
      split
      · next h =>
        exact .inr ⟨g, List.mem_cons_self, rfl, h.1, List.forall_mem_cons.mpr
          ⟨fun _ => BitVec.le_refl _, fun x hx hxf => BitVec.le_trans (BitVec.le_of_lt h.2) (hmin x hx hxf)⟩⟩
      · next h =>
        refine .inr ⟨p, List.mem_cons_of_mem _ hp, rfl, hpf, List.forall_mem_cons.mpr ⟨fun hgf => ?_, hmin⟩⟩
        exact BitVec.not_lt.mp fun hlt => h ⟨hgf, hlt⟩

theorem eq_of_address {gs : List (Address × Nat × EngineState)} (hn : (gs.map (·.1)).Nodup) {x y : Address × Nat × EngineState} (hx : x ∈ gs) (hy : y ∈ gs)
    (h : x.1 = y.1) : x = y := List.inj_on_of_nodup_map hn hx hy h

/-- The secondary's start want, the addresses being apart (R93). -/
theorem secondaryWant_iff {gs : List (Address × Nat × EngineState)} (hn : (gs.map (·.1)).Nodup) (n : Int) : secondaryWant gs n = true
    ↔ ∃ g ∈ gs, g.2.2 = .running ∧ (∀ x ∈ gs, x.2.2 ≠ .faulted → g.1 ≤ x.1) ∧ ((g.2.1 * 80 / 100 : Nat) : Int) ≤ n := by
  unfold secondaryWant
  rcases primaryOf_cases gs with ⟨hnone, hall⟩ | ⟨p, hp, hsome, hpf, hmin⟩
  · rw [hnone]
    refine ⟨nofun, ?_⟩
    rintro ⟨g, hg, hrun, -⟩
    rw [hall g hg] at hrun
    cases hrun
  · rw [hsome]
    simp only [Bool.and_eq_true, beq_iff_eq, decide_eq_true_iff]
    refine ⟨fun ⟨hrun, hle⟩ => ⟨p, hp, hrun, hmin, hle⟩, ?_⟩
    rintro ⟨g, hg, hrun, hgmin, hle⟩
    have hgf : g.2.2 ≠ .faulted := by rw [hrun]; decide
    obtain rfl := eq_of_address hn hg hp (BitVec.le_antisymm (hgmin p hp hpf) (hmin g hg hgf))
    exact ⟨hrun, hle⟩

/-- Tables whose entries are apart have live gensets that are apart. -/
theorem liveGensets_nodup {es : List PeerEntry} (h : (es.map PeerEntry.address).Nodup) : ((liveGensets es).map (·.1)).Nodup := by
  have hsub : ∀ l : List PeerEntry, (List.map (·.1) (l.filterMap fun e =>
      match e.part with
      | .genset po _ engine => some (e.address, po, engine)
      | .axle _ _ _ _ _ | .pack _ _ _ => none)).Sublist (l.map PeerEntry.address) := by
    intro l
    induction l with
    | nil => exact .slnil
    | cons e l ih =>
      rw [List.filterMap_cons]
      cases e.part with
      | axle => exact ih.cons _
      | pack => exact ih.cons _
      | genset => exact ih.cons_cons _
  exact List.Nodup.sublist ((hsub _).trans (List.filter_sublist.map _)) h

/-! ### The start test (R92) -/

theorem reportsIdle_iff {h1 : Option Partner1} : reportsIdle h1 = true
    ↔ ∃ nib e coolant, h1 = some ⟨nib, .controller e coolant⟩ ∧ e ≠ .running := by
  unfold reportsIdle engineRecord
  rcases h1 with _ | ⟨nib, _ | _ | ⟨e, coolant⟩⟩ <;> simp

theorem zoneAllows_iff {copy : List Word} {quiet : Bool} {soc : Nat} :
    zoneAllows copy quiet soc = true ↔ quiet = false ∨ soc < socFloor copy := by
  rw [zoneAllows, Bool.or_eq_true, Bool.not_eq_true', decide_eq_true_iff]

theorem startTest_iff {copy : List Word} {g : Genset} {gs : List (Address × Nat × EngineState)} {given : DemandRecord} {op : OpState}
    {h1 : Option Partner1} : startTest copy g gs given op h1 = true ↔ startWant copy g gs = true
      ∧ g.dwell * 1000 ≤ g.off.elapsed ∧ g.starts.length < 6 ∧ (given.quiet = false ∨ g.socMin < socFloor copy)
      ∧ (∀ x ∈ gs, x.2.2 ≠ .cranking) ∧ op = .active ∧ given.shutdown = false
      ∧ ∃ nib e coolant, h1 = some ⟨nib, .controller e coolant⟩ ∧ e ≠ .running := by
  rw [← reportsIdle_iff, ← zoneAllows_iff]
  simp only [startTest, Bool.and_eq_true, decide_eq_true_iff, List.all_eq_true, bne_iff_ne, beq_iff_eq, Bool.not_eq_true', and_assoc]

theorem startWant_iff {copy : List Word} {g : Genset} {gs : List (Address × Nat × EngineState)} (hn : (gs.map (·.1)).Nodup) :
    startWant copy g gs = true ↔ if g.primary then
        g.socMin < socStart copy ∨ (pStart copy : Int) ≤ g.nBar ∧ g.socMin < socHi copy
      else ∃ x ∈ gs, x.2.2 = .running ∧ (∀ y ∈ gs, y.2.2 ≠ .faulted → x.1 ≤ y.1) ∧ ((x.2.1 * 80 / 100 : Nat) : Int) ≤ g.nBar := by
  unfold startWant
  split
  · simp only [primaryWant, Bool.or_eq_true, Bool.and_eq_true, decide_eq_true_iff]
  · exact secondaryWant_iff hn _

/-! ### The items at an attempt (R95, R118) -/

theorem Wear.reported_items (w : Wear) (copy : List Word) (e : EngineState) :
    (w.reported copy e).items[0]? = w.items[0]? ∧ (w.reported copy e).items[2]? = w.items[2]? := by
  unfold Wear.reported
  split
  · exact ⟨rfl, rfl⟩
  · split
    · exact ⟨List.getElem?_set_ne (by decide), List.getElem?_set_ne (by decide)⟩
    · exact ⟨rfl, rfl⟩

theorem attemptItems_eq (g1 g2 g3 : WearItem) (copy : List Word) (cold : Bool) : attemptItems [g1, g2, g3] copy cold
    = [g1.add copy 1 1, g2, if cold then g3.add copy 3 1 else g3] := by
  cases cold <;> rfl

theorem coldEngine_of_controller (nib : BitVec 4) (e : EngineReport) (coolant : Int) :
    coldEngine (some ⟨nib, .controller e coolant⟩) = decide (coolant < 10) := rfl

/-! ### The decision of a tick in OFF -/

theorem State.tickEngine_of_off (h : s.gsc.engine = .off) : s.tickEngine = s.tickTest := by
  have hw : s.engineWithdrawn = s := by simp only [State.engineWithdrawn, h]
  rw [State.tickEngine, hw, ite_self]

/-- Settles O45: the start test is the conjunction of its conditions, and an attempt moves the engine and its items. -/
theorem attemptsNeedEveryStartCondition : Obligations.AttemptsNeedEveryStartCondition := by
  unfold Obligations.AttemptsNeedEveryStartCondition
  intro s hs hserves hr hrun hdue hclock hoff copy gs kept
  let o := s.setGsc s.sampled
  have hexec := exec_tick hserves hr hrun hdue hclock
  have ho : o.tickEngine = if startTest copy s.sampled gs s.given s.nsq.op s.stp.held1 then o.engineAttempt else o := by
    rw [State.tickEngine_of_off (s := o) hoff, State.tickTest_of_off (s := o) hoff]
    rfl
  have hiff := startTest_iff (copy := copy) (g := s.sampled) (gs := gs) (given := s.given) (op := s.nsq.op) (h1 := s.stp.held1)
  cases htest : startTest copy s.sampled gs s.given s.nsq.op s.stp.held1 with
  | true =>
    rw [if_pos htest] at ho
    obtain ⟨hkept, hw, hgsc, hstp, -, -, -, hitems⟩ := State.engineAttempt_frame (s := o) hr
    obtain ⟨htk, htgsc, htwau⟩ := hs.tickEnds (e := o.engineAttempt) s.gsc.engine (hkept .nsq (by decide))
      (hw.trans (State.withdraws_of_stu rfl))
    rw [show (s.setGsc s.sampled).tickEngine = o.engineAttempt from ho] at hexec
    generalize ((o.engineAttempt.tickPower s.gsc.engine).tickReport).settle = t at hexec htk htgsc htwau
    have htg : t.gsc = o.gsc.attempted.reform o.mpt.copy o.nsq.op o.stp.held0 := by
      rw [htgsc, hoff]
      exact hgsc
    have htstp : t.stp.slot1 = some (.engine .crank) := by
      rw [htk .stp (by decide), hstp]
    refine ⟨t, hexec, ?_⟩
    intro want allowed hnodup
    have hwa : want ∧ allowed := by
      have h := hiff.mp htest
      rw [startWant_iff (liveGensets_nodup hnodup), ← show t.gsc.primary = s.sampled.primary by rw [htg]; rfl,
        ← show t.gsc.socMin = s.sampled.socMin by rw [htg]; rfl, ← show t.gsc.nBar = s.sampled.nBar by rw [htg]; rfl] at h
      exact h
    refine ⟨fun _ => ⟨?_, ?_, ?_, ?_, htstp, ?_, ?_, fun g1 g2 g3 hits h1 h3 => ?_⟩, fun hno => absurd hwa hno⟩
    · rw [htg]; rfl
    · rw [htg]; rfl
    · rw [htg]; rfl
    · rw [htg]; rfl
    · rw [htg]; rfl
    · rw [htg]; rfl
    · obtain ⟨hi0, hi2⟩ := o.engineAttempt.wau.reported_items o.engineAttempt.mpt.copy o.engineAttempt.gsc.engine
      rw [← htwau, hitems, show o.wau.items = [g1, g2, g3] from hits, attemptItems_eq] at hi0 hi2
      refine ⟨⟨_, hi0, WearItem.add_one _ _ h1⟩, _, hi2, fun nib e coolant hh => ?_⟩
      rw [show o.stp.held1 = some ⟨nib, .controller e coolant⟩ from hh, coldEngine_of_controller]
      refine ⟨fun hcold => ?_, fun hwarm => ?_⟩
      · rw [decide_eq_true hcold]
        exact WearItem.add_one _ _ h3
      · rw [decide_eq_false (by omega)]
        rfl
  | false =>
    rw [if_neg (by rw [htest]; decide)] at ho
    obtain ⟨htk, htgsc, -⟩ := hs.tickEnds (e := o) s.gsc.engine rfl (State.withdraws_of_stu rfl)
    rw [show (s.setGsc s.sampled).tickEngine = o from ho] at hexec
    generalize ((o.tickPower s.gsc.engine).tickReport).settle = t at hexec htk htgsc
    have htg : t.gsc = s.sampled := by
      rw [htgsc, hoff]
      rfl
    have htstp : t.stp = s.stp := htk .stp (by decide)
    refine ⟨t, hexec, ?_⟩
    intro want allowed hnodup
    have hwa : ¬ (want ∧ allowed) := fun h => by
      have hno := mt hiff.mpr (by rw [htest]; decide)
      rw [startWant_iff (liveGensets_nodup hnodup), ← show t.gsc.primary = s.sampled.primary by rw [htg],
        ← show t.gsc.socMin = s.sampled.socMin by rw [htg], ← show t.gsc.nBar = s.sampled.nBar by rw [htg]] at hno
      exact hno h
    refine ⟨fun h => absurd h hwa, fun _ => ⟨?_, ?_, by rw [htstp], ?_⟩⟩
    · rw [htg]; exact hoff
    · rw [htg]; rfl
    · rw [htg]; rfl

end
end Sys2Proof.Machine
end

/-! # The samples and the tests of a tick (R87 to R90, R94, R98, R100, R101, R103, R118) -/
section
namespace Sys2Proof.Machine

section
variable {c : Instr} {s t u : State}

/-! ### The samples (R88 to R90) -/

theorem leastSoc_le {l : List Nat} {x : Nat} (h : x ∈ l) : leastSoc l ≤ x := by
  induction l with
  | nil => cases h
  | cons a l ih =>
    cases l with
    | nil => exact (List.mem_singleton.mp h).ge
    | cons b l =>
      rcases List.mem_cons.mp h with rfl | h
      · exact Nat.min_le_left _ _
      · exact (Nat.min_le_right _ _).trans (ih h)

theorem leastSoc_mem {l : List Nat} (h : l ≠ []) : leastSoc l ∈ l := by
  induction l with
  | nil => exact absurd rfl h
  | cons a l ih =>
    cases l with
    | nil => exact List.mem_singleton.mpr rfl
    | cons b l =>
      have hmem := ih (List.cons_ne_nil _ _)
      show min a (leastSoc (b :: l)) ∈ _
      rcases Nat.le_total a (leastSoc (b :: l)) with hle | hle
      · rw [Nat.min_eq_left hle]
        exact List.mem_cons_self
      · rw [Nat.min_eq_right hle]
        exact List.mem_cons_of_mem _ hmem

theorem mem_liveSocs {es : List PeerEntry} {soc : Nat} :
    soc ∈ liveSocs es ↔ ∃ e ∈ es, e.live = true ∧ ∃ po pa, e.part = .pack po pa soc := by
  simp only [liveSocs, liveEntries, List.mem_filterMap, List.mem_filter, and_assoc]
  refine exists_congr fun e => and_congr_right fun _ => and_congr_right fun _ => ?_
  cases e.part <;> simp

theorem mem_liveGensets {es : List PeerEntry} {x : Address × Nat × EngineState} :
    x ∈ liveGensets es ↔ ∃ e ∈ es, e.live = true ∧ ∃ po pa g, e.part = .genset po pa g ∧ x = (e.address, po, g) := by
  simp only [liveGensets, liveEntries, List.mem_filterMap, List.mem_filter, and_assoc]
  refine exists_congr fun e => and_congr_right fun _ => and_congr_right fun _ => ?_
  cases e.part <;> simp [eq_comm]

theorem isPrimary_iff {own : Address} {es : List PeerEntry} : isPrimary own (liveGensets es) = true
    ↔ ∀ e ∈ es, e.live = true → ∀ po pa g, e.part = .genset po pa g → e.address < own → g = .faulted := by
  rw [isPrimary, List.all_eq_true]
  have hx : ∀ x : Address × Nat × EngineState, (!(decide (x.1 < own) && x.2.2 != .faulted)) = true
      ↔ (x.1 < own → x.2.2 = .faulted) := fun x => by
    simp only [Bool.not_eq_true', Bool.and_eq_false_iff, decide_eq_false_iff_not, bne_eq_false_iff_eq]
    exact Decidable.imp_iff_not_or.symm
  refine ⟨fun h e he hl po pa g hp hlt => ?_, fun h x hmem => ?_⟩
  · exact (hx (e.address, po, g)).mp (h _ (mem_liveGensets.mpr ⟨e, he, hl, po, pa, g, hp, rfl⟩)) hlt
  · obtain ⟨e, he, hl, po, pa, g, hp, rfl⟩ := mem_liveGensets.mp hmem
    exact (hx _).mpr (h e he hl po pa g hp)

theorem runningCount_eq (es : List PeerEntry) : runningCount (liveGensets es)
    = ((es.filter PeerEntry.live).filter fun e => match e.part with
      | .genset _ _ g => g == .running
      | _ => false).length + 1 := by
  have hcount : ∀ l : List PeerEntry, ((l.filterMap fun e =>
      match e.part with
      | .genset po _ engine => some (e.address, po, engine)
      | .axle _ _ _ _ _ | .pack _ _ _ => none).filter fun x => x.2.2 == EngineState.running).length
      = (l.filter fun e => match e.part with
        | .genset _ _ g => g == .running
        | _ => false).length := by
    intro l
    induction l with
    | nil => rfl
    | cons e l ih =>
      rw [List.filterMap_cons]
      cases hp : e.part with
      | axle => simp [hp, ih]
      | pack => simp [hp, ih]
      | genset po pa g => cases g <;> simp [hp, ih]
  exact congrArg (· + 1) (hcount _)

/-! ### P_set and the run report (R98, R118) -/

theorem formPSet_eq (copy : List Word) (g : Genset) (es : List PeerEntry) (h : Nat) (he : g.engine = .warming ∨ g.engine = .running) :
    formPSet copy g (liveGensets es) h
      = (max 0 (min (g.nBar + ((gainK copy : Int) * ((socTarget copy : Int) - g.socMin)).tdiv 10)
          ((poRated copy * (if g.engine = .warming then min 30 h else h) / 100 : Nat) : Int))).toNat
        / (((es.filter PeerEntry.live).filter fun e => match e.part with
            | .genset _ _ g => g == .running
            | _ => false).length + 1) := by
  have hpo : gensetPo copy h g.engine = poRated copy * (if g.engine = .warming then min 30 h else h) / 100 := by
    rcases he with he | he <;> rw [he] <;> rfl
  rw [formPSet, hpo, runningCount_eq]
  rw [clampInt_eq (by omega)]

theorem Wear.reported_law {w : Wear} {copy : List Word} {e : EngineState} {x : WearItem} (h : w.items[1]? = some x)
    (hx : x.acc < accMax) :
    (e = .off ∨ e = .faulted → (w.reported copy e).runSeconds = w.runSeconds ∧ (w.reported copy e).items[1]? = some x)
    ∧ (e ≠ .off → e ≠ .faulted → w.runSeconds < 59 →
        (w.reported copy e).runSeconds = w.runSeconds + 1 ∧ (w.reported copy e).items[1]? = some x)
    ∧ (e ≠ .off → e ≠ .faulted → 59 ≤ w.runSeconds →
        (w.reported copy e).runSeconds = 0 ∧ ∃ x', (w.reported copy e).items[1]? = some x' ∧ x'.acc = x.acc + 1) := by
  unfold Wear.reported
  refine ⟨fun he => ?_, fun h1 h2 hlt => ?_, fun h1 h2 hle => ?_⟩
  · rw [if_pos he]
    exact ⟨rfl, h⟩
  · rw [if_neg (by rintro (h | h) <;> contradiction), if_neg (by omega)]
    exact ⟨rfl, h⟩
  · rw [if_neg (by rintro (h | h) <;> contradiction), if_pos (by omega)]
    obtain ⟨hlen, -⟩ := List.getElem?_eq_some_iff.mp h
    refine ⟨rfl, _, List.getElem?_set_self hlen, ?_⟩
    rw [itemAt_of_getElem? h]
    exact WearItem.add_one _ _ hx

/-! ### The engine's step of a tick -/

/-- What a tick's test does not touch of the scheduler. -/
def Genset.samples (g : Genset) : Timer × Nat × List Int × Int × Nat × Bool × Timer × Bool :=
  (g.tick, g.clock, g.netLoad, g.nBar, g.socMin, g.primary, g.run, g.runMet)

/-- What the engine's step of a tick leaves. -/
structure TickMoved (s t : State) : Prop where
  kept : KeptBut s t [.gsc, .stp, .mpt, .wau, .stu]
  withdraws : t.withdraws = s.withdraws
  held0 : t.stp.held0 = s.stp.held0
  held1 : t.stp.held1 = s.stp.held1
  copy : t.mpt.copy = s.mpt.copy
  eeprom : t.mpt.eeprom = s.mpt.eeprom
  samples : t.gsc.samples = s.gsc.samples
  starts : t.gsc.starts = s.gsc.starts ∨ t.gsc.starts = s.gsc.starts ++ [s.gsc.clock]
  runSeconds : t.wau.runSeconds = s.wau.runSeconds
  item1 : t.wau.items[1]? = s.wau.items[1]?

theorem TickMoved.refl (s : State) : TickMoved s s :=
  ⟨.refl s _, rfl, rfl, rfl, rfl, rfl, rfl, .inl rfl, rfl, rfl⟩

theorem TickMoved.of_moved {g : Genset} {k : EngineCommand} (h : EngineMoved s t g k) (hg : g.samples = s.gsc.samples)
    (hs : g.starts = s.gsc.starts) : TickMoved s t where
  kept := h.kept.mono (by decide)
  withdraws := State.withdraws_of_stu (h.kept .stu (by decide))
  held0 := by rw [h.stp]
  held1 := by rw [h.stp]
  copy := h.copy
  eeprom := h.eeprom
  samples := by rw [h.gsc]; exact hg
  starts := .inl (by rw [h.gsc]; exact hs)
  runSeconds := congrArg Wear.runSeconds (h.kept .wau (by decide))
  item1 := by rw [show t.wau = s.wau from h.kept .wau (by decide)]

theorem TickMoved.attempt (hr : s.role = some .genset) : TickMoved s s.engineAttempt := by
  obtain ⟨hkept, hw, hgsc, hstp, hcopy, heeprom, hrs, hitems⟩ := State.engineAttempt_frame hr
  refine ⟨hkept.mono (by decide), hw, by rw [hstp], by rw [hstp], hcopy, heeprom, by rw [hgsc]; rfl, .inr (by rw [hgsc]; rfl), hrs, ?_⟩
  rw [hitems]
  unfold attemptItems
  dsimp only
  split
  · rw [setItem, List.getElem?_set_ne (by decide)]
    exact List.getElem?_set_ne (by decide)
  · exact List.getElem?_set_ne (by decide)

theorem TickMoved.tickEngine (hr : s.role = some .genset) (hseq : s.mpt.ringSeq < seqMax) : TickMoved s s.tickEngine := by
  cases hsd : s.given.shutdown with
  | true =>
    obtain ⟨hdeliver, hcrank, hrest⟩ := State.engineWithdrawn_cases hr hseq
    rw [State.tickEngine_of_shutdown hr hseq hsd]
    cases he : s.gsc.engine with
    | warming => exact .of_moved (hdeliver (.inl he)) rfl rfl
    | running => exact .of_moved (hdeliver (.inr he)) rfl rfl
    | cranking => exact .of_moved (hcrank he) rfl rfl
    | off => rw [hrest (.inl he)]; exact .refl s
    | cooldown => rw [hrest (.inr (.inl he))]; exact .refl s
    | faulted => rw [hrest (.inr (.inr he))]; exact .refl s
  | false =>
    rw [State.tickEngine_of_given hsd]
    cases he : s.gsc.engine with
    | off =>
      rw [State.tickTest_of_off he]
      split
      · exact .attempt hr
      · exact .refl s
    | running =>
      rw [State.tickTest_of_running he]
      split
      · exact .of_moved (.cooldown hr) rfl rfl
      · exact .refl s
    | cooldown =>
      rw [State.tickTest_of_cooldown he]
      split
      · exact .of_moved (.running hr) rfl rfl
      · exact .refl s
    | cranking => rw [State.tickTest_of_steady (.inl he)]; exact .refl s
    | warming => rw [State.tickTest_of_steady (.inr (.inl he))]; exact .refl s
    | faulted => rw [State.tickTest_of_steady (.inr (.inr he))]; exact .refl s

theorem Genset.powered_eq (g : Genset) (before : EngineState) (copy : List Word) (gs : List (Address × Nat × EngineState)) (h : Nat) :
    g.powered before copy gs h = { g with pSet := (g.powered before copy gs h).pSet }
    ∧ (before.delivers = true → g.engine.delivers = true → (g.powered before copy gs h).pSet = formPSet copy g gs h)
    ∧ (g.engine.delivers = false → (g.powered before copy gs h).pSet = g.pSet) := by
  unfold Genset.powered
  refine ⟨?_, fun h1 h2 => by rw [if_pos (by rw [h1, h2]; rfl)], fun h2 => by rw [if_neg (by rw [h2, Bool.and_false]; decide)]⟩
  split <;> rfl

theorem delivers_iff {e : EngineState} : e.delivers = true ↔ e = .warming ∨ e = .running := by
  cases e <;> decide

theorem stopCondition_iff {copy : List Word} {g : Genset} {quiet : Bool} : stopCondition copy g quiet = true
    ↔ socStop copy ≤ g.socMin ∧ g.nBar < pStop copy ∨ quiet = true ∧ socFloor copy + 100 ≤ g.socMin := by
  simp only [stopCondition, Bool.or_eq_true, Bool.and_eq_true, decide_eq_true_iff]

theorem returnTest_iff {copy : List Word} {g : Genset} {gs : List (Address × Nat × EngineState)} {given : DemandRecord}
    {op : OpState} (h : given.shutdown = false) : returnTest copy g gs given op = true
      ↔ startWant copy g gs = true ∧ (given.quiet = false ∨ g.socMin < socFloor copy) ∧ op = .active := by
  rw [← zoneAllows_iff]
  simp only [returnTest, h, Bool.and_eq_true, beq_iff_eq, Bool.not_false, and_true, and_assoc]

/-- What a tick has made when its event ends, by the state after its test. -/
structure Ticked (s e t : State) : Prop where
  moved : TickMoved (s.setGsc s.sampled) e
  kept : KeptBut e t [.gsc, .wau, .stu, .sli]
  gsc : t.gsc = e.gsc.powered s.gsc.engine s.mpt.copy (liveGensets s.ptb.entries) (heldThermal s.stp.held0)
  wau : t.wau = e.wau.reported s.mpt.copy t.gsc.engine

theorem exec_ticked (hs : Settled s) (hserves : s.serves = true) (hr : s.role = some .genset)
    (hrun : s.gsc.tick.running = true) (hdue : 1000 ≤ s.gsc.tick.elapsed) (hclock : s.gsc.clock < clockMax)
    (hseq : s.mpt.ringSeq < seqMax) : ∃ t, exec .tick s = .next t ∧ Ticked s (s.setGsc s.sampled).tickEngine t := by
  have hm : TickMoved (s.setGsc s.sampled) (s.setGsc s.sampled).tickEngine := .tickEngine hr hseq
  have hexec := exec_tick hserves hr hrun hdue hclock
  generalize (s.setGsc s.sampled).tickEngine = e at hm hexec
  obtain ⟨htk, htgsc, htwau⟩ := hs.tickEnds (e := e) s.gsc.engine (hm.kept .nsq (by decide))
    (hm.withdraws.trans (State.withdraws_of_stu rfl))
  have hptb : e.ptb = s.ptb := hm.kept .ptb (by decide)
  rw [hm.copy, hptb, hm.held0] at htgsc
  refine ⟨_, hexec, hm, htk, htgsc, ?_⟩
  rw [htwau, htgsc, Genset.powered_engine, hm.copy]
  rfl

/-- Settles O44: the samples, the engine's step and the tick's end. -/
theorem ticksTakeTheirSamples : Obligations.TicksTakeTheirSamples := by
  unfold Obligations.TicksTakeTheirSamples
  intro s hs hserves hr hrun hdue hclock hseq sample ring
  obtain ⟨t, hexec, hticked⟩ := exec_ticked hs hserves hr hrun hdue hclock hseq
  let o := s.setGsc s.sampled
  have hgiven : ∀ h : s.given.shutdown = false, o.tickEngine = o.tickTest := fun h => State.tickEngine_of_given (s := o) h
  have hshut : ∀ h : s.given.shutdown = true, o.tickEngine = o.engineWithdrawn := fun h =>
    State.tickEngine_of_shutdown (s := o) hr hseq h
  have hwithdrawn := State.engineWithdrawn_cases (s := o) hr hseq
  have hsteady := State.tickTest_of_steady (s := o)
  have hrunning := State.tickTest_of_running (s := o)
  have hcooldown := State.tickTest_of_cooldown (s := o)
  have hmcool : EngineMoved o o.engineCooldown o.gsc.enterCooldown .run := .cooldown hr
  have hmrun : EngineMoved o o.engineRunning o.gsc.enterRunning .run := .running hr
  obtain ⟨hm, htk, htgsc, htwau⟩ := hticked
  obtain ⟨hpow, hpset, hpzero⟩ := (o.tickEngine.gsc).powered_eq s.gsc.engine s.mpt.copy (liveGensets s.ptb.entries)
    (heldThermal s.stp.held0)
  rw [← htgsc] at hpow hpset hpzero
  have hsamples : t.gsc.samples = s.sampled.samples := by
    rw [hpow]
    exact hm.samples
  simp only [Genset.samples, Prod.mk.injEq] at hsamples
  obtain ⟨htick, htclock, hnet, hnbar, hsoc, hprimary, hrunt, hmet⟩ := hsamples
  have hsample : netLoadSample s.ptb.entries s.given.aux = sample := by
    refine congrArg (fun l => List.sum l + (s.given.aux : Int)) (List.map_congr_left fun e _ => ?_)
    cases e.part <;> rfl
  have hring : pushSample s.gsc.netLoad (netLoadSample s.ptb.entries s.given.aux) = ring := by
    rw [hsample]
    rfl
  have hmove : ∀ {e : State} {g : Genset} {k : EngineCommand}, o.tickEngine = e → EngineMoved o e g k →
      t.gsc = { g.reform s.mpt.copy s.nsq.op s.stp.held0 with pSet := t.gsc.pSet }
      ∧ (g.engine.delivers = false → t.gsc.pSet = g.pSet) := fun he hmv => by
    rw [he, hmv.gsc] at hpow hpzero
    exact ⟨hpow, hpzero⟩
  have hstay : o.tickEngine = o → t.gsc = { s.sampled with pSet := t.gsc.pSet } := fun he => by
    rw [he] at hpow
    exact hpow
  refine ⟨t, hexec, htick, htclock, ?_, ?_, fun e he hl po pa soc hp => ?_, ?_, fun hno => ?_, ?_, fun r hmem => ?_, fun heq hd => ?_,
    fun hsd => ?_, fun hsd => ?_, fun g1 x g3 hits hx => ?_, ?_, ?_, ?_, ?_, ?_, ?_⟩
  · exact hnet.trans hring
  · exact hnbar.trans (congrArg ringAverage hring)
  · rw [hsoc]
    exact leastSoc_le (mem_liveSocs.mpr ⟨e, he, hl, po, pa, hp⟩)
  · rintro ⟨e, he, hl, po, pa, soc, hp⟩
    rw [hsoc]
    exact mem_liveSocs.mp (leastSoc_mem (List.ne_nil_of_mem (mem_liveSocs.mpr ⟨e, he, hl, po, pa, hp⟩)))
  · have hnil : liveSocs s.ptb.entries = [] := List.eq_nil_iff_forall_not_mem.mpr fun soc hmem => by
      obtain ⟨e, he, hl, po, pa, hp⟩ := mem_liveSocs.mp hmem
      exact hno e he hl po pa soc hp
    rw [hsoc]
    exact congrArg leastSoc hnil
  · rw [hprimary]
    exact isPrimary_iff
  · have hstarts : t.gsc.starts = o.tickEngine.gsc.starts := by rw [hpow]
    rw [hstarts] at hmem
    have hclock' : t.gsc.clock = s.sampled.clock := htclock
    have hold : ∀ r ∈ s.sampled.starts, s.sampled.clock - r < 600 := fun r hr =>
      of_decide_eq_true (List.mem_filter.mp hr).2
    rw [hclock']
    rcases hm.starts with h | h <;> rw [h] at hmem
    · exact hold r hmem
    · rcases List.mem_append.mp hmem with hmem | hmem
      · exact hold r hmem
      · rw [List.mem_singleton.mp hmem]
        show s.sampled.clock - s.sampled.clock < 600
        omega
  · intro want h po count
    have hengine : o.tickEngine.gsc.engine = t.gsc.engine := by rw [hpow]
    have hd' := delivers_iff.mpr hd
    rw [hpset (by rw [heq]; exact hd') (by rw [hengine]; exact hd')]
    have hform := formPSet_eq s.mpt.copy o.tickEngine.gsc s.ptb.entries (heldThermal s.stp.held0) (by rw [hengine]; exact hd)
    rw [hengine, ← show t.gsc.nBar = o.tickEngine.gsc.nBar by rw [hpow],
      ← show t.gsc.socMin = o.tickEngine.gsc.socMin by rw [hpow]] at hform
    exact hform
  · intro stop back
    have hstop : stop ↔ stopCondition s.mpt.copy s.sampled s.given.quiet = true := by
      rw [stopCondition_iff, ← hsoc, ← hnbar]
    have hback : back ↔ returnTest o.mpt.copy o.gsc (liveGensets o.ptb.entries) o.given o.nsq.op = true := by
      show back ↔ returnTest s.mpt.copy s.sampled (liveGensets s.ptb.entries) s.given s.nsq.op = true
      rw [returnTest_iff hsd, ← hsoc, startWant, ← hprimary, ← hsoc, ← hnbar]
      exact Iff.rfl
    have he := hgiven hsd
    refine ⟨fun hrng hst hmt => ?_, fun hrng hno => ?_, fun hcl hbk => ?_, fun hcl hbk => ?_, fun hoth => ?_⟩
    · rw [hrunning hrng, if_pos (by
        rw [Bool.and_eq_true]
        exact ⟨hstop.mp hst, hmt⟩)] at he
      obtain ⟨htg, hzero⟩ := hmove he hmcool
      rw [htg, hzero rfl]
      refine ⟨rfl, rfl, rfl, rfl, ?_, ?_⟩
      · exact ite_self _
      · exact ite_self _
    · rw [hrunning hrng, if_neg (by
        rw [Bool.and_eq_true]
        exact fun h => hno ⟨hstop.mpr h.1, h.2⟩)] at he
      rw [hstay he]
      exact hrng
    · rw [hcooldown hcl, if_pos (hback.mp hbk)] at he
      obtain ⟨htg, -⟩ := hmove he hmrun
      have hwau : o.tickEngine.wau = s.wau := by
        rw [he]
        exact hmrun.kept .wau (by decide)
      obtain ⟨hi0, hi2⟩ := o.tickEngine.wau.reported_items s.mpt.copy t.gsc.engine
      rw [← htwau, hwau] at hi0 hi2
      rw [htg]
      exact ⟨rfl, rfl, rfl, rfl, rfl, hi0, hi2⟩
    · rw [hcooldown hcl, if_neg (fun h => hbk (hback.mpr h))] at he
      rw [hstay he]
      exact ⟨hcl, rfl⟩
    · rw [hsteady hoth] at he
      rw [hstay he]
      rfl
  · have he := hshut hsd
    obtain ⟨hdeliver, hcrank, hrest⟩ := hwithdrawn
    refine ⟨fun hd => ?_, fun hck => ?_, fun hoth => ?_⟩
    · obtain ⟨htg, hzero⟩ := hmove he (hdeliver hd)
      rw [htg, hzero rfl]
      exact ⟨rfl, rfl, rfl, rfl, rfl⟩
    · obtain ⟨htg, -⟩ := hmove he (hcrank hck)
      rw [htg]
      exact ⟨rfl, rfl, rfl, rfl, rfl⟩
    · rw [hrest hoth] at he
      rw [hstay he]
      rfl
  · obtain ⟨h1, h2, h3⟩ := Wear.reported_law (w := o.tickEngine.wau) (copy := s.mpt.copy) (e := t.gsc.engine) (x := x)
      (by rw [hm.item1]; show s.wau.items[1]? = _; rw [hits]; rfl) hx
    rw [← htwau, hm.runSeconds] at h1 h2 h3
    exact ⟨h1, h2, h3⟩
  · exact (htk .ptb (by decide)).trans (hm.kept .ptb (by decide))
  · rw [htk .stp (by decide), hm.held0]
    rfl
  · rw [htk .stp (by decide), hm.held1]
    rfl
  · rw [htk .mpt (by decide), hm.eeprom]
    rfl
  · rw [htk .mpt (by decide), hm.copy]
    rfl
  · rw [htk .nsq (by decide), hm.kept .nsq (by decide)]
    rfl

end
end Sys2Proof.Machine
end

/-! # The GENSET role's completions (R91, R96, R97, R99, R101 to R104, R108) -/
section
namespace Sys2Proof.Machine

section
variable {c : Instr} {s t u : State}

/-! ### A completion with partner 0 (R99, R104) -/

theorem Follows.of_genset (hseq : s.mpt.ringSeq < seqMax) : Follows s s.settle := .of_settle fun _ => hseq

/-- A completion with partner 0 before its event's end. -/
def State.gensetFormed0 (s : State) : State :=
  ((s.setGsc (s.gsc.reform s.mpt.copy s.nsq.op s.stp.held0)).putStatus .stageHot (stageHotHolds s.stp.held0)).writeSlot0
    (.generator (generatorSetpoint s.mpt.copy s.gsc s.nsq.op (heldThermal s.stp.held0)))

theorem State.gensetCompletes0_eq (hr : s.role = some .genset) : s.gensetCompletes0 = s.gensetFormed0 := by
  unfold State.gensetCompletes0
  rw [State.reformOwn_of_genset hr]
  rfl

theorem generatorSetpoint_cases (copy : List Word) (g : Genset) (op : OpState) (h : Nat) :
    (op = .active → g.engine = .warming → generatorSetpoint copy g op h = min g.pSet (poRated copy * min 30 h / 100))
    ∧ (op = .active → g.engine = .running → generatorSetpoint copy g op h = min g.pSet (poRated copy * h / 100))
    ∧ (op ≠ .active ∨ g.engine ≠ .warming ∧ g.engine ≠ .running → generatorSetpoint copy g op h = 0) := by
  unfold generatorSetpoint
  refine ⟨fun ho he => ?_, fun ho he => ?_, fun hn => ?_⟩
  · rw [if_pos ⟨ho, delivers_iff.mpr (.inl he)⟩, he]
    rfl
  · rw [if_pos ⟨ho, delivers_iff.mpr (.inr he)⟩, he]
    rfl
  · refine if_neg fun ⟨ho, hd⟩ => ?_
    rcases hn with hn | ⟨h1, h2⟩
    · exact hn ho
    · exact (delivers_iff.mp hd).elim h1 h2

/-- The state in which the engine's part of an entry to WITHDRAWN is done (R104, R137). -/
theorem State.takeOp_withdrawn (hr : s.role = some .genset) :
    KeptBut s (s.takeOp .withdrawn).requestPrompt [.nsq, .pins, .gsc, .sli]
    ∧ (s.takeOp .withdrawn).requestPrompt.role = some .genset
    ∧ (s.takeOp .withdrawn).requestPrompt.nsq.op = .withdrawn
    ∧ (s.takeOp .withdrawn).requestPrompt.gsc = s.gsc.reform s.mpt.copy .withdrawn s.stp.held0 := by
  have htake : s.takeOp .withdrawn = ((s.setNsq { s.nsq with op := .withdrawn }).setPins
      { s.pins with ready := true, traction := false }).setGsc (s.gsc.reform s.mpt.copy .withdrawn s.stp.held0) :=
    State.reformOwn_of_genset (s := (s.setNsq { s.nsq with op := .withdrawn }).setPins _) hr
  rw [htake]
  exact ⟨((((KeptBut.refl s _).setNsq (by decide) _).setPins (by decide) _).setGsc (by decide) _).requestPrompt (by decide), hr, rfl, rfl⟩

/-- What an entry to WITHDRAWN makes of the scheduler and of partner 1's slot (R104). -/
theorem State.enterServing_withdrawn (hr : s.role = some .genset) (hseq : s.mpt.ringSeq < seqMax) :
    let t := s.enterServing .withdrawn
    t.gsc.ownPo = 0 ∧ t.gsc.ownPa = 0
    ∧ (s.gsc.engine = .warming ∨ s.gsc.engine = .running → t.gsc.engine = .cooldown ∧ t.gsc.cooldown = ⟨true, 0⟩
        ∧ t.gsc.pSet = 0 ∧ t.gsc.command = .run ∧ t.stp.slot1 = some (.engine .run))
    ∧ (s.gsc.engine = .cranking → t.gsc.engine = .off ∧ t.gsc.crank = ⟨false, 0⟩ ∧ t.gsc.off = ⟨true, 0⟩
        ∧ t.gsc.dwell = 20 ∧ t.gsc.failures = s.gsc.failures ∧ t.stp.slot1 = some (.engine .stop))
    ∧ (s.gsc.engine = .off ∨ s.gsc.engine = .cooldown ∨ s.gsc.engine = .faulted →
        t.gsc.engine = s.gsc.engine ∧ t.stp.slot1 = s.stp.slot1) := by
  intro t
  obtain ⟨hkept, hrole, hop, hgsc⟩ := State.takeOp_withdrawn hr
  have ht : t = (s.takeOp .withdrawn).requestPrompt.engineWithdrawn := by
    show s.enterServing .withdrawn = _
    rw [State.enterServing_eq, if_pos ⟨rfl, hrole⟩]
  generalize (s.takeOp .withdrawn).requestPrompt = w at hkept hrole hop hgsc ht
  have hmpt : w.mpt = s.mpt := hkept .mpt (by decide)
  have hstp : w.stp = s.stp := hkept .stp (by decide)
  have hengine : w.gsc.engine = s.gsc.engine := by rw [hgsc]; rfl
  obtain ⟨h1, h2, h3⟩ := State.engineWithdrawn_cases hrole (by rw [hmpt]; exact hseq)
  rw [← ht, hengine] at h1 h2 h3
  have hzero : ∀ {g : Genset} {k : EngineCommand}, EngineMoved w t g k → t.gsc.ownPo = 0 ∧ t.gsc.ownPa = 0 := fun hm => by
    rw [hm.gsc, hop]
    exact ⟨rfl, rfl⟩
  have hown : t.gsc.ownPo = 0 ∧ t.gsc.ownPa = 0 := by
    have hstay : t = w → t.gsc.ownPo = 0 ∧ t.gsc.ownPa = 0 := fun h => by
      rw [h, hgsc]
      exact ⟨rfl, rfl⟩
    cases he : s.gsc.engine with
    | warming => exact hzero (h1 (.inl he))
    | running => exact hzero (h1 (.inr he))
    | cranking => exact hzero (h2 he)
    | off => exact hstay (h3 (.inl he))
    | cooldown => exact hstay (h3 (.inr (.inl he)))
    | faulted => exact hstay (h3 (.inr (.inr he)))
  refine ⟨hown.1, hown.2, fun he => ?_, fun he => ?_, fun he => ?_⟩
  · rw [(h1 he).gsc, (h1 he).stp]
    exact ⟨rfl, rfl, rfl, rfl, rfl⟩
  · rw [(h2 he).gsc, (h2 he).stp, hgsc]
    exact ⟨rfl, rfl, rfl, rfl, rfl, rfl⟩
  · rw [h3 he, hengine, hstp]
    exact ⟨rfl, rfl⟩

/-- What a completion with partner 0 has made when its event ends. -/
structure GensetCompleted0 (s t : State) : Prop where
  slot0 : t.stp.slot0 = some (.generator (generatorSetpoint s.mpt.copy s.gsc s.nsq.op (heldThermal s.stp.held0)))
  held0 : t.stp.held0 = s.stp.held0
  hot : t.status .stageHot = stageHotHolds s.stp.held0
  wau : t.wau = s.wau
  ptb : t.ptb = s.ptb
  withdrawn : s.nsq.op = .active → t.nsq.op = .withdrawn →
    t.gsc = (s.gensetFormed0.enterServing .withdrawn).gsc ∧ t.stp = (s.gensetFormed0.enterServing .withdrawn).stp

theorem State.gensetCompletes0_settled (hr : s.role = some .genset) (hseq : s.mpt.ringSeq < seqMax) :
    GensetCompleted0 s s.gensetCompletes0.settle := by
  have hfollows : Follows s.gensetFormed0 s.gensetFormed0.settle := .of_genset hseq
  have hhot : s.gensetFormed0.status .stageHot = stageHotHolds s.stp.held0 := State.putStatus_status_self (s.setGsc _) _ _
  have hop : s.gensetFormed0.nsq.op = s.nsq.op := rfl
  have hslot0 := hfollows.slot0
  have hheld0 := hfollows.held0
  rw [State.gensetCompletes0_eq hr]
  refine ⟨hslot0, hheld0, (hfollows.status _).trans hhot, hfollows.wau, hfollows.ptb, fun ha hw => ?_⟩
  rw [State.settle, State.compareF_nsq] at hw
  rw [State.settle, State.compareF_gsc, State.compareF_stp]
  rcases s.gensetFormed0.decideOp_cases with e | ⟨-, -, e⟩ | ⟨hwd, -, -⟩
  · rw [e, hop, ha] at hw
    cases hw
  · rw [e]
    exact ⟨rfl, rfl⟩
  · rw [hop, ha] at hwd
    cases hwd

theorem State.roleCompletes0_genset (s : State) : s.roleCompletes0 .genset = s.gensetCompletes0 := rfl
theorem State.roleCompletes1_genset (s : State) (good : Bool) : s.roleCompletes1 .genset good = s.gensetCompletes1 good := rfl

theorem exec_genset0 {out : List Byte} {sample : OwnReading} (record : List Byte) (hserves : s.serves = true)
    (hr : s.role = some .genset) (hseq : s.mpt.ringSeq < seqMax) (hin : s.stp.inFlight = some ⟨.p0, out, sample⟩) :
    ∃ y t, exec (.exchangeCompletion record) s = .next t ∧ Judged s y ∧ GensetCompleted0 y t := by
  let x := s.setStp { s.stp with inFlight := none }
  have hj : Judged s (x.judge0 .genset sample record) := (Judged.setStp s { s.stp with inFlight := none } rfl rfl).trans
    (.judge0 x .genset sample record)
  have hmpt : (x.judge0 .genset sample record).mpt = s.mpt := hj.kept .mpt (by decide)
  refine ⟨_, _, ?_, hj, State.gensetCompletes0_settled (hj.role.trans hr) (by rw [hmpt]; exact hseq)⟩
  rw [exec_completion0 record hserves hr hin, State.roleCompletes0_genset]

/-! ### A step of the engine at a completion with partner 1 -/

/-- What a step of the engine leaves. -/
structure EngineStepped (s t : State) : Prop where
  kept : KeptBut s t [.gsc, .stp, .mpt, .stu]
  held1 : t.stp.held1 = s.stp.held1
  ringSeq : t.mpt.ringSeq = s.mpt.ringSeq
  status : ∀ y, y ≠ .stall → t.status y = s.status y
  starts : t.gsc.starts = s.gsc.starts
  adoption : s.gsc.adoption = false → t.gsc.adoption = false

theorem EngineStepped.refl (s : State) : EngineStepped s s := ⟨.refl s _, rfl, rfl, fun _ _ => rfl, rfl, id⟩

theorem EngineStepped.trans (h : EngineStepped s t) (k : EngineStepped t u) : EngineStepped s u :=
  ⟨h.kept.trans k.kept, k.held1.trans h.held1, k.ringSeq.trans h.ringSeq, fun y hy => (k.status y hy).trans (h.status y hy),
    k.starts.trans h.starts, k.adoption ∘ h.adoption⟩

theorem EngineStepped.setGsc (s : State) (g : Genset) (h : g.starts = s.gsc.starts)
    (ha : s.gsc.adoption = false → g.adoption = false) : EngineStepped s (s.setGsc g) :=
  ⟨(s.setGsc_kept g).mono (by decide), rfl, rfl, fun _ _ => rfl, h, ha⟩

theorem EngineStepped.of_moved {g : Genset} {k : EngineCommand} (h : EngineMoved s t g k) (hg : g.starts = s.gsc.starts)
    (ha : g.adoption = s.gsc.adoption) : EngineStepped s t :=
  ⟨h.kept.mono (by decide), by rw [h.stp], h.ringSeq, fun y _ => State.status_of_stu y (h.kept .stu (by decide)),
    by rw [h.gsc]; exact hg, fun hs => by rw [h.gsc]; exact ha.trans hs⟩

theorem EngineStepped.engineOff (hr : s.role = some .genset) (hseq : s.mpt.ringSeq < seqMax) (n : Nat) :
    EngineStepped s (s.engineOff n) := .of_moved (.off hr hseq n) rfl rfl

theorem EngineStepped.role_eq (h : EngineStepped s t) : t.role = s.role := h.kept.role_eq (by decide)

theorem EngineStepped.engineCooldown (hr : s.role = some .genset) : EngineStepped s s.engineCooldown :=
  .of_moved (.cooldown hr) rfl rfl

theorem EngineStepped.engineWithdrawn (hr : s.role = some .genset) (hseq : s.mpt.ringSeq < seqMax) :
    EngineStepped s s.engineWithdrawn := by
  unfold State.engineWithdrawn
  split
  · exact .engineCooldown hr
  · exact .engineCooldown hr
  · exact .engineOff hr hseq 20
  all_goals exact .refl s

theorem EngineStepped.engineStalls (hr : s.role = some .genset) (hseq : s.mpt.ringSeq < seqMax) : EngineStepped s s.engineStalls := by
  have hput : ∀ x : State, EngineStepped x (x.putStatus .stall true) := fun x =>
    ⟨(KeptBut.refl x _).putStatus (by decide) _ _, rfl, rfl, fun y hy => State.putStatus_status_ne _ _ hy, rfl, id⟩
  let x := (s.setGsc { s.gsc with run := Timer.stopped, runMet := false }).putStatus .stall true
  exact ((EngineStepped.setGsc s { s.gsc with run := Timer.stopped, runMet := false } rfl id).trans (hput _)).trans
    (.engineOff (s := x) hr hseq 20)

theorem EngineStepped.testEngine (hr : s.role = some .genset) (hseq : s.mpt.ringSeq < seqMax) (report : EngineReport)
    (coolant : Int) : EngineStepped s (s.testEngine report coolant) := by
  unfold State.testEngine
  split
  · split
    · exact .of_moved (.warming hr) rfl rfl
    · exact .refl s
  · split
    · split
      · exact .of_moved (.running hr) rfl rfl
      · exact .refl s
    · exact .engineStalls hr hseq
  · split
    · exact .refl s
    · exact .engineStalls hr hseq
  · split
    · exact .refl s
    · exact .engineOff hr hseq 20
  all_goals exact .refl s

/-- An engine found running before the node's operating state is looked at (R108). -/
def State.adopted (s : State) (coolant : Int) : State :=
  if coolant < 50 then (s.setGsc { s.gsc with off := s.gsc.off.halt, runMet := true, warm := Timer.started }).enterEngine .warming
  else (s.setGsc { s.gsc with off := s.gsc.off.halt, runMet := true }).enterEngine .running

theorem EngineStepped.adopted (hr : s.role = some .genset) (coolant : Int) : EngineStepped s (s.adopted coolant) := by
  unfold State.adopted
  split
  · exact .of_moved (.of_enter hr _ _) rfl rfl
  · exact .of_moved (.of_enter hr _ _) rfl rfl

theorem State.adopt_eq (s : State) (coolant : Int) : s.adopt coolant
    = if (s.adopted coolant).nsq.op = .withdrawn then (s.adopted coolant).engineCooldown else s.adopted coolant := by
  unfold State.adopt State.adopted
  dsimp only
  split <;> rfl

theorem EngineStepped.testAdoption (hr : s.role = some .genset) (report : EngineReport) (coolant : Int) :
    EngineStepped s (s.testAdoption report coolant) := by
  have hset : EngineStepped s (s.setGsc { s.gsc with adoption := false }) :=
    .setGsc s _ rfl fun _ => rfl
  unfold State.testAdoption
  dsimp only
  split
  · rw [State.adopt_eq]
    have ha : EngineStepped (s.setGsc { s.gsc with adoption := false })
        ((s.setGsc { s.gsc with adoption := false }).adopted coolant) :=
      .adopted (s := s.setGsc { s.gsc with adoption := false }) hr coolant
    split
    · exact (hset.trans ha).trans (.engineCooldown (ha.role_eq.trans hr))
    · exact hset.trans ha
  · exact hset

/-! ### A record of the engine controller judged (R137, R161, R162) -/

theorem State.withdraws_of_more (h : s.withdraws = true)
    (hmore : ∀ y, statusIn withdrawingSet y = true → s.status y = true → t.status y = true) : t.withdraws = true := by
  by_contra hno
  have hclear : ∀ y, statusIn withdrawingSet y = true → t.status y = s.status y := fun y hy => by
    have ht : t.status y = false := Bool.eq_false_iff.mpr fun ht => hno (State.withdraws_of_status hy ht)
    rw [ht]
    exact (Bool.eq_false_iff.mpr fun hsy => hno (State.withdraws_of_status hy (hmore y hy hsy))).symm
  exact hno ((State.withdraws_of_status_eq hclear).trans h)

/-- A good record of the engine controller changes no status. -/
theorem State.judge1_genset_good (hf : FaultLaw s) (hr : s.role = some .genset) {record : List Byte}
    (hgood : recordFails (s.stp.held1.map Partner1.nibble) record = false) :
    (∀ y, (s.judge1 .genset record).status y = s.status y)
    ∧ (s.judge1 .genset record).stp.held1 = some (partner1OfRecord .genset record) := by
  rw [State.judge1_of_good hgood]
  refine ⟨fun y => ?_, rfl⟩
  by_cases hy : y = .partnerFault
  · subst hy
    rw [State.putStatus_status_self, hf, hr]
    rfl
  · exact State.putStatus_status_ne _ _ hy

/-- A record judged in the GENSET role brings no withdrawal, but STAGE_LOST in ACTIVE. -/
theorem State.judge1_genset_quiet (hs : Settled s) (hf : FaultLaw s) (hr : s.role = some .genset) {record : List Byte}
    (hq : recordFails (s.stp.held1.map Partner1.nibble) record = false ∨ s.stp.fail1 ≠ 4 ∨ s.nsq.op ≠ .active) :
    (s.nsq.op = .active → (s.judge1 .genset record).withdraws = false)
    ∧ (s.nsq.op = .withdrawn → (s.judge1 .genset record).withdraws = true)
    ∧ (s.judge1 .genset record).status .stall = s.status .stall := by
  obtain ⟨hactive, hwithdrawn, -⟩ := hs
  cases hrec : recordFails (s.stp.held1.map Partner1.nibble) record with
  | false =>
    obtain ⟨hstatus, -⟩ := State.judge1_genset_good hf hr hrec
    have hw : (s.judge1 .genset record).withdraws = s.withdraws := State.withdraws_of_status_eq fun y _ => hstatus y
    rw [hw]
    exact ⟨hactive, hwithdrawn, hstatus _⟩
  | true =>
    obtain ⟨-, hlost, hstatus⟩ := State.judge1_of_fails (role := .genset) hf hrec
    refine ⟨fun ha => ?_, fun hop => ?_, hstatus _ (by decide)⟩
    · have h4 : s.stp.fail1 ≠ 4 := by
        rcases hq with h | h | h
        · rw [hrec] at h; cases h
        · exact h
        · exact absurd ha h
      have hfive : fifthFailure s.stp.settle.isRunning s.stp.fail1 = false := by
        rw [fifthFailure, beq_false_of_ne h4, Bool.false_and]
      rw [hfive, Bool.or_false] at hlost
      rw [State.withdraws_of_status_eq (s := s) fun y _ => ?_]
      · exact hactive ha
      · by_cases hy : y = .stageLost
        · rw [hy]; exact hlost
        · exact hstatus y hy
    · refine State.withdraws_of_more (hwithdrawn hop) fun y _ hsy => ?_
      by_cases hy : y = .stageLost
      · subst hy
        rw [hlost, hsy, Bool.true_or]
      · rw [hstatus y hy, hsy]

/-! ### A completion with partner 1 -/

/-- The engine after SHUTDOWN, where it is given (R103, log entry 16). -/
def State.shutdownTaken (s : State) : State := if s.given.shutdown then s.engineWithdrawn else s

/-- The engine after SHUTDOWN and the test of a report (R103, R108, log entry 16). -/
def State.reportTaken (s : State) (good : Bool) (report : EngineReport) (coolant : Int) : State :=
  if s.shutdownTaken.gsc.adoption && good then s.shutdownTaken.testAdoption report coolant
  else s.shutdownTaken.testEngine report coolant

theorem EngineStepped.shutdown (hr : s.role = some .genset) (hseq : s.mpt.ringSeq < seqMax) :
    EngineStepped s s.shutdownTaken := by
  unfold State.shutdownTaken
  split
  · exact .engineWithdrawn hr hseq
  · exact .refl s

theorem EngineStepped.reportTaken (hr : s.role = some .genset) (hseq : s.mpt.ringSeq < seqMax) (good : Bool)
    (report : EngineReport) (coolant : Int) : EngineStepped s (s.reportTaken good report coolant) := by
  have hw := EngineStepped.shutdown hr hseq
  unfold State.reportTaken
  generalize s.shutdownTaken = w at hw
  split
  · exact hw.trans (.testAdoption (hw.role_eq.trans hr) _ _)
  · exact hw.trans (.testEngine (hw.role_eq.trans hr) (by rw [hw.ringSeq]; exact hseq) _ _)

theorem State.gensetCompletes1_eq (hr : s.role = some .genset) (hseq : s.mpt.ringSeq < seqMax) {report : EngineReport} {coolant : Int}
    (hrec : engineRecord s.stp.held1 = some (report, coolant)) (good : Bool) : s.gensetCompletes1 good
      = (s.reportTaken good report coolant).writeSlot1 (.engine (s.reportTaken good report coolant).gsc.command) := by
  have hw := EngineStepped.shutdown hr hseq
  have hheld : engineRecord s.shutdownTaken.stp.held1 = some (report, coolant) := by rw [hw.held1, hrec]
  show (match engineRecord s.shutdownTaken.stp.held1 with
    | some (report, coolant) => _
    | none => s.shutdownTaken) = _
  rw [hheld]
  rfl

/-- What a completion with partner 1 has made when its event ends, the engine's step being `v`. -/
structure GensetCompleted1 (s v t : State) : Prop where
  gsc : t.gsc = v.gsc
  op : t.nsq.op = s.nsq.op
  slot1 : t.stp.slot1 = some (.engine v.gsc.command)
  wau : t.wau = s.wau
  status : ∀ y, t.status y = v.status y

theorem State.gensetCompletes1_settled (hr : s.role = some .genset) (hseq : s.mpt.ringSeq < seqMax) {report : EngineReport}
    {coolant : Int} (hrec : engineRecord s.stp.held1 = some (report, coolant)) (good : Bool)
    (ha : s.nsq.op = .active → s.withdraws = false) (hwd : s.nsq.op = .withdrawn → s.withdraws = true) :
    GensetCompleted1 s (s.reportTaken good report coolant) (s.gensetCompletes1 good).settle := by
  have hstep := EngineStepped.reportTaken hr hseq good report coolant
  rw [State.gensetCompletes1_eq hr hseq hrec]
  generalize s.reportTaken good report coolant = v at hstep
  let z := v.writeSlot1 (.engine v.gsc.command)
  have hnsq : z.nsq = s.nsq := hstep.kept .nsq (by decide)
  have hw : z.withdraws = s.withdraws := State.withdraws_of_status_eq (t := z) fun y hy =>
    hstep.status y (by rintro rfl; revert hy; decide)
  have hsettle : z.settle = z.compareF := State.settle_eq_compareF (by rw [hnsq, hw]; exact ha) (by rw [hnsq, hw]; exact hwd)
  show GensetCompleted1 s v z.settle
  rw [hsettle]
  refine ⟨?_, ?_, ?_, ?_, fun y => ?_⟩
  · rw [State.compareF_gsc]
    rfl
  · rw [State.compareF_nsq, hnsq]
  · rw [State.compareF_stp]
    rfl
  · rw [State.compareF_wau]
    exact hstep.kept .wau (by decide)
  · rw [State.compareF_status]
    rfl

/-- The report that a completion with partner 1 takes: the good record's, or the last good one's (R96). -/
def ReportRead (s : State) (record : List Byte) (report : EngineReport) (coolant : Int) : Prop :=
  recordFails (s.stp.held1.map Partner1.nibble) record = false ∧ report = engineReportOfCode (byteAt record 1).toNat
      ∧ coolant = temperature (byteAt record 5)
    ∨ recordFails (s.stp.held1.map Partner1.nibble) record = true ∧ (s.stp.fail1 ≠ 4 ∨ s.nsq.op ≠ .active)
      ∧ ∃ nib, s.stp.held1 = some ⟨nib, .controller report coolant⟩

theorem exec_genset1 {out : List Byte} {sample : OwnReading} {record : List Byte} (hs : Settled s) (hf : FaultLaw s)
    (hserves : s.serves = true) (hr : s.role = some .genset) (hseq : s.mpt.ringSeq < seqMax)
    (hin : s.stp.inFlight = some ⟨.p1, out, sample⟩) {report : EngineReport} {coolant : Int}
    (hread : ReportRead s record report coolant) :
    ∃ y t, exec (.exchangeCompletion record) s = .next t ∧ Judged s y ∧ y.status .stall = s.status .stall
      ∧ GensetCompleted1 y (y.reportTaken (!recordFails (s.stp.held1.map Partner1.nibble) record) report coolant) t := by
  let x := s.setStp { s.stp with inFlight := none }
  let y := x.judge1 .genset record
  have hj : Judged s y := (Judged.setStp s { s.stp with inFlight := none } rfl rfl).trans (.judge1 x .genset record)
  have hmpt : y.mpt = s.mpt := hj.kept .mpt (by decide)
  have hnsq : y.nsq = s.nsq := hj.kept .nsq (by decide)
  obtain ⟨ha, hwd, hstall⟩ := State.judge1_genset_quiet (s := x) (record := record) hs hf hr (by
    rcases hread with ⟨h, -⟩ | ⟨-, h, -⟩
    · exact .inl h
    · exact .inr h)
  have hrec : engineRecord y.stp.held1 = some (report, coolant) := by
    rcases hread with ⟨hgood, rfl, rfl⟩ | ⟨hfail, -, nib, hheld⟩
    · rw [(State.judge1_genset_good (s := x) (record := record) hf hr hgood).2]
      rfl
    · have hstp : y.stp = _ := (State.judge1_of_fails (s := x) (role := .genset) (record := record) hf hfail).1
      rw [hstp]
      show engineRecord s.stp.held1 = _
      rw [hheld]
      rfl
  refine ⟨y, _, ?_, hj, hstall, State.gensetCompletes1_settled (s := y) (hj.role.trans hr) (by rw [hmpt]; exact hseq) hrec _
    (by rw [hnsq]; exact ha) (by rw [hnsq]; exact hwd)⟩
  rw [exec_completion1 record hserves hr hin, State.roleCompletes1_genset]

end
end Sys2Proof.Machine
end

/-! # The GENSET role's completions settled (R91, R96, R97, R99, R101 to R104, R108) -/
section
namespace Sys2Proof.Machine

section
variable {c : Instr} {s t u : State}

/-! ### The test of a report by engine state (R96, R97, R101, R102) -/

theorem State.testEngine_of_cranking (h : s.gsc.engine = .cranking) (report : EngineReport) (coolant : Int) :
    s.testEngine report coolant = if report = .running then s.engineWarming else s := by
  simp only [State.testEngine, h]

theorem State.testEngine_of_warming (h : s.gsc.engine = .warming) (report : EngineReport) (coolant : Int) :
    s.testEngine report coolant
      = if report = .running then (if 50 ≤ coolant then s.engineRunning else s) else s.engineStalls := by
  simp only [State.testEngine, h]

theorem State.testEngine_of_running (h : s.gsc.engine = .running) (report : EngineReport) (coolant : Int) :
    s.testEngine report coolant = if report = .running then s else s.engineStalls := by
  simp only [State.testEngine, h]

theorem State.testEngine_of_cooldown (h : s.gsc.engine = .cooldown) (report : EngineReport) (coolant : Int) :
    s.testEngine report coolant = if report = .running then s else s.engineOff 20 := by
  simp only [State.testEngine, h]

theorem State.testEngine_of_rest (h : s.gsc.engine = .off ∨ s.gsc.engine = .faulted) (report : EngineReport) (coolant : Int) :
    s.testEngine report coolant = s := by
  rcases h with h | h <;> simp only [State.testEngine, h]

/-- An unexpected stop (R102). -/
theorem State.engineStalls_frame (hr : s.role = some .genset) (hseq : s.mpt.ringSeq < seqMax) :
    s.engineStalls.gsc = ({ s.gsc with run := Timer.stopped, runMet := false }.enterOff 20).reform s.mpt.copy s.nsq.op s.stp.held0
    ∧ s.engineStalls.status .stall = true := by
  let x := (s.setGsc { s.gsc with run := Timer.stopped, runMet := false }).putStatus .stall true
  have hm : EngineMoved x (x.engineOff 20) (x.gsc.enterOff 20) .stop := .off (s := x) hr hseq 20
  have hstall : x.status .stall = true := State.putStatus_status_self _ _ _
  exact ⟨hm.gsc, (State.status_of_stu _ (hm.kept .stu (by decide))).trans hstall⟩

/-- A running engine adopted (R108). -/
theorem State.testAdoption_frame (hr : s.role = some .genset) (report : EngineReport) (coolant : Int) :
    (s.testAdoption report coolant).gsc.adoption = false
    ∧ (report = .running → s.nsq.op ≠ .withdrawn → (s.testAdoption report coolant).gsc.runMet = true
        ∧ (s.testAdoption report coolant).gsc.command = .run
        ∧ (50 ≤ coolant → (s.testAdoption report coolant).gsc.engine = .running)
        ∧ (¬ 50 ≤ coolant → (s.testAdoption report coolant).gsc.engine = .warming
          ∧ (s.testAdoption report coolant).gsc.warm = ⟨true, 0⟩ ∧ (s.testAdoption report coolant).gsc.run = s.gsc.run))
    ∧ (report = .running → s.nsq.op = .withdrawn → (s.testAdoption report coolant).gsc.engine = .cooldown
        ∧ (s.testAdoption report coolant).gsc.cooldown = ⟨true, 0⟩ ∧ (s.testAdoption report coolant).gsc.runMet = true)
    ∧ (report ≠ .running → (s.testAdoption report coolant).gsc = { s.gsc with adoption := false }) := by
  let x := s.setGsc { s.gsc with adoption := false }
  have hform : s.testAdoption report coolant = if report = .running then x.adopt coolant else x := rfl
  have hwarm : coolant < 50 → EngineMoved x (x.adopted coolant)
      ({ x.gsc with off := x.gsc.off.halt, runMet := true, warm := Timer.started }.enter .warming) .run := fun h => by
    rw [State.adopted, if_pos h]
    exact .of_enter (s := x) hr _ _
  have hhot : ¬ coolant < 50 → EngineMoved x (x.adopted coolant)
      ({ x.gsc with off := x.gsc.off.halt, runMet := true }.enter .running) .run := fun h => by
    rw [State.adopted, if_neg h]
    exact .of_enter (s := x) hr _ _
  have hstep : EngineStepped x (x.adopted coolant) := .adopted (s := x) hr coolant
  have hop : (x.adopted coolant).nsq.op = s.nsq.op := congrArg Sequencer.op (hstep.kept .nsq (by decide))
  have hmet : (x.adopted coolant).gsc.runMet = true ∧ (x.adopted coolant).gsc.command = .run
      ∧ (x.adopted coolant).gsc.adoption = false := by
    by_cases h : coolant < 50
    · rw [(hwarm h).gsc]
      exact ⟨rfl, rfl, rfl⟩
    · rw [(hhot h).gsc]
      exact ⟨rfl, rfl, rfl⟩
  have hcool : EngineMoved (x.adopted coolant) (x.adopted coolant).engineCooldown (x.adopted coolant).gsc.enterCooldown .run :=
    .cooldown (hstep.role_eq.trans hr)
  obtain ⟨hrm, hcommand, hadoption⟩ := hmet
  rw [hform, State.adopt_eq, hop]
  refine ⟨?_, fun hrun hne => ?_, fun hrun hw => ?_, fun hne => ?_⟩
  · split
    · split
      · rw [hcool.gsc]
        exact hadoption
      · exact hadoption
    · rfl
  · rw [if_pos hrun, if_neg hne]
    refine ⟨hrm, hcommand, fun h => ?_, fun h => ?_⟩
    · rw [(hhot (by omega)).gsc]
      rfl
    · rw [(hwarm (by omega)).gsc]
      exact ⟨rfl, rfl, rfl⟩
  · rw [if_pos hrun, if_pos hw, hcool.gsc]
    exact ⟨rfl, rfl, hrm⟩
  · rw [if_neg hne]
    rfl

/-! ### SHUTDOWN at a completion with partner 1 (R103, log entry 16) -/

theorem State.reportTaken_of_given (h : s.given.shutdown = false ∨ s.gsc.engine = .off) (good : Bool) (report : EngineReport)
    (coolant : Int) : s.reportTaken good report coolant
      = if s.gsc.adoption && good then s.testAdoption report coolant else s.testEngine report coolant := by
  have hw : s.shutdownTaken = s := by
    unfold State.shutdownTaken
    split
    · next hsd =>
      rcases h with h | h
      · rw [h] at hsd; cases hsd
      · simp only [State.engineWithdrawn, h]
    · rfl
  rw [State.reportTaken, hw]

/-- What SHUTDOWN and the test after it make of the engine, no adoption pending. -/
theorem State.reportTaken_of_shutdown (hr : s.role = some .genset) (hseq : s.mpt.ringSeq < seqMax) (hsd : s.given.shutdown = true)
    (hadopt : s.gsc.adoption = false) (good : Bool) (report : EngineReport) (coolant : Int) :
    let v := s.reportTaken good report coolant
    v.gsc.failures = s.gsc.failures ∧ v.status .stall = s.status .stall
    ∧ (s.gsc.engine = .warming ∨ s.gsc.engine = .running → report = .running → v.gsc.engine = .cooldown
        ∧ v.gsc.cooldown = ⟨true, 0⟩ ∧ v.gsc.warm = ⟨false, 0⟩ ∧ v.gsc.pSet = 0 ∧ v.gsc.ownPo = 0 ∧ v.gsc.ownPa = 0
        ∧ v.gsc.command = .run)
    ∧ (s.gsc.engine = .warming ∨ s.gsc.engine = .running ∨ s.gsc.engine = .cooldown → ¬ report = .running →
        v.gsc.engine = .off ∧ v.gsc.dwell = 20 ∧ v.gsc.off = ⟨true, 0⟩ ∧ v.gsc.command = .stop)
    ∧ (s.gsc.engine = .cranking → v.gsc.engine = .off ∧ v.gsc.crank = ⟨false, 0⟩ ∧ v.gsc.off = ⟨true, 0⟩ ∧ v.gsc.dwell = 20
        ∧ v.gsc.command = .stop)
    ∧ (s.gsc.engine = .cooldown → report = .running → v.gsc = s.gsc)
    ∧ (s.gsc.engine = .off ∨ s.gsc.engine = .faulted → v.gsc = s.gsc) := by
  intro v
  obtain ⟨hdeliver, hcrank, hrest⟩ := State.engineWithdrawn_cases hr hseq
  have hstep : EngineStepped s s.shutdownTaken := .shutdown hr hseq
  have hw : s.shutdownTaken = s.engineWithdrawn := if_pos hsd
  have hv : v = s.shutdownTaken.testEngine report coolant := if_neg (by rw [hstep.adoption hadopt]; exact Bool.false_ne_true)
  have hwr : s.shutdownTaken.role = some .genset := hstep.role_eq.trans hr
  have hwseq : s.shutdownTaken.mpt.ringSeq < seqMax := by rw [hstep.ringSeq]; exact hseq
  rw [← hw] at hdeliver hcrank hrest
  generalize s.shutdownTaken = w at hdeliver hcrank hrest hv hwr hwseq
  have hoff : EngineMoved w (w.engineOff 20) (w.gsc.enterOff 20) .stop := .off hwr hwseq 20
  have hstall : ∀ {a b : State} {g : Genset} {k : EngineCommand}, EngineMoved a b g k → b.status .stall = a.status .stall := fun hm =>
    State.status_of_stu _ (hm.kept .stu (by decide))
  have hcooling : w.gsc.engine = .cooldown → w.gsc.failures = s.gsc.failures → w.status .stall = s.status .stall →
      v.gsc.failures = s.gsc.failures ∧ v.status .stall = s.status .stall ∧ (report = .running → v = w)
      ∧ (¬ report = .running → v.gsc.engine = .off ∧ v.gsc.dwell = 20 ∧ v.gsc.off = ⟨true, 0⟩ ∧ v.gsc.command = .stop) := by
    intro hcool hf hst
    rw [hv, State.testEngine_of_cooldown hcool]
    refine ⟨?_, ?_, fun h => if_pos h, fun h => ?_⟩
    · split
      · exact hf
      · rw [hoff.gsc]
        exact hf
    · split
      · exact hst
      · exact (hstall hoff).trans hst
    · rw [if_neg h, hoff.gsc]
      exact ⟨rfl, rfl, rfl, rfl⟩
  have hmoving : s.gsc.engine = .warming ∨ s.gsc.engine = .running → v.gsc.failures = s.gsc.failures
      ∧ v.status .stall = s.status .stall ∧ (report = .running → v.gsc.engine = .cooldown
        ∧ v.gsc.cooldown = ⟨true, 0⟩ ∧ v.gsc.warm = ⟨false, 0⟩ ∧ v.gsc.pSet = 0 ∧ v.gsc.ownPo = 0 ∧ v.gsc.ownPa = 0
        ∧ v.gsc.command = .run)
      ∧ (¬ report = .running → v.gsc.engine = .off ∧ v.gsc.dwell = 20 ∧ v.gsc.off = ⟨true, 0⟩ ∧ v.gsc.command = .stop) := by
    intro he
    have hm := hdeliver he
    obtain ⟨hf, hst, hruns, hstops⟩ := hcooling (by rw [hm.gsc]; rfl) (by rw [hm.gsc]; rfl) (hstall hm)
    refine ⟨hf, hst, fun h => ?_, hstops⟩
    rw [hruns h, hm.gsc]
    exact ⟨rfl, rfl, rfl, rfl, ite_self _, ite_self _, rfl⟩
  have hcranking : s.gsc.engine = .cranking → v = w := fun he => by
    rw [hv]
    exact State.testEngine_of_rest (.inl (by rw [(hcrank he).gsc]; rfl)) _ _
  have hresting : s.gsc.engine = .off ∨ s.gsc.engine = .faulted → v = s := fun he => by
    rw [hv, hrest (he.imp_right .inr)]
    exact State.testEngine_of_rest he _ _
  have hcooldown : s.gsc.engine = .cooldown → w = s := fun he => hrest (.inr (.inl he))
  have hboth : v.gsc.failures = s.gsc.failures ∧ v.status .stall = s.status .stall := by
    cases he : s.gsc.engine with
    | warming => exact ⟨(hmoving (.inl he)).1, (hmoving (.inl he)).2.1⟩
    | running => exact ⟨(hmoving (.inr he)).1, (hmoving (.inr he)).2.1⟩
    | cranking =>
      rw [hcranking he, hstall (hcrank he), (hcrank he).gsc]
      exact ⟨rfl, rfl⟩
    | off => rw [hresting (.inl he)]; exact ⟨rfl, rfl⟩
    | faulted => rw [hresting (.inr he)]; exact ⟨rfl, rfl⟩
    | cooldown =>
      have hws := hcooldown he
      obtain ⟨hf, hst, -⟩ := hcooling (by rw [hws]; exact he) (by rw [hws]) (by rw [hws])
      exact ⟨hf, hst⟩
  refine ⟨hboth.1, hboth.2, fun he hrun => (hmoving he).2.2.1 hrun, fun he hrun => ?_, fun he => ?_, fun he hrun => ?_, fun he => ?_⟩
  · rcases he with he | he | he
    · exact (hmoving (.inl he)).2.2.2 hrun
    · exact (hmoving (.inr he)).2.2.2 hrun
    · have hws := hcooldown he
      exact (hcooling (by rw [hws]; exact he) (by rw [hws]) (by rw [hws])).2.2.2 hrun
  · rw [hcranking he, (hcrank he).gsc]
    exact ⟨rfl, rfl, rfl, rfl, rfl⟩
  · have hws := hcooldown he
    rw [(hcooling (by rw [hws]; exact he) (by rw [hws]) (by rw [hws])).2.2.1 hrun, hws]
  · rw [hresting he]

/-! ### A record tested without SHUTDOWN (R96, R97, R101, R102) -/

/-- What a report makes of the engine, no adoption pending. -/
theorem State.testEngine_frame (hr : s.role = some .genset) (hseq : s.mpt.ringSeq < seqMax) (report : EngineReport) (coolant : Int) :
    let v := s.testEngine report coolant
    (s.gsc.engine = .cranking → report = .running → v.gsc.engine = .warming ∧ v.gsc.crank = ⟨false, 0⟩ ∧ v.gsc.failures = 0
        ∧ v.gsc.warm = ⟨true, 0⟩ ∧ v.gsc.run = ⟨true, 0⟩ ∧ v.gsc.runMet = false ∧ v.gsc.command = .run)
    ∧ (s.gsc.engine = .cranking → ¬ report = .running → v.gsc = s.gsc)
    ∧ (s.gsc.engine = .warming → report = .running → 50 ≤ coolant → v.gsc.engine = .running ∧ v.gsc.warm = ⟨false, 0⟩
        ∧ v.gsc.pSet = s.gsc.pSet ∧ v.gsc.run = s.gsc.run)
    ∧ (s.gsc.engine = .warming → report = .running → ¬ 50 ≤ coolant → v.gsc = s.gsc)
    ∧ (s.gsc.engine = .running → report = .running → v.gsc = s.gsc)
    ∧ (s.gsc.engine = .warming ∨ s.gsc.engine = .running → ¬ report = .running →
        v.gsc.engine = .off ∧ v.status .stall = true ∧ v.gsc.dwell = 20 ∧ v.gsc.off = ⟨true, 0⟩ ∧ v.gsc.run = ⟨false, 0⟩
          ∧ v.gsc.runMet = false ∧ v.gsc.pSet = 0 ∧ v.gsc.command = .stop ∧ v.gsc.ownPo = 0 ∧ v.gsc.ownPa = 0
          ∧ v.gsc.failures = s.gsc.failures)
    ∧ (s.gsc.engine = .cooldown → ¬ report = .running → v.gsc.engine = .off ∧ v.gsc.dwell = 20 ∧ v.gsc.cooldown = ⟨false, 0⟩
        ∧ v.status .stall = s.status .stall)
    ∧ (s.gsc.engine = .cooldown → report = .running → v.gsc = s.gsc)
    ∧ (s.gsc.engine = .off ∨ s.gsc.engine = .faulted → v.gsc = s.gsc) := by
  intro v
  have hwarming : EngineMoved s s.engineWarming s.gsc.enterWarming .run := .warming hr
  have hrunning : EngineMoved s s.engineRunning s.gsc.enterRunning .run := .running hr
  have hoff : EngineMoved s (s.engineOff 20) (s.gsc.enterOff 20) .stop := .off hr hseq 20
  obtain ⟨hstalls, hstalled⟩ := State.engineStalls_frame hr hseq
  refine ⟨fun he hrun => ?_, fun he hrun => ?_, fun he hrun hw => ?_, fun he hrun hw => ?_, fun he hrun => ?_, fun he hrun => ?_,
    fun he hrun => ?_, fun he hrun => ?_, fun he => ?_⟩
  · have hv : v = s.engineWarming := (State.testEngine_of_cranking he _ _).trans (if_pos hrun)
    rw [hv, hwarming.gsc]
    exact ⟨rfl, rfl, rfl, rfl, rfl, rfl, rfl⟩
  · have hv : v = s := (State.testEngine_of_cranking he _ _).trans (if_neg hrun)
    rw [hv]
  · have hv : v = s.engineRunning := (State.testEngine_of_warming he _ _).trans ((if_pos hrun).trans (if_pos hw))
    rw [hv, hrunning.gsc]
    exact ⟨rfl, rfl, rfl, rfl⟩
  · have hv : v = s := (State.testEngine_of_warming he _ _).trans ((if_pos hrun).trans (if_neg hw))
    rw [hv]
  · have hv : v = s := (State.testEngine_of_running he _ _).trans (if_pos hrun)
    rw [hv]
  · have hv : v = s.engineStalls := by
      rcases he with he | he
      · exact (State.testEngine_of_warming he _ _).trans (if_neg hrun)
      · exact (State.testEngine_of_running he _ _).trans (if_neg hrun)
    rw [hv, hstalls]
    exact ⟨rfl, hstalled, rfl, rfl, rfl, rfl, rfl, rfl, ite_self _, ite_self _, rfl⟩
  · have hv : v = s.engineOff 20 := (State.testEngine_of_cooldown he _ _).trans (if_neg hrun)
    rw [hv, hoff.gsc]
    exact ⟨rfl, rfl, rfl, State.status_of_stu _ (hoff.kept .stu (by decide))⟩
  · have hv : v = s := (State.testEngine_of_cooldown he _ _).trans (if_pos hrun)
    rw [hv]
  · have hv : v = s := State.testEngine_of_rest he _ _
    rw [hv]

/-- The good record's first data byte read as running (Table 9.9-2). -/
theorem engineReportOfCode_running (x : Byte) : engineReportOfCode x.toNat = .running ↔ x = 2 := by
  obtain ⟨h1, h2, h3⟩ := engineReport_cases x
  refine ⟨fun hr => ?_, h2⟩
  by_contra hne
  by_cases hone : x = 1
  · rw [h1 hone] at hr; cases hr
  · rw [h3 hone hne] at hr; cases hr

/-- The report that is read, by the two facts that the tests take of it. -/
theorem ReportRead.of_facts {record : List Byte} {runs warm : Bool} (h :
    recordFails (s.stp.held1.map Partner1.nibble) record = false ∧ runs = decide (byteAt record 1 = 2)
        ∧ warm = decide (50 ≤ (byteAt record 5).toInt)
      ∨ recordFails (s.stp.held1.map Partner1.nibble) record = true
        ∧ (s.stp.fail1 ≠ 4 ∨ s.nsq.op ≠ .active) ∧ ∃ nib e coolant,
          s.stp.held1 = some ⟨nib, .controller e coolant⟩ ∧ runs = decide (e = .running) ∧ warm = decide (50 ≤ coolant)) :
    ∃ report coolant, ReportRead s record report coolant ∧ (runs = true ↔ report = .running) ∧ (warm = true ↔ 50 ≤ coolant) := by
  rcases h with ⟨hgood, rfl, rfl⟩ | ⟨hfail, hq, nib, e, coolant, hheld, rfl, rfl⟩
  · refine ⟨_, _, .inl ⟨hgood, rfl, rfl⟩, decide_eq_true_iff.trans (engineReportOfCode_running _).symm, ?_⟩
    rw [decide_eq_true_iff, temperature_eq]
    omega
  · exact ⟨e, coolant, .inr ⟨hfail, hq, nib, hheld⟩, decide_eq_true_iff, decide_eq_true_iff⟩

theorem ReportRead.of_report {record : List Byte} {runs : Bool} (h :
    recordFails (s.stp.held1.map Partner1.nibble) record = false ∧ runs = decide (byteAt record 1 = 2)
      ∨ recordFails (s.stp.held1.map Partner1.nibble) record = true
        ∧ (s.stp.fail1 ≠ 4 ∨ s.nsq.op ≠ .active) ∧ ∃ nib e coolant,
          s.stp.held1 = some ⟨nib, .controller e coolant⟩ ∧ runs = decide (e = .running)) :
    ∃ report coolant, ReportRead s record report coolant ∧ (runs = true ↔ report = .running) := by
  rcases h with ⟨hgood, rfl⟩ | ⟨hfail, hq, nib, e, coolant, hheld, rfl⟩
  · exact ⟨_, _, .inl ⟨hgood, rfl, rfl⟩, decide_eq_true_iff.trans (engineReportOfCode_running _).symm⟩
  · exact ⟨e, coolant, .inr ⟨hfail, hq, nib, hheld⟩, decide_eq_true_iff⟩

/-! ### No record heard yet (R158, log entry 41) -/

theorem State.engineWithdrawn_eq_self_of_off (hoff : s.gsc.engine = .off) : s.engineWithdrawn = s := by
  simp only [State.engineWithdrawn, hoff]

theorem State.enterServing_stp_of_off (hoff : s.gsc.engine = .off) (op : OpState) : (s.enterServing op).stp = s.stp := by
  have hkept : (s.takeOp op).requestPrompt.stp = s.stp :=
    ((s.takeOp_kept op).mono (by decide) |>.trans ((KeptBut.refl _ _).requestPrompt (by decide)) :
      KeptBut s _ [.nsq, .pins, .blu, .plu, .gsc, .sli]) .stp (by decide)
  have hstill : (s.takeOp op).requestPrompt.gsc.engine = .off := by
    have hsame : s.gsc.SameEngine (s.takeOp op).requestPrompt.gsc :=
      State.reformOwn_sameEngine ((s.setNsq { s.nsq with op := op }).setPins { s.pins with ready := true, traction := op == .active })
    rw [hsame]
    exact hoff
  rw [State.enterServing_eq, State.engineWithdrawn_eq_self_of_off hstill, ite_self]
  exact hkept

/-- An engine in OFF stays there at the event's end, partner 1's slot and record with it. -/
theorem State.settle_of_off (hoff : s.gsc.engine = .off) :
    s.settle.stp = s.stp ∧ s.settle.gsc.engine = .off ∧ s.settle.gsc.adoption = s.gsc.adoption ∧ s.settle.gsc.off = s.gsc.off := by
  have hsame := State.settle_sameEngine (s := s) (.inl hoff)
  refine ⟨?_, by rw [hsame]; exact hoff, by rw [hsame], by rw [hsame]⟩
  rw [State.settle, State.compareF_stp]
  rcases s.decideOp_cases with e | ⟨-, -, e⟩ | ⟨-, -, e⟩ <;> rw [e]
  · exact State.enterServing_stp_of_off hoff _
  · exact State.enterServing_stp_of_off hoff _

theorem State.gensetCompletes1_unheard (hoff : s.gsc.engine = .off) (hnone : s.stp.held1 = none) (good : Bool) :
    s.gensetCompletes1 good = s := by
  have hshutdown : (if s.given.shutdown then s.engineWithdrawn else s) = s := by
    rw [State.engineWithdrawn_eq_self_of_off hoff, ite_self]
  rw [State.gensetCompletes1, hshutdown, hnone]
  rfl

theorem State.judge1_held1_of_fails {role : Role} {record : List Byte}
    (hfails : recordFails (s.stp.held1.map Partner1.nibble) record = true) : (s.judge1 role record).stp.held1 = s.stp.held1 := by
  have hstp : (s.judge1 role record).stp = (s.recordFailed .p1).stp := by
    unfold State.judge1
    rw [if_pos hfails]
    rfl
  rw [hstp, s.recordFailed_p1.1]

theorem exec_genset1_unheard {out : List Byte} {sample : OwnReading} (record : List Byte) (hserves : s.serves = true)
    (hr : s.role = some .genset) (hin : s.stp.inFlight = some ⟨.p1, out, sample⟩)
    (hfail : recordFails (s.stp.held1.map Partner1.nibble) record = true) (hnone : s.stp.held1 = none)
    (hoff : s.gsc.engine = .off) :
    ∃ t, exec (.exchangeCompletion record) s = .next t ∧ t.stp.slot1 = s.stp.slot1 ∧ t.stp.held1 = none ∧ t.gsc.engine = .off
      ∧ t.gsc.adoption = s.gsc.adoption ∧ t.gsc.off = s.gsc.off := by
  let x := s.setStp { s.stp with inFlight := none }
  let y := x.judge1 .genset record
  have hj : Judged s y := (Judged.setStp s { s.stp with inFlight := none } rfl rfl).trans (.judge1 x .genset record)
  have hgsc : y.gsc = s.gsc := hj.kept .gsc (by decide)
  have hheld : y.stp.held1 = none := (State.judge1_held1_of_fails (s := x) hfail).trans hnone
  have hcompletes (good : Bool) : y.gensetCompletes1 good = y :=
    State.gensetCompletes1_unheard (by rw [hgsc]; exact hoff) hheld good
  obtain ⟨hstp, hengine, hadoption, hdwell⟩ := State.settle_of_off (s := y) (by rw [hgsc]; exact hoff)
  refine ⟨y.settle, ?_, by rw [hstp]; exact hj.slot1, by rw [hstp]; exact hheld, hengine, by rw [hadoption, hgsc], by rw [hdwell, hgsc]⟩
  rw [exec_completion1 record hserves hr hin, State.roleCompletes1_genset, hcompletes]

/-- Settles O42: the judged state's engine takes the report, and the event's end leaves what it made. -/
theorem gensetCompletionsFollowTheEngine : Obligations.GensetCompletionsFollowTheEngine := by
  unfold Obligations.GensetCompletionsFollowTheEngine
  intro s out record sample hserves hr
  refine ⟨fun hin hseq => ?_, fun hin hs hf hseq hgiven runs warm hrec => ?_, fun hin hs hf hseq hsd hadopt runs hrec => ?_,
    fun hin hfails hnone hoff => ?_⟩
  · obtain ⟨y, t, hexec, hj, hslot0, hheld0, hhot, hwau, hptb, hwithdrawn⟩ := exec_genset0 record hserves hr hseq hin
    have hmpt : y.mpt = s.mpt := hj.kept .mpt (by decide)
    have hnsq : y.nsq = s.nsq := hj.kept .nsq (by decide)
    have hgsc : y.gsc = s.gsc := hj.kept .gsc (by decide)
    rw [hmpt, hnsq, hgsc, ← hheld0] at hslot0
    obtain ⟨hm1, hm2, hm3⟩ := generatorSetpoint_cases s.mpt.copy s.gsc s.nsq.op (heldThermal t.stp.held0)
    refine ⟨t, _, hexec, hslot0, ⟨hm1, hm2⟩, hm3, by rw [hhot, ← hheld0, stageHotHolds_iff], hwau.trans (hj.kept .wau (by decide)),
      hptb.trans (hj.kept .ptb (by decide)), fun ha hw => ?_⟩
    obtain ⟨htg, hts⟩ := hwithdrawn (by rw [hnsq]; exact ha) hw
    have hserving := State.enterServing_withdrawn (s := y.gensetFormed0) (hj.role.trans hr) (show y.mpt.ringSeq < seqMax by rw [hmpt]; exact hseq)
    have hengine : y.gensetFormed0.gsc.engine = s.gsc.engine := by rw [← hgsc]; rfl
    have hfailures : y.gensetFormed0.gsc.failures = s.gsc.failures := by rw [← hgsc]; rfl
    have hslot1 : y.gensetFormed0.stp.slot1 = s.stp.slot1 := hj.slot1
    dsimp only at hserving
    rw [hengine, hfailures, hslot1, ← htg, ← hts] at hserving
    exact hserving
  · obtain ⟨report, coolant, hread, hruns, hwarm⟩ := ReportRead.of_facts (s := s) (record := record) (runs := runs) (warm := warm)
      (hrec.imp_right fun h => ⟨h.1, h.2.2⟩)
    obtain ⟨y, t, hexec, hj, hstall, htg, htop, hslot1, hwau, hstatus⟩ := exec_genset1 hs hf hserves hr hseq hin hread
    have hmpt : y.mpt = s.mpt := hj.kept .mpt (by decide)
    have hnsq : y.nsq = s.nsq := hj.kept .nsq (by decide)
    have hgsc : y.gsc = s.gsc := hj.kept .gsc (by decide)
    have hrole : y.role = some .genset := hj.role.trans hr
    have hyseq : y.mpt.ringSeq < seqMax := by rw [hmpt]; exact hseq
    have hstep := EngineStepped.reportTaken hrole hyseq (!recordFails (s.stp.held1.map Partner1.nibble) record) report coolant
    have htaken := State.reportTaken_of_given (s := y) (by
      rw [hj.given, hgsc]
      exact hgiven.imp_right And.right) (!recordFails (s.stp.held1.map Partner1.nibble) record) report coolant
    have hstarts : t.gsc.starts = s.gsc.starts := by rw [htg, hstep.starts, hgsc]
    rw [htaken, hgsc] at htg hstatus hslot1
    have hop : t.nsq.op = s.nsq.op := htop.trans (by rw [hnsq])
    have hwear : t.wau = s.wau := hwau.trans (hj.kept .wau (by decide))
    have hcommand : t.stp.slot1 = some (.engine t.gsc.command) := by rw [hslot1, htg]
    cases ha : s.gsc.adoption with
    | false =>
      have hadoption := (EngineStepped.testEngine hrole hyseq report coolant).adoption (by rw [hgsc]; exact ha)
      rw [ha, Bool.false_and, if_neg Bool.false_ne_true] at htg hstatus
      have htest := State.testEngine_frame hrole hyseq report coolant
      dsimp only at htest
      rw [← htg, ← hstatus, hgsc, hstall, ← hruns, ← hwarm] at htest
      rw [← htg] at hadoption
      obtain ⟨h1, h2, h3, h4, h5, h6, h7, h8, h9⟩ := htest
      exact ⟨t, hexec, hop, hcommand, hstarts, hadoption, hwear, fun _ => h1, fun _ => h2, fun _ => h3, fun _ => h4, fun _ => h5,
        fun _ => h6, fun _ => h7, fun _ => h8, fun _ => h9, nofun, nofun, nofun⟩
    | true =>
      have hgood : recordFails (s.stp.held1.map Partner1.nibble) record = false := by
        rcases hrec with ⟨hgood, -⟩ | ⟨-, hno, -⟩
        · exact hgood
        · rw [ha] at hno; cases hno
      rw [ha, hgood, Bool.not_false, Bool.and_true, if_pos rfl] at htg
      obtain ⟨hnever, hlive, hwithdrawn, hidle⟩ := State.testAdoption_frame hrole report coolant
      rw [← htg, hgsc] at hidle
      rw [← htg, hgsc, hnsq, ← hruns, ← hwarm] at hlive
      rw [← htg, hnsq, ← hruns] at hwithdrawn
      rw [← htg] at hnever
      exact ⟨t, hexec, hop, hcommand, hstarts, hnever, hwear, nofun, nofun, nofun, nofun, nofun, nofun, nofun, nofun, nofun,
        fun _ _ => hlive, fun _ _ => hwithdrawn, fun _ he hno => by
          rw [hidle (mt hruns.mpr hno)]
          exact he⟩
  · obtain ⟨report, coolant, hread, hruns⟩ := ReportRead.of_report (s := s) (record := record) (runs := runs) hrec
    obtain ⟨y, t, hexec, hj, hstall, htg, htop, hslot1, hwau, hstatus⟩ := exec_genset1 hs hf hserves hr hseq hin hread
    have hmpt : y.mpt = s.mpt := hj.kept .mpt (by decide)
    have hnsq : y.nsq = s.nsq := hj.kept .nsq (by decide)
    have hgsc : y.gsc = s.gsc := hj.kept .gsc (by decide)
    have hrole : y.role = some .genset := hj.role.trans hr
    have hyseq : y.mpt.ringSeq < seqMax := by rw [hmpt]; exact hseq
    have hstep := EngineStepped.reportTaken hrole hyseq (!recordFails (s.stp.held1.map Partner1.nibble) record) report coolant
    have htaken := State.reportTaken_of_shutdown hrole hyseq (by rw [hj.given]; exact hsd) (by rw [hgsc]; exact hadopt)
      (!recordFails (s.stp.held1.map Partner1.nibble) record) report coolant
    dsimp only at htaken
    rw [← htg, ← hstatus, hgsc, hstall, ← hruns] at htaken
    obtain ⟨hfailures, hstalled, h1, h2, h3, h4, h5⟩ := htaken
    exact ⟨t, hexec, htop.trans (by rw [hnsq]), by rw [hslot1, htg], by rw [htg, hstep.starts, hgsc],
      hwau.trans (hj.kept .wau (by decide)), hfailures, hstalled, h1, h2, h3, h4, h5⟩
  · exact exec_genset1_unheard record hserves hr hin (by rw [hnone]; exact hfails) hnone hoff

end
end Sys2Proof.Machine
end
